-- ==== Sys2Proof/Word.lean ====
section
/-! DEFINITION. The plain words of the station: bytes, 16-bit host words, 24-bit global addresses and
5-bit station numbers, with no arithmetic of their own. -/

namespace Sys2Proof

/-- One byte, on the span and in shared RAM. -/
abbrev Byte := BitVec 8

/-- One word of the host port. -/
abbrev Word := BitVec 16

/-- An address of the 16 MiB global space. -/
abbrev GlobalAddr := BitVec 24

/-- A station number as frames and the configuration hold it: 1 to 30 name stations, 31 as a destination
names all of them, 0 is the unset value. -/
abbrev Station := BitVec 5

/-- An index into the eight entries of the Delayed Read Table, as bits 7 to 5 of a read tag hold it. -/
abbrev ReadIndex := BitVec 3

/-- An incarnation, as bits 4 to 0 of a read tag hold it. -/
abbrev Incarnation := BitVec 5

/-- An own region index, 0 to 3. -/
abbrev RegionIndex := BitVec 2

end Sys2Proof
end

