-- ==== Sys2Proof/Syntax.lean ====
section
/-! DEFINITION. The commands of the station, one constructor of `Instr` per row of spec/opcode_table.json, with their
operands, and the frames that frame commands carry. -/

namespace Sys2Proof

/-- The byte enables of a host cycle (R158): `lo` is BE0# low (D7-D0, the byte at the even address), `hi` is BE1# low
(D15-D8, the byte at the odd address). -/
structure Enables where
  lo : Bool
  hi : Bool
  deriving DecidableEq, Repr

/-- Which strobes a cycle asserts (R156). -/
inductive Strobe where
  | read
  | write
  | both
  deriving DecidableEq, Repr

/-- The configuration words of Table 9.2, but for TICK_DIV and BIT_DIV, whose writes have rows of their own. -/
inductive ConfigWord where
  | station
  | hbInterval
  | respTimeout
  | retryLimit
  | discardTime
  | regionCtrl (n : RegionIndex)
  | regionLocal (n : RegionIndex)
  | regionGlobal (n : RegionIndex)
  deriving DecidableEq, Repr

/-- The reason codes of a NACK (Table 1.10). -/
inductive NackReason where
  | notMine
  | outOfRange
  | readOnly
  | noticeFull
  deriving DecidableEq, Repr

/-- One region of an ANNOUNCE payload (Table 1.8). -/
structure RegionGroup where
  /-- global base divided by 256 -/
  base : BitVec 16
  /-- length in units of 256 bytes, 1 to 64 -/
  length : BitVec 7
  readWrite : Bool
  prefetch : Bool
  deriving DecidableEq, Repr

/-- The frame kinds (Table 1.7). -/
inductive Kind where
  | readRsp
  | writeAck
  | nack
  | readReq
  | write
  | heartbeat
  | announce
  | leave
  deriving DecidableEq, Repr

/-- The part of a frame that depends on its kind (Table 1.6). -/
inductive Body where
  | readRsp (data : List Byte)
  | writeAck
  | nack (addr : GlobalAddr) (reason : NackReason)
  | readReq (addr : GlobalAddr) (length : Byte)
  | write (addr : GlobalAddr) (data : List Byte)
  | heartbeat
  | announce (interval : Byte) (regions : List RegionGroup)
  | leave
  deriving DecidableEq, Repr

/-- A frame as its fields (Table 1.6); the CRC is computed from them. -/
structure Frame where
  cls : BitVec 2
  src : Station
  /-- the N flag -/
  notice : Bool
  /-- the F flag -/
  fresh : Bool
  dest : Station
  tag : Byte
  body : Body
  deriving DecidableEq, Repr

/-- The commands, in the order of spec/opcode_table.json. A received frame is given as its bytes, from the key to the
second CRC byte; `a` is the word address on A15-A1; a host write of the command register gives `hi`, whether
the high byte is enabled too (its bits are not examined, R134). -/
inductive Instr where
  | powerOnReset
  | powerOnClearEnd
  | pinReset
  | pinResetRelease
  | attemptBegin
  | attemptLost
  | readbackMismatch
  | breakEnd
  | attemptSent
  | frameBroken
  | frameFormatError (bytes : List Byte)
  | clashReport (bytes : List Byte)
  | readRsp (bytes : List Byte)
  | nack (bytes : List Byte)
  | writeAck (bytes : List Byte)
  | readReq (bytes : List Byte)
  | write (bytes : List Byte)
  | heartbeat (bytes : List Byte)
  | announce (bytes : List Byte)
  | leaveFrame (bytes : List Byte)
  | readResponseTimeout (i : ReadIndex)
  | discardExpiry (i : ReadIndex)
  | writeResponseTimeout
  | holdExpiry
  | heartbeatTimerExpiry
  | listenTimerExpiry
  | drainTimerExpiry
  | silenceLimit (n : Station)
  | absenceLimit (n : Station)
  /-- word `w` of the 8,192 words of shared RAM -/
  | hostRamRead (w : BitVec 13) (be : Enables)
  | hostRamWrite (w : BitVec 13) (be : Enables) (d : Word)
  /-- word `w` of the 4,096 words of the aperture, through the notice alias or the plain one -/
  | apertureRead (notice : Bool) (w : BitVec 12) (be : Enables)
  | apertureWrite (notice : Bool) (w : BitVec 12) (be : Enables) (d : Word)
  | join (hi : Bool)
  | leave (hi : Bool)
  | restart (hi : Bool)
  | noticePop (hi : Bool)
  | clearFault (hi : Bool)
  | clearCounters (hi : Bool)
  | unknownCommand (be : Enables) (d : Word)
  | eventFlagsWrite (be : Enables) (d : Word)
  | eventEnableWrite (be : Enables) (d : Word)
  | apertureBaseWrite (be : Enables) (d : Word)
  | configWrite (w : ConfigWord) (be : Enables) (d : Word)
  | bitDivWrite (be : Enables) (d : Word)
  | tickDivWrite (be : Enables) (d : Word)
  /-- the table's one row for reads of registers and view words: `a` may be any of them (log entry 8) -/
  | peerViewFirstWordRead (a : BitVec 15) (be : Enables)
  | registerWriteFault (a : BitVec 15) (be : Enables)
  | unclaimedAccess (dir : Strobe) (a : BitVec 15) (be : Enables)
  | bothStrobesCycle (a : BitVec 15) (be : Enables)
  | noByteEnableCycle (dir : Strobe) (a : BitVec 15)
  | cycleDuringClear (dir : Strobe) (a : BitVec 15) (be : Enables)
  | hostCycleEnd
  | idleFound
  | startBitConfirmed
  | ownFrameEnd
  | tick
  deriving DecidableEq, Repr

end Sys2Proof
end

