-- ==== Sys2Proof/Decode.lean ====
section
/-! DEFINITION. The commands that a word spells by the bits of spec/opcode_table.json. -/

namespace Sys2Proof

/-- The command that the bits `w` spell. No row of spec/opcode_table.json gives bits ("fields" is empty in every row): a
command of this block is an event at its pins, its line or its timers, not a word. -/
def decodeTableWord (_nbits _w : Nat) : Option Instr := none

end Sys2Proof
end

