-- ==== Sys2Proof/Config.lean ====
section
/-! DEFINITION. What the spec fixes once for every TJ230 (capacities), and the model's free values: constants with
no body, which nothing can evaluate. -/

namespace Sys2Proof.Config

/-- Bytes of shared RAM (R84). -/
def ramSize : Nat := 0x4000

/-- Directory entries (R19). -/
def directoryCapacity : Nat := 64

/-- Delayed Read Table entries (R39). -/
def readEntries : Nat := 8

/-- Posted Write Queue entries (R65). -/
def writeQueueCapacity : Nat := 16

/-- Response Queue entries (R96). -/
def responseCapacity : Nat := 4

/-- Notice Queue records (R99). -/
def noticeCapacity : Nat := 8

/-- Peer records (R118). -/
def peerRecords : Nat := 30

/-- Bytes the receive frame buffer holds (R4). -/
def frameBufferSize : Nat := 42

/-- Bits of a byte on the line: a start bit, eight data bits and a stop bit (R3). -/
def bitsPerByte : Nat := 10

/-- Recessive bit times that make the line idle (R4), and dominant bit times of a break (R7). -/
def idleBits : Nat := 12

/-- Consecutive losses that make requests and maintenance frames urgent (R108). -/
def urgentLosses : Nat := 8

/-- Consecutive failures that stop the station (R111). -/
def stopFailures : Nat := 16

/-- FREE VALUE (log entry 1). In the n-th event that purges both agents (R128, R82), whether the read agent's part is
taken before the write agent's: the spec leaves the order open. -/
opaque readPartFirst : Nat → Bool

/-- FREE VALUE (log entry 2). In the n-th loss of a peer, which of the purged delayed reads hands its fault on first
(R61): the spec says that there is a first one and not which. Read modulo their number. -/
opaque firstPurgedRead : Nat → Nat

end Sys2Proof.Config
end

