-- ==== Sys2Proof/Machine/Operands.lean ====
section
/-! DEFINITION. The operand forms of host cycles: byte enables and lanes (R158), the address map (R160, Tables 10.4 and
10.6), the command codes (R134), and the bytes of shared RAM as a list in canonical form (R84). -/

namespace Sys2Proof.Machine

/-! ## Byte enables and lanes (R158) -/

/-- At least one byte is enabled. -/
def someByte (be : Enables) : Bool := be.lo || be.hi

/-- The lanes of D15-D0 that carry an enabled byte. -/
def laneMask (be : Enables) : Word :=
  (if be.hi then 0xFF00#16 else 0) ||| (if be.lo then 0x00FF#16 else 0)

/-- A write of `d` to a word that holds `old`: the disabled byte keeps its value. -/
def mergeLanes (old d : Word) (be : Enables) : Word := (old &&& ~~~laneMask be) ||| (d &&& laneMask be)

/-- Byte address of the word address on A15-A1. -/
def byteAddr (a : BitVec 15) : Nat := a.toNat * 2

/-- First byte of the access to the word at byte address `x`. -/
def accessStart (x : Nat) (be : Enables) : Nat := if be.lo then x else x + 1

/-- Number of bytes accessed. -/
def accessWidth (be : Enables) : Nat := (if be.lo then 1 else 0) + (if be.hi then 1 else 0)

/-- The bytes a write carries, the byte for the lower address first. -/
def laneBytes (be : Enables) (d : Word) : List Byte :=
  (if be.lo then [d.extractLsb' 0 8] else []) ++ (if be.hi then [d.extractLsb' 8 8] else [])

/-- The word a read drives for the bytes read, the lane of a disabled byte as 0. -/
def driveLanes (be : Enables) (bytes : List Byte) : Word :=
  if be.lo then (if be.hi then bytes.getD 1 0 else 0) ++ bytes.getD 0 0
  else if be.hi then bytes.getD 0 0 ++ 0#8
  else 0

/-! ## Registers (Table 10.6) -/

/-- The ten counters (Table 11.5). -/
inductive Counter where
  | rxError
  | rxBroken
  | stale
  | overrun
  | discards
  | writeLoss
  | arbLost
  | txFail
  | tableFull
  | refusedRegions
  deriving DecidableEq, Repr

/-- The registers of the control and status area. -/
inductive Reg where
  | spanState
  | command
  | commandStatus
  | apertureBase
  | eventFlags
  | eventEnable
  | faultStatus
  | faultOp
  | faultReason
  | faultAddrH
  | faultAddrL
  | faultStation
  | noticeCount
  | noticeSrc
  | noticeAddrH
  | noticeAddrL
  | noticeValue
  | dirCount
  | dirGeneration
  | pwqCount
  | drtSummary0
  | drtSummary1
  | tickDiv
  | bitDiv
  | config (w : ConfigWord)
  | counter (c : Counter)
  deriving DecidableEq, Repr

def configAddress : ConfigWord → Nat
  | .station => 0x8040
  | .hbInterval => 0x8046
  | .respTimeout => 0x8048
  | .retryLimit => 0x804A
  | .discardTime => 0x804C
  | .regionCtrl n => 0x8050 + 8 * n.toNat
  | .regionLocal n => 0x8052 + 8 * n.toNat
  | .regionGlobal n => 0x8054 + 8 * n.toNat

def counterAddress : Counter → Nat
  | .rxError => 0x8080
  | .rxBroken => 0x8082
  | .stale => 0x8084
  | .overrun => 0x8086
  | .discards => 0x8088
  | .writeLoss => 0x808A
  | .arbLost => 0x808C
  | .txFail => 0x808E
  | .tableFull => 0x8090
  | .refusedRegions => 0x8092

def regAddress : Reg → Nat
  | .spanState => 0x8000
  | .command => 0x8002
  | .commandStatus => 0x8004
  | .apertureBase => 0x8006
  | .eventFlags => 0x8008
  | .eventEnable => 0x800A
  | .faultStatus => 0x8010
  | .faultOp => 0x8012
  | .faultReason => 0x8014
  | .faultAddrH => 0x8016
  | .faultAddrL => 0x8018
  | .faultStation => 0x801A
  | .noticeCount => 0x8020
  | .noticeSrc => 0x8022
  | .noticeAddrH => 0x8024
  | .noticeAddrL => 0x8026
  | .noticeValue => 0x8028
  | .dirCount => 0x8030
  | .dirGeneration => 0x8032
  | .pwqCount => 0x8034
  | .drtSummary0 => 0x8036
  | .drtSummary1 => 0x8038
  | .tickDiv => 0x8042
  | .bitDiv => 0x8044
  | .config w => configAddress w
  | .counter c => counterAddress c

def allRegionIndexes : List RegionIndex := [0, 1, 2, 3]

def allConfigWords : List ConfigWord :=
  [.station, .hbInterval, .respTimeout, .retryLimit, .discardTime] ++
  allRegionIndexes.flatMap (fun n => [.regionCtrl n, .regionLocal n, .regionGlobal n])

def allCounters : List Counter :=
  [.rxError, .rxBroken, .stale, .overrun, .discards, .writeLoss, .arbLost, .txFail, .tableFull, .refusedRegions]

def allRegs : List Reg :=
  [.spanState, .command, .commandStatus, .apertureBase, .eventFlags, .eventEnable, .faultStatus, .faultOp, .faultReason,
   .faultAddrH, .faultAddrL, .faultStation, .noticeCount, .noticeSrc, .noticeAddrH, .noticeAddrL, .noticeValue, .dirCount,
   .dirGeneration, .pwqCount, .drtSummary0, .drtSummary1, .tickDiv, .bitDiv] ++
  allConfigWords.map .config ++ allCounters.map .counter

/-- The register at a byte address of 8000h to 80FFh, if the table lists one. -/
def regAt (x : Nat) : Option Reg := allRegs.find? (fun r => regAddress r == x)

/-- The Write column of Table 10.6 is not FAULT in every span state. -/
def regWritable : Reg → Bool
  | .command => true
  | .apertureBase => true
  | .eventFlags => true
  | .eventEnable => true
  | .tickDiv => true
  | .bitDiv => true
  | .config _ => true
  | _ => false

/-! ## The address map (R160, Table 10.4) -/

/-- An area of the host window; the views give their slot and the word within it. -/
inductive Area where
  | sharedRam
  | aperture
  | register (r : Reg)
  | peerView (slot word : Nat)
  | dirView (slot word : Nat)
  | readView (slot word : Nat)
  | unclaimed
  deriving DecidableEq, Repr

def areaOf (a : BitVec 15) : Area :=
  let x := byteAddr a
  if x < 0x4000 then .sharedRam
  else if x < 0x8000 then .aperture
  else if x < 0x8100 then
    match regAt x with
    | some r => .register r
    | none => .unclaimed
  else if x < 0x81F0 then .peerView ((x - 0x8100) / 8) (x % 8 / 2)
  else if x < 0x8200 then .unclaimed
  else if x < 0x8400 then .dirView ((x - 0x8200) / 8) (x % 8 / 2)
  else if x < 0x8480 then .readView ((x - 0x8400) / 16) (x % 16 / 2)
  else .unclaimed

/-- A register or a view word, which a read gives the value of (R162). -/
def readsWord : Area → Bool
  | .register _ => true
  | .peerView _ _ => true
  | .dirView _ _ => true
  | .readView _ _ => true
  | _ => false

/-- A write is answered FAULT whatever the state: a read-only register or a view (R163). -/
def refusesWrites : Area → Bool
  | .register r => !regWritable r
  | .peerView _ _ => true
  | .dirView _ _ => true
  | .readView _ _ => true
  | _ => false

/-- Word address of a register. -/
def regWordAddr (r : Reg) : BitVec 15 := BitVec.ofNat 15 (regAddress r / 2)

/-- Word address of word `w` of shared RAM. -/
def ramWordAddr (w : BitVec 13) : BitVec 15 := BitVec.ofNat 15 w.toNat

/-- Word address of word `w` of the aperture: 4000h on for the plain alias, 6000h on for the notice alias. -/
def apertureWordAddr (notice : Bool) (w : BitVec 12) : BitVec 15 :=
  BitVec.ofNat 15 ((if notice then 0x3000 else 0x2000) + w.toNat)

/-! ## Command codes (R134, Table 8.4) -/

/-- The six commands. -/
inductive HostCommand where
  | join
  | leave
  | restart
  | noticePop
  | clearFault
  | clearCounters
  deriving DecidableEq, Repr

def commandCode : HostCommand → Byte
  | .join => 1
  | .leave => 2
  | .restart => 3
  | .noticePop => 4
  | .clearFault => 5
  | .clearCounters => 6

def knownCode (c : Byte) : Bool :=
  [HostCommand.join, .leave, .restart, .noticePop, .clearFault, .clearCounters].any (fun k => commandCode k == c)

/-- The code of a write to COMMAND; a write whose low byte is not enabled carries none, and is recorded as 0 (Table 8.5). -/
def writtenCode (be : Enables) (d : Word) : Byte := if be.lo then d.extractLsb' 0 8 else 0

/-! ## Station numbers -/

/-- 1 to 30, the numbers that have a peer record (R118). -/
def validStation (n : Station) : Bool := n != 0 && n != 31

/-- The stations 1 to 30. -/
def allStations : List Station := (List.range Config.peerRecords).map (fun k => BitVec.ofNat 5 (k + 1))

/-! ## Bytes of shared RAM

A list of the bytes that are not 0, by rising address: R86 clears shared RAM, so an unlisted byte reads 0. -/

/-- What an unlisted address reads as (R86). -/
def clearByte : Byte := 0

def memRead : List (Nat × Byte) → Nat → Byte
  | [], _ => clearByte
  | (k, v) :: rest, a => if k = a then v else memRead rest a

def memWrite : List (Nat × Byte) → Nat → Byte → List (Nat × Byte)
  | [], a, b => if b = clearByte then [] else [(a, b)]
  | (k, v) :: rest, a, b =>
    if a < k then (if b = clearByte then (k, v) :: rest else (a, b) :: (k, v) :: rest)
    else if a = k then (if b = clearByte then rest else (a, b) :: rest)
    else (k, v) :: memWrite rest a b

/-- The bytes written at `a`, `a + 1` and so on. -/
def memWriteBytes (m : List (Nat × Byte)) : Nat → List Byte → List (Nat × Byte)
  | _, [] => m
  | a, b :: rest => memWriteBytes (memWrite m a b) (a + 1) rest

/-- The `n` bytes from `a` on. -/
def memReadBytes (m : List (Nat × Byte)) (a n : Nat) : List Byte := (List.range n).map (fun k => memRead m (a + k))

/-- Addresses from `lo` on, strictly rising and inside shared RAM, and no listed byte equal to what an unlisted one reads. -/
def memWfFrom : Nat → List (Nat × Byte) → Bool
  | _, [] => true
  | lo, (k, v) :: rest => decide (lo ≤ k) && decide (k < Config.ramSize) && decide (v ≠ clearByte) && memWfFrom (k + 1) rest

/-- The canonical form. -/
def memWf (m : List (Nat × Byte)) : Bool := memWfFrom 0 m

end Sys2Proof.Machine
end

