-- ==== Sys2Proof/Machine/State.lean ====
section
/-! DEFINITION. Everything the spec gives the station (chapter 00, Table 2), block by block, as plain data; the reasons for
a stop; and the state right after power-on reset. -/

namespace Sys2Proof.Machine

/-! ## The span interface (chapter 1) -/

/-- The receiver's states (R4, Table 1.2). -/
inductive Receiver where
  | waitIdle
  | idle
  | receiving
  deriving DecidableEq, Repr

/-- The frame kinds that the Response Queue holds, with their own fields (R96, Table 5.5). -/
inductive Answer where
  | readRsp (data : List Byte)
  | writeAck
  | nack (addr : GlobalAddr) (reason : NackReason) (ofWrite : Bool)
  deriving DecidableEq, Repr

/-- One answer waiting to be sent (R96). -/
structure Response where
  dest : Station
  tag : Byte
  answer : Answer
  /-- the model's own: which entry this is, as two may be alike in every field of Table 5.5 (R96, R97, log entry 26) -/
  serial : Nat
  deriving DecidableEq, Repr

/-- A place in the ready list, by the identity of the request (R103, Table 6.1). -/
inductive ReadyItem where
  | read (i : ReadIndex) (inc : Incarnation)
  | write (admission : Word)
  deriving DecidableEq, Repr

/-- What the selector offered, by the identity of Table 6.2; for an ANNOUNCE also the region list of its copy (R115). -/
inductive Offered where
  | response (r : Response)
  | leave
  | announce (fresh : Bool) (regions : List RegionGroup)
  | heartbeat
  | request (item : ReadyItem)
  deriving DecidableEq, Repr

/-- Why a break is on the line: a failure (R7), a failure whose break was under way when the span state became OFFLINE, or
a cut (R9). -/
inductive BreakCause where
  | failure
  | failureThenOffline
  | cut
  deriving DecidableEq, Repr

/-- The phases of a transmission (R5). -/
inductive TxPhase where
  | arbitrating
  | sending
  | breaking (cause : BreakCause)
  deriving DecidableEq, Repr

/-- The transmission in progress (R5). -/
structure Transmission where
  image : List Byte
  item : Offered
  phase : TxPhase
  /-- bits of the frame that have passed: the number of the bit now on the line, 0 the key's start bit (R3, R5) -/
  bitsSent : Nat
  /-- length of the break being sent, in REFCLK periods; 0 when none is (R9) -/
  breakLength : Nat
  deriving DecidableEq, Repr

/-- The span interface. -/
structure SpanInterface where
  receiver : Receiver
  /-- consecutive recessive samples counted in WAIT_IDLE, 0 to 12 (Table 1.2) -/
  idleCount : Nat
  /-- the receive frame buffer, at most 42 bytes, and the count of the frame's bytes (R4) -/
  rxBuffer : List Byte
  rxCount : Nat
  /-- the frame being received is the station's own, and is not taken for checking (R8) -/
  rxOwn : Bool
  /-- a frame of another station has ended with the line idle and has still to be taken for checking (R4, R117, log entry
  25) -/
  untaken : Bool
  /-- that frame was waiting when a JOIN was accepted: it ended before the JOIN, and as a clash report it is one in OFFLINE (R140,
  R148, log entry 27) -/
  fromOffline : Bool
  tx : Option Transmission
  /-- 0 to 8 -/
  lossCount : Nat
  /-- 0 to 16 -/
  failCount : Nat
  deriving DecidableEq, Repr

/-! ## The selector (chapter 6) -/

/-- The ANNOUNCE mark (Table 6.1). -/
inductive AnnounceMark where
  | clear
  | pending
  | pendingFresh
  deriving DecidableEq, Repr

/-- The selector (Table 6.1). A timer is `some n` with n ticks to go, or `none` when stopped (R153). -/
structure Selector where
  ready : List ReadyItem
  leaveMark : Bool
  announceMark : AnnounceMark
  heartbeatMark : Bool
  heartbeatTimer : Option Nat
  deriving DecidableEq, Repr

/-! ## The region directory (chapter 2) -/

/-- A directory entry (R19, Table 2.1). -/
structure DirEntry where
  /-- global base divided by 256 -/
  base : BitVec 16
  /-- 1 to 64 units of 256 bytes -/
  length : BitVec 7
  owner : Station
  readWrite : Bool
  prefetch : Bool
  /-- own region index, for an own entry -/
  own : Option RegionIndex
  deriving DecidableEq, Repr

/-- The own-region statuses (R23, Table 2.3). -/
inductive OwnStatus where
  | disabled
  | notPublished
  | entered
  | eclipsed
  deriving DecidableEq, Repr

/-- The directory: entries in order of global base, the generation (R20), and one status for each own region. -/
structure Directory where
  entries : List DirEntry
  generation : Word
  statuses : List OwnStatus
  deriving DecidableEq, Repr

/-! ## The peer table (chapter 7) -/

/-- The states of a record (R119). -/
inductive Presence where
  | absent
  | present
  | silent
  deriving DecidableEq, Repr

/-- A peer record (R118, Table 7.1). `announced` is yes exactly while the interval is present. -/
structure PeerRecord where
  presence : Presence
  interval : Option Byte
  /-- time since last heard, in ticks -/
  heardAgo : Nat
  /-- outbound write sequence -/
  outbound : Byte
  /-- last applied inbound sequence -/
  lastApplied : Option Byte
  changed : Bool
  deriving DecidableEq, Repr

/-- The reset values of Table 7.1. -/
def PeerRecord.reset : PeerRecord :=
  { presence := .absent, interval := none, heardAgo := 0, outbound := 0, lastApplied := none, changed := false }

/-! ## The read agent (chapter 3) -/

/-- The fault reasons (Table 11.4). -/
inductive FaultReason where
  | noEntry
  | readOnly
  | notMine
  | outOfRange
  | unreachable
  | noAnswer
  | peerLost
  | noticeFull
  | notOnline
  | leaving
  | stopped
  deriving DecidableEq, Repr

/-- The states of a Delayed Read Table entry (R40). -/
inductive ReadState where
  | free
  | waiting
  | ready
  | issued
  | complete
  deriving DecidableEq, Repr

/-- How a fetch ended (Table 3.1). -/
inductive ReadOutcome where
  | ok
  | fault (r : FaultReason)
  deriving DecidableEq, Repr

/-- A Delayed Read Table entry (R39, Table 3.1). -/
structure ReadEntry where
  state : ReadState
  dest : Station
  addr : GlobalAddr
  /-- length of the range: 0, 1, 2 or 32 -/
  length : Nat
  prefetch : Bool
  incarnation : Incarnation
  barrier : Option Word
  /-- queue entries admitted at or before the barrier that still stand in the queue: its first entries (R51) -/
  ahead : Nat
  attempts : Nat
  data : List Byte
  outcome : Option ReadOutcome
  delivered : Bool
  overtaken : Bool
  responseTimer : Option Nat
  discardTimer : Option Nat
  deriving DecidableEq, Repr

/-- A FREE entry, which keeps only its incarnation (R39). -/
def ReadEntry.free (inc : Incarnation) : ReadEntry :=
  { state := .free, dest := 0, addr := 0, length := 0, prefetch := false, incarnation := inc, barrier := none, ahead := 0,
    attempts := 0, data := [], outcome := none, delivered := false, overtaken := false, responseTimer := none,
    discardTimer := none }

/-- The Delayed Read Table, and the indexes of its entries that are not FREE in allocation order, oldest first. -/
structure ReadAgent where
  entries : List ReadEntry
  order : List ReadIndex
  deriving DecidableEq, Repr

/-! ## The write agent (chapter 4) -/

/-- A Posted Write Queue entry (R65, Table 4.1). `inFlight` is its head state. -/
structure PostedWrite where
  admission : Word
  dest : Station
  addr : GlobalAddr
  /-- 1 or 2 bytes, the byte for the lower address first -/
  data : List Byte
  notice : Bool
  sequence : Byte
  attempts : Nat
  inFlight : Bool
  held : Bool
  timer : Option Nat
  deriving DecidableEq, Repr

/-- The Posted Write Queue, oldest first, and the admission counter (R67). -/
structure WriteAgent where
  queue : List PostedWrite
  admission : Word
  deriving DecidableEq, Repr

/-! ## The responder (chapter 5) -/

/-- A notice record (R99, Table 5.6). -/
structure Notice where
  source : Station
  addr : GlobalAddr
  /-- 1 or 2 bytes, the byte at the global address first; their number is the width -/
  value : List Byte
  deriving DecidableEq, Repr

/-- The Response Queue and the Notice Queue, oldest first. -/
structure Responder where
  responses : List Response
  notices : List Notice
  /-- the model's own: how many answers have been appended, the next one's serial (log entry 26) -/
  appended : Nat
  deriving DecidableEq, Repr

/-! ## Station control (chapters 8 and 9) -/

/-- The span states (R133, Table 8.1). -/
inductive SpanState where
  | offline
  | listening
  | announcing
  | online
  | leaving
  | stopped
  deriving DecidableEq, Repr

/-- The stop causes (R133). -/
inductive StopCause where
  | clash
  | txFailures
  deriving DecidableEq, Repr

/-- The refusal codes (Table 8.6). -/
inductive RefusalCode where
  | none
  | wrongState
  | stationUnset
  | timingRange
  | regionRange
  | regionOverlap
  | queueEmpty
  | unknownCommand
  deriving DecidableEq, Repr

/-- COMMAND_STATUS (R135); a command was refused exactly when its refusal code is not NONE. -/
structure CommandStatus where
  code : Byte
  refusal : RefusalCode
  deriving DecidableEq, Repr

/-- The six fields of one configured region (Table 9.1). -/
structure RegionConfig where
  enable : Bool
  readWrite : Bool
  prefetch : Bool
  length : BitVec 7
  /-- local offset in units of 256 bytes -/
  localOffset : BitVec 6
  /-- global base in units of 256 bytes -/
  globalBase : BitVec 16
  deriving DecidableEq, Repr

def RegionConfig.reset : RegionConfig :=
  { enable := false, readWrite := false, prefetch := false, length := 0, localOffset := 0, globalBase := 0 }

/-- The configuration record (R149, Table 9.1). -/
structure ConfigRecord where
  station : Station
  tickDiv : BitVec 6
  bitDiv : BitVec 6
  hbInterval : Byte
  respTimeout : Byte
  retryLimit : BitVec 3
  discardTime : BitVec 7
  regions : List RegionConfig
  deriving DecidableEq, Repr

/-- The reset values of Table 9.1. -/
def ConfigRecord.reset : ConfigRecord :=
  { station := 0, tickDiv := 20, bitDiv := 4, hbInterval := 10, respTimeout := 20, retryLimit := 3, discardTime := 8,
    regions := List.replicate 4 RegionConfig.reset }

/-- Station control. -/
structure StationControl where
  span : SpanState
  stopCause : Option StopCause
  status : CommandStatus
  listenTimer : Option Nat
  drainTimer : Option Nat
  config : ConfigRecord
  /-- REFCLK periods since the last tick, at the end of an event (R152) -/
  tickCount : Nat
  deriving DecidableEq, Repr

/-! ## The host port (chapter 10) -/

/-- The responses (R157, Table 10.2). -/
inductive Reply where
  | ok
  | retry
  | fault
  deriving DecidableEq, Repr

/-- The cycle in progress (section 10.2); `data` is what a read drives on D0-D15. -/
structure Cycle where
  addr : BitVec 15
  dir : Strobe
  be : Enables
  reply : Reply
  data : Option Word
  deriving DecidableEq, Repr

/-- The host port, its input pins that outlast an event, and the power-on clear of shared RAM. -/
structure HostPort where
  apertureBase : BitVec 11
  cycle : Option Cycle
  /-- input pins: the host holds a strobe, so no cycle begins (R155, R156) -/
  strobeHeld : Bool
  /-- input pin: nRST is low (R155) -/
  resetLow : Bool
  /-- the clear of shared RAM is running (R86, R159) -/
  clearing : Bool
  deriving DecidableEq, Repr

/-! ## The event unit (chapter 11) -/

/-- The write-1-to-clear event flags (Table 11.1); the two level flags are read from their sources. -/
structure EventFlags where
  peer : Bool
  directory : Bool
  conflict : Bool
  eclipse : Bool
  span : Bool
  discard : Bool
  overrun : Bool
  deriving DecidableEq, Repr

def EventFlags.reset : EventFlags :=
  { peer := false, directory := false, conflict := false, eclipse := false, span := false, discard := false,
    overrun := false }

/-- The op of a fault (Table 11.2). -/
inductive FaultOp where
  | read
  | write
  deriving DecidableEq, Repr

/-- What an agent hands on (Tables 3.3 and 4.3). -/
structure FaultReport where
  op : FaultOp
  reason : FaultReason
  addr : GlobalAddr
  station : Station
  deriving DecidableEq, Repr

/-- A valid fault record (R168, Table 11.2). -/
structure FaultRecord where
  report : FaultReport
  overflow : Bool
  deriving DecidableEq, Repr

/-- The ten counters (R170, Table 11.5). -/
structure Counters where
  rxError : Word
  rxBroken : Word
  stale : Word
  overrun : Word
  discards : Word
  writeLoss : Word
  arbLost : Word
  txFail : Word
  tableFull : Word
  refusedRegions : Word
  deriving DecidableEq, Repr

def Counters.reset : Counters :=
  { rxError := 0, rxBroken := 0, stale := 0, overrun := 0, discards := 0, writeLoss := 0, arbLost := 0, txFail := 0,
    tableFull := 0, refusedRegions := 0 }

/-- The event unit; `fault` is `none` while the fault record is not valid. -/
structure EventUnit where
  flags : EventFlags
  enables : BitVec 9
  fault : Option FaultRecord
  counters : Counters
  deriving DecidableEq, Repr

/-! ## The station -/

/-- The station's whole state, one field for each block of chapter 00's Table 2, then the model's own two fields. -/
structure State where
  iface : SpanInterface
  sel : Selector
  dir : Directory
  peers : List PeerRecord
  reads : ReadAgent
  writes : WriteAgent
  resp : Responder
  /-- shared RAM: its bytes that are not 0, by rising address -/
  ram : List Host.Cell
  ctl : StationControl
  port : HostPort
  ev : EventUnit
  /-- the model's own: how many free choices have been taken (log entries 1 and 2) -/
  choice : Nat
  /-- the model's own: the commands waiting, first in, first out -/
  pending : List Instr
  deriving DecidableEq, Repr

/-! ## Replacing one block

Every operation changes the state through these; Laws/State.lean holds one lemma per field per update. -/

def State.setIface (s : State) (x : SpanInterface) : State := { s with iface := x }

def State.setSel (s : State) (x : Selector) : State := { s with sel := x }

def State.setDir (s : State) (x : Directory) : State := { s with dir := x }

def State.setPeers (s : State) (x : List PeerRecord) : State := { s with peers := x }

def State.setReads (s : State) (x : ReadAgent) : State := { s with reads := x }

def State.setWrites (s : State) (x : WriteAgent) : State := { s with writes := x }

def State.setResp (s : State) (x : Responder) : State := { s with resp := x }

def State.setRam (s : State) (x : List Host.Cell) : State := { s with ram := x }

def State.setCtl (s : State) (x : StationControl) : State := { s with ctl := x }

def State.setPort (s : State) (x : HostPort) : State := { s with port := x }

def State.setEv (s : State) (x : EventUnit) : State := { s with ev := x }

def State.setChoice (s : State) (x : Nat) : State := { s with choice := x }

def State.setPending (s : State) (x : List Instr) : State := { s with pending := x }

/-! ## The reasons for a stop -/

/-- Why the station stops. -/
inductive Fault where
  /-- Raised by the commands that reach shared RAM through an own directory entry (APERTURE_READ, APERTURE_WRITE, READ_REQ,
  WRITE) when the access would pass 3FFFh. The spec says that this does not arise (R84), since JOIN refuses such a region.
  Safe. -/
  | pastSharedRam
  deriving DecidableEq, Repr

/-- Why a command has no meaning. -/
inductive Refusal where
  /-- Raised by no arm of `exec`: every row of the table has its meaning. Safe. -/
  | notModelled (mnemonic : String)
  /-- Raised by the rows whose operands can spell something that is no command of the row, and only on such operands:
  bytes that make no frame of the row's kind, a station number that names no peer record, an address or a
  value that belongs to another row (`Instr.wellFormed` is false of them). Safe. -/
  | illFormed
  deriving DecidableEq, Repr

/-- The block states after power-on reset and pin reset, each as its chapter gives it. -/
def SpanInterface.reset : SpanInterface :=
  { receiver := .waitIdle, idleCount := 0, rxBuffer := [], rxCount := 0, rxOwn := false, untaken := false,
    fromOffline := false, tx := none, lossCount := 0, failCount := 0 }

def Selector.reset : Selector :=
  { ready := [], leaveMark := false, announceMark := .clear, heartbeatMark := false, heartbeatTimer := none }

def Directory.reset : Directory :=
  { entries := [], generation := 0, statuses := List.replicate 4 .disabled }

def ReadAgent.reset : ReadAgent :=
  { entries := List.replicate Config.readEntries (ReadEntry.free 0), order := [] }

def WriteAgent.reset : WriteAgent := { queue := [], admission := 0 }

def Responder.reset : Responder := { responses := [], notices := [], appended := 0 }

def StationControl.reset : StationControl :=
  { span := .offline, stopCause := none, status := { code := 0, refusal := .none }, listenTimer := none, drainTimer := none,
    config := ConfigRecord.reset, tickCount := 0 }

def EventUnit.reset : EventUnit :=
  { flags := EventFlags.reset, enables := 0, fault := none, counters := Counters.reset }

/-- The station right after power-on reset: every block at its reset values, shared RAM being cleared (R86, R159), no
strobe held and nRST high. -/
def State.reset : State :=
  { iface := SpanInterface.reset
    sel := Selector.reset
    dir := Directory.reset
    peers := List.replicate Config.peerRecords PeerRecord.reset
    reads := ReadAgent.reset
    writes := WriteAgent.reset
    resp := Responder.reset
    ram := []
    ctl := StationControl.reset
    port := { apertureBase := 0, cycle := none, strobeHeld := false, resetLow := false, clearing := true }
    ev := EventUnit.reset
    choice := 0
    pending := [] }

end Sys2Proof.Machine
end

