-- ==== Sys2Proof/Machine/Flags.lean ====
section
/-! DEFINITION. The event unit (chapter 11): event flags and INT#, the fault record, the counters. -/

namespace Sys2Proof.Machine

/-! ## Event flags (R166) -/

/-- The write-1-to-clear flags. -/
inductive EventFlag where
  | peer
  | directory
  | conflict
  | eclipse
  | span
  | discard
  | overrun
  deriving DecidableEq, Repr

def setFlag (f : EventFlags) : EventFlag → EventFlags
  | .peer => { f with peer := true }
  | .directory => { f with directory := true }
  | .conflict => { f with conflict := true }
  | .eclipse => { f with eclipse := true }
  | .span => { f with span := true }
  | .discard => { f with discard := true }
  | .overrun => { f with overrun := true }

/-- The cause of a write-1-to-clear flag sets it, whatever its enable (R166). -/
def raise (f : EventFlag) (s : State) : State := s.setEv { s.ev with flags := setFlag s.ev.flags f }

/-- NOTICE is set exactly while the Notice Queue is not empty (R99). -/
def noticeFlag (s : State) : Bool := !s.resp.notices.isEmpty

/-- FAULT is set exactly while the fault record is valid (R168). -/
def faultFlag (s : State) : Bool := s.ev.fault.isSome

/-- EVENT_FLAGS, by the bits of Table 11.1. -/
def flagsWord (s : State) : Word :=
  0#7 ++ BitVec.ofBool s.ev.flags.overrun ++ BitVec.ofBool s.ev.flags.discard ++ BitVec.ofBool s.ev.flags.span ++
    BitVec.ofBool s.ev.flags.eclipse ++ BitVec.ofBool s.ev.flags.conflict ++ BitVec.ofBool s.ev.flags.directory ++
    BitVec.ofBool s.ev.flags.peer ++ BitVec.ofBool (faultFlag s) ++ BitVec.ofBool (noticeFlag s)

/-- A write of 1 clears a write-1-to-clear flag; a level flag and bits 15-9 take no notice (R166). -/
def clearFlags (f : EventFlags) (ones : Word) : EventFlags :=
  { peer := f.peer && !ones.getLsbD 2
    directory := f.directory && !ones.getLsbD 3
    conflict := f.conflict && !ones.getLsbD 4
    eclipse := f.eclipse && !ones.getLsbD 5
    span := f.span && !ones.getLsbD 6
    discard := f.discard && !ones.getLsbD 7
    overrun := f.overrun && !ones.getLsbD 8 }

/-- INT# is driven low: a flag is set together with its enable (R167). -/
def intLow (s : State) : Bool := (flagsWord s &&& s.ev.enables.setWidth 16) != 0

/-! ## The fault record (R168) -/

/-- A fault handed on fills an empty record, and otherwise sets the overflow mark and is lost. -/
def recordFault (r : FaultReport) : Option FaultRecord → Option FaultRecord
  | none => some { report := r, overflow := false }
  | some old => some { old with overflow := true }

def handOn (r : FaultReport) (s : State) : State := s.setEv { s.ev with fault := recordFault r s.ev.fault }

/-- The reason codes of Table 11.4. -/
def reasonCode : FaultReason → BitVec 4
  | .noEntry => 1
  | .readOnly => 2
  | .notMine => 3
  | .outOfRange => 4
  | .unreachable => 5
  | .noAnswer => 6
  | .peerLost => 7
  | .noticeFull => 8
  | .notOnline => 9
  | .leaving => 10
  | .stopped => 11

/-- The reason of a NACK as an outcome or fault (R55, R78). -/
def nackFault : NackReason → FaultReason
  | .notMine => .notMine
  | .outOfRange => .outOfRange
  | .readOnly => .readOnly
  | .noticeFull => .noticeFull

/-! ## The counters (R170) -/

/-- An increase that would pass FFFFh leaves the counter at FFFFh. -/
def satAdd (c : Word) (n : Nat) : Word := BitVec.ofNat 16 (min (c.toNat + n) 0xFFFF)

def counterOf (c : Counters) : Counter → Word
  | .rxError => c.rxError
  | .rxBroken => c.rxBroken
  | .stale => c.stale
  | .overrun => c.overrun
  | .discards => c.discards
  | .writeLoss => c.writeLoss
  | .arbLost => c.arbLost
  | .txFail => c.txFail
  | .tableFull => c.tableFull
  | .refusedRegions => c.refusedRegions

def addCounter (c : Counters) (k : Counter) (n : Nat) : Counters :=
  match k with
  | .rxError => { c with rxError := satAdd c.rxError n }
  | .rxBroken => { c with rxBroken := satAdd c.rxBroken n }
  | .stale => { c with stale := satAdd c.stale n }
  | .overrun => { c with overrun := satAdd c.overrun n }
  | .discards => { c with discards := satAdd c.discards n }
  | .writeLoss => { c with writeLoss := satAdd c.writeLoss n }
  | .arbLost => { c with arbLost := satAdd c.arbLost n }
  | .txFail => { c with txFail := satAdd c.txFail n }
  | .tableFull => { c with tableFull := satAdd c.tableFull n }
  | .refusedRegions => { c with refusedRegions := satAdd c.refusedRegions n }

/-- Increase counter `k` by `n`. -/
def count (k : Counter) (n : Nat) (s : State) : State := s.setEv { s.ev with counters := addCounter s.ev.counters k n }

end Sys2Proof.Machine
end

