-- ==== Sys2Proof/Machine/Frames.lean ====
section
/-! DEFINITION. Frames on the wire: their layout (R15 to R17), the CRC (R18) and the checks of R11. `encodeFrame` is what
the station sends; `checkFrame` is what it makes of the bytes it received. -/

namespace Sys2Proof.Machine

/-! ## Byte order and fields -/

/-- Two bytes, most significant first (R3). -/
def beWord (hi lo : Byte) : Word := hi ++ lo

/-- Three bytes, most significant first (R3). -/
def beAddr (hi mid lo : Byte) : GlobalAddr := hi ++ mid ++ lo

def wordBytes (w : Word) : List Byte := [w.extractLsb' 8 8, w.extractLsb' 0 8]

def addrBytes (a : GlobalAddr) : List Byte := [a.extractLsb' 16 8, a.extractLsb' 8 8, a.extractLsb' 0 8]

/-- Byte `i` of a frame; a byte past its end reads 0, and the frame's byte count then fails (R11). -/
def byteAt (b : List Byte) (i : Nat) : Byte := b.getD i 0

/-! ## Bits on the line (R1, R3) -/

/-- The two levels of the span (R1). -/
inductive Level where
  | dominant
  | recessive
  deriving DecidableEq, Repr

/-- Bit 0 is dominant and bit 1 recessive (R1). -/
def bitLevel (b : Bool) : Level := if b then .recessive else .dominant

/-- The ten bits of a byte: a dominant start bit, the data bits with the most significant first, a recessive stop bit (R3). -/
def byteLevels (b : Byte) : List Level :=
  [.dominant] ++ [7, 6, 5, 4, 3, 2, 1, 0].map (fun i => bitLevel (b.getLsbD i)) ++ [.recessive]

/-- The bits of a frame: its bytes one after the other, with no gap (R3). -/
def frameLevels (image : List Byte) : List Level := image.flatMap byteLevels

/-- The bits that a frame has on the line. -/
def frameBits (image : List Byte) : Nat := Config.bitsPerByte * image.length

/-! ## The CRC (R18) -/

def crcBit (crc : Word) (bit : Bool) : Word :=
  if crc.msb ^^ bit then (crc <<< 1) ^^^ 0x1021#16 else crc <<< 1

def crcByte (crc : Word) (b : Byte) : Word :=
  [7, 6, 5, 4, 3, 2, 1, 0].foldl (fun c i => crcBit c (b.getLsbD i)) crc

def crc16 (bytes : List Byte) : Word := bytes.foldl crcByte 0xFFFF#16

/-! ## Building a frame (R15 to R17) -/

/-- The kind codes of Table 1.7. -/
def bodyKind : Body → Kind
  | .readRsp _ => .readRsp
  | .writeAck => .writeAck
  | .nack _ _ => .nack
  | .readReq _ _ => .readReq
  | .write _ _ => .write
  | .heartbeat => .heartbeat
  | .announce _ _ => .announce
  | .leave => .leave

def kindCode : Kind → BitVec 4
  | .readRsp => 1
  | .writeAck => 2
  | .nack => 3
  | .readReq => 4
  | .write => 5
  | .heartbeat => 8
  | .announce => 9
  | .leave => 10

/-- The reason codes of Table 1.10. -/
def nackCode : NackReason → Byte
  | .notMine => 1
  | .outOfRange => 2
  | .readOnly => 3
  | .noticeFull => 4

/-- Class, source and the final 1 (R6). -/
def keyByte (cls : BitVec 2) (src : Station) : Byte := cls ++ src ++ 1#1

def kindByte (k : Kind) (notice fresh : Bool) : Byte :=
  kindCode k ++ BitVec.ofBool notice ++ BitVec.ofBool fresh ++ 0#2

def destByte (d : Station) : Byte := 0#3 ++ d

/-- The four bytes of one region of an ANNOUNCE (Table 1.8). -/
def groupBytes (g : RegionGroup) : List Byte :=
  wordBytes g.base ++ [0#1 ++ g.length, 0#6 ++ BitVec.ofBool g.prefetch ++ BitVec.ofBool g.readWrite]

/-- The bytes between the header and the CRC (Table 1.6). -/
def payloadBytes : Body → List Byte
  | .readRsp data => BitVec.ofNat 8 data.length :: data
  | .writeAck => []
  | .nack addr reason => addrBytes addr ++ [nackCode reason]
  | .readReq addr len => addrBytes addr ++ [len]
  | .write addr data => addrBytes addr ++ BitVec.ofNat 8 data.length :: data
  | .heartbeat => []
  | .announce interval regions =>
      interval :: BitVec.ofNat 8 regions.length :: regions.flatMap groupBytes
  | .leave => []

/-- The frame without its CRC. -/
def frameBytes (f : Frame) : List Byte :=
  keyByte f.cls f.src :: kindByte (bodyKind f.body) f.notice f.fresh :: destByte f.dest :: f.tag :: payloadBytes f.body

/-- The complete frame image (R15, R18). -/
def encodeFrame (f : Frame) : List Byte := frameBytes f ++ wordBytes (crc16 (frameBytes f))

/-! ## Reading a frame by the same layout (R15) -/

def kindOfCode (c : BitVec 4) : Option Kind :=
  [Kind.readRsp, .writeAck, .nack, .readReq, .write, .heartbeat, .announce, .leave].find? (fun k => kindCode k == c)

def nackOfCode (c : Byte) : Option NackReason :=
  [NackReason.notMine, .outOfRange, .readOnly, .noticeFull].find? (fun r => nackCode r == c)

def frameClass (b : List Byte) : BitVec 2 := (byteAt b 0).extractLsb' 6 2

def frameSrc (b : List Byte) : Station := (byteAt b 0).extractLsb' 1 5

def frameKind (b : List Byte) : Option Kind := kindOfCode ((byteAt b 1).extractLsb' 4 4)

def frameDest (b : List Byte) : Station := (byteAt b 2).extractLsb' 0 5

def frameAddr (b : List Byte) : GlobalAddr := beAddr (byteAt b 4) (byteAt b 5) (byteAt b 6)

/-- Region `k` of an ANNOUNCE payload, at bytes 6 + 4k to 9 + 4k of the frame. -/
def frameGroup (b : List Byte) (k : Nat) : RegionGroup :=
  { base := beWord (byteAt b (6 + 4 * k)) (byteAt b (7 + 4 * k))
    length := (byteAt b (8 + 4 * k)).setWidth 7
    readWrite := (byteAt b (9 + 4 * k)).getLsbD 0
    prefetch := (byteAt b (9 + 4 * k)).getLsbD 1 }

/-- The length field, where the kind has one (Table 1.6). -/
def frameLength (b : List Byte) : Kind → Byte
  | .readRsp => byteAt b 4
  | .readReq => byteAt b 7
  | .write => byteAt b 7
  | _ => 0

/-- The fields that depend on the kind; used once the checks of R11 have passed. -/
def frameBody (b : List Byte) : Kind → Body
  | .readRsp => .readRsp ((b.drop 5).take (byteAt b 4).toNat)
  | .writeAck => .writeAck
  | .nack => .nack (frameAddr b) ((nackOfCode (byteAt b 7)).getD .notMine)
  | .readReq => .readReq (frameAddr b) (byteAt b 7)
  | .write => .write (frameAddr b) ((b.drop 8).take (byteAt b 7).toNat)
  | .heartbeat => .heartbeat
  | .announce => .announce (byteAt b 4) ((List.range (byteAt b 5).toNat).map (frameGroup b))
  | .leave => .leave

/-! ## The format checks (R11, Table 1.4), one definition per item -/

def byteCountOk (b : List Byte) : Bool := 6 ≤ b.length && b.length ≤ Config.frameBufferSize

def crcOk (b : List Byte) : Bool :=
  crc16 (b.take (b.length - 2)) == beWord (byteAt b (b.length - 2)) (byteAt b (b.length - 1))

def keyOk (b : List Byte) : Bool := (byteAt b 0).getLsbD 0 && frameSrc b != 0 && frameSrc b != 31

def flagsOk (b : List Byte) : Bool := (byteAt b 1).extractLsb' 0 2 == 0

/-- The kinds sent to all stations (Table 1.7). -/
def kindBroadcast : Kind → Bool
  | .heartbeat => true
  | .announce => true
  | .leave => true
  | _ => false

def destOk (b : List Byte) (k : Kind) : Bool :=
  (byteAt b 2).extractLsb' 5 3 == 0 && frameDest b != 0 && (frameDest b == 31) == kindBroadcast k

def lengthOk (b : List Byte) : Kind → Bool
  | .readRsp => 1 ≤ (frameLength b .readRsp).toNat && (frameLength b .readRsp).toNat ≤ 32
  | .readReq => 1 ≤ (frameLength b .readReq).toNat && (frameLength b .readReq).toNat ≤ 32
  | .write => 1 ≤ (frameLength b .write).toNat && (frameLength b .write).toNat ≤ 32
  | _ => true

def reasonOk (b : List Byte) : Kind → Bool
  | .nack => (nackOfCode (byteAt b 7)).isSome
  | _ => true

/-- One region of an ANNOUNCE: its length 1 to 64 units, its end not past 1000000h, its six high attribute bits 0. -/
def groupOk (b : List Byte) (k : Nat) : Bool :=
  1 ≤ (byteAt b (8 + 4 * k)).toNat && (byteAt b (8 + 4 * k)).toNat ≤ 64 &&
  (frameGroup b k).base.toNat + (byteAt b (8 + 4 * k)).toNat ≤ 0x10000 &&
  (byteAt b (9 + 4 * k)).extractLsb' 2 6 == 0

def announceOk (b : List Byte) : Kind → Bool
  | .announce =>
      1 ≤ (byteAt b 4).toNat && (byteAt b 4).toNat ≤ 250 && (byteAt b 5).toNat ≤ 4 &&
      (List.range (byteAt b 5).toNat).all (groupOk b)
  | _ => true

/-- The byte count of each kind (Table 1.9). -/
def frameSize (b : List Byte) : Kind → Nat
  | .readRsp => 5 + (byteAt b 4).toNat + 2
  | .writeAck => 6
  | .nack => 10
  | .readReq => 10
  | .write => 8 + (byteAt b 7).toNat + 2
  | .heartbeat => 6
  | .announce => 6 + 4 * (byteAt b 5).toNat + 2
  | .leave => 6

/-- Every item of Table 1.4 for a frame of kind `k`. -/
def formatOk (b : List Byte) (k : Kind) : Bool :=
  byteCountOk b && crcOk b && keyOk b && flagsOk b && destOk b k && lengthOk b k && reasonOk b k &&
  announceOk b k && b.length == frameSize b k

/-- The frame that the received bytes make, when they pass every check of R11. -/
def checkFrame (b : List Byte) : Option Frame :=
  match frameKind b with
  | none => none
  | some k =>
    if formatOk b k then
      some { cls := frameClass b, src := frameSrc b, notice := (byteAt b 1).getLsbD 3, fresh := (byteAt b 1).getLsbD 2,
             dest := frameDest b, tag := byteAt b 3, body := frameBody b k }
    else none

/-- The frame, when the bytes pass the checks and make one of kind `k`. -/
def checkFrameOf (k : Kind) (b : List Byte) : Option Frame :=
  (checkFrame b).filter (fun f => decide (bodyKind f.body = k))

end Sys2Proof.Machine
end

