-- ==== Sys2Proof/Machine/TimeBase.lean ====
section
/-! DEFINITION. The time base and the lengths of the timers (R152, R153, Table 9.5). A timer is `some n` while n ticks are
to go, and its expiry is taken once it is `some 0`. -/

namespace Sys2Proof.Machine

/-- RESP_TIMEOUT × 100 µs. -/
def responseTicks (c : ConfigRecord) : Nat := c.respTimeout.toNat * 100

/-- DISCARD_TIME ms. -/
def discardTicks (c : ConfigRecord) : Nat := c.discardTime.toNat * 1000

/-- HB_INTERVAL ms. -/
def heartbeatTicks (c : ConfigRecord) : Nat := c.hbInterval.toNat * 1000

/-- 3 × HB_INTERVAL ms (R137). -/
def listenTicks (c : ConfigRecord) : Nat := 3 * c.hbInterval.toNat * 1000

/-- 100 ms (R142). -/
def drainTicks : Nat := 100000

/-- The interval that governs a record's limits, in ms (R118). -/
def effectiveInterval (c : ConfigRecord) (r : PeerRecord) : Byte := r.interval.getD c.hbInterval

/-- 3 × the effective interval (R123). -/
def silenceTicks (c : ConfigRecord) (r : PeerRecord) : Nat := 3 * (effectiveInterval c r).toNat * 1000

/-- 8 × the effective interval (R123). -/
def absenceTicks (c : ConfigRecord) (r : PeerRecord) : Nat := 8 * (effectiveInterval c r).toNat * 1000

/-- TICK_DIV is in its range, so that the time base produces ticks (R152). -/
def ticksRun (c : ConfigRecord) : Bool := 8 ≤ c.tickDiv.toNat && c.tickDiv.toNat ≤ 40

/-- BIT_DIV is in its range, so that the receiver samples the line (R2). -/
def bitsRun (c : ConfigRecord) : Bool := 2 ≤ c.bitDiv.toNat && c.bitDiv.toNat ≤ 32

/-- One tick of a timer. -/
def countDown (t : Option Nat) : Option Nat := t.map (· - 1)

/-- The timer runs and has counted its ticks. -/
def expired (t : Option Nat) : Bool := t == some 0

end Sys2Proof.Machine
end

