-- ==== Sys2Proof/Machine/Ops.lean ====
section
/-! DEFINITION. The named operations that several blocks share: the span state, peer records, the ready list, the ANNOUNCE
mark, Delayed Read Table entries, shared RAM, and a host cycle at the port. -/

namespace Sys2Proof.Machine

/-! ## The span state (Table 8.1) -/

/-- Peers are heard and ANNOUNCE frames taken (R27, R121). -/
def hearing : SpanState → Bool
  | .listening => true
  | .announcing => true
  | .online => true
  | .leaving => true
  | _ => false

/-- Own regions are published, requests served, frames sent (R30, R87, R104). -/
def onSpan : SpanState → Bool
  | .announcing => true
  | .online => true
  | .leaving => true
  | _ => false

/-- Every change of span state sets SPAN (R133). -/
def setSpan (x : SpanState) (s : State) : State :=
  if s.ctl.span = x then s else raise .span (s.setCtl { s.ctl with span := x })

/-- The own station number. -/
def ownStation (s : State) : Station := s.ctl.config.station

/-- Configured region `n`. -/
def regionOf (c : ConfigRecord) (n : RegionIndex) : RegionConfig := c.regions.getD n.toNat RegionConfig.reset

/-! ## Peer records (R118) -/

def peerOf (n : Station) (s : State) : PeerRecord :=
  if validStation n then s.peers.getD (n.toNat - 1) PeerRecord.reset else PeerRecord.reset

def setPeer (n : Station) (r : PeerRecord) (s : State) : State :=
  if validStation n then s.setPeers (s.peers.set (n.toNat - 1) r) else s

/-! ## The ready list and the ANNOUNCE mark (R106, R114) -/

/-- Append at the tail. -/
def appendReady (x : ReadyItem) (s : State) : State := s.setSel { s.sel with ready := s.sel.ready ++ [x] }

def isReadItem (i : ReadIndex) : ReadyItem → Bool
  | .read j _ => j == i
  | .write _ => false

def isWriteItem : ReadyItem → Bool
  | .read _ _ => false
  | .write _ => true

/-- Entry `i` stops being ready: it leaves the list wherever it stands. -/
def unreadyRead (i : ReadIndex) (s : State) : State :=
  s.setSel { s.sel with ready := s.sel.ready.filter (fun x => !isReadItem i x) }

/-- The Posted Write Queue head stops being ready. -/
def unreadyWrite (s : State) : State :=
  s.setSel { s.sel with ready := s.sel.ready.filter (fun x => !isWriteItem x) }

/-- A request for an ANNOUNCE that is not fresh: it changes nothing while one is pending (R112, R114). -/
def requestAnnounce (s : State) : State :=
  if s.sel.announceMark = .clear then s.setSel { s.sel with announceMark := .pending } else s

/-! ## Delayed Read Table entries (R39) -/

def readAt (i : ReadIndex) (s : State) : ReadEntry := s.reads.entries.getD i.toNat (ReadEntry.free 0)

def setRead (i : ReadIndex) (e : ReadEntry) (s : State) : State :=
  s.setReads { s.reads with entries := s.reads.entries.set i.toNat e }

def allReadIndexes : List ReadIndex := [0, 1, 2, 3, 4, 5, 6, 7]

/-- WAITING, READY or ISSUED: still fetching. -/
def fetching : ReadState → Bool
  | .waiting => true
  | .ready => true
  | .issued => true
  | _ => false

/-- Neither FREE nor overtaken. -/
def live (e : ReadEntry) : Bool := e.state != .free && !e.overtaken

/-- `n` bytes at `a` and `m` bytes at `b` have a byte in common. -/
def rangesMeet (a n b m : Nat) : Bool := decide (a < b + m) && decide (b < a + n)

/-! ## Shared RAM (R85) -/

def ramRead (a n : Nat) (s : State) : List Byte := memReadBytes s.ram a n

def ramWrite (a : Nat) (bytes : List Byte) (s : State) : State := s.setRam (memWriteBytes s.ram a bytes)

/-! ## A host cycle (R155 to R159) -/

/-- What the owner of the address made of a cycle: the response, the data of a read, and the state after it. -/
structure Taken where
  reply : Reply
  data : Word
  next : State

/-- A cycle answered with no change of state. -/
def answerOnly (r : Reply) (d : Word) (s : State) : Taken := { reply := r, data := d, next := s }

/-- A cycle that begins now is handed to the owner of its address: no strobe is held, nRST is high, the clear has ended
and a byte is enabled. -/
def cycleTaken (be : Enables) (s : State) : Bool :=
  !s.port.strobeHeld && !s.port.resetLow && !s.port.clearing && someByte be

/-- The answer to a cycle that begins: RETRY for every cycle during the clear (R159); FAULT with both strobes low (R156);
DATA/OK with no byte enabled (R158); otherwise what the owner decides. -/
def answerCycle (dir : Strobe) (be : Enables) (owner : State → Taken) (s : State) : Taken :=
  if s.port.clearing then answerOnly .retry 0 s
  else if dir = .both then answerOnly .fault 0 s
  else if someByte be then owner s
  else answerOnly .ok 0 s

/-- The port holds the cycle in progress, with the data on D0-D15 for a read: 0 on RETRY and FAULT (R156, R157). -/
def latchCycle (dir : Strobe) (a : BitVec 15) (be : Enables) (t : Taken) : State :=
  t.next.setPort
    { t.next.port with
      strobeHeld := true
      cycle := some
        { addr := a, dir := dir, be := be, reply := t.reply,
          data := if dir = .read then some (if t.reply = .ok then t.data else 0) else none } }

/-- A cycle begins at the port. While a strobe is held it is not taken (R156); while nRST is low the strobe is held and
no cycle is taken (R155). -/
def hostCycle (dir : Strobe) (a : BitVec 15) (be : Enables) (owner : State → Taken) (s : State) : State :=
  if s.port.strobeHeld then s
  else if s.port.resetLow then s.setPort { s.port with strobeHeld := true }
  else latchCycle dir a be (answerCycle dir be owner s)

/-! ## The pins (Table 10.1), each a view of the state -/

/-- RDY is high while a cycle is in progress. -/
def rdyHigh (s : State) : Bool := s.port.cycle.isSome

/-- RSP1:RSP0 (Table 10.2). -/
def replyCode : Reply → BitVec 2
  | .ok => 0
  | .retry => 1
  | .fault => 2

def rspPins (s : State) : BitVec 2 :=
  match s.port.cycle with
  | some c => replyCode c.reply
  | none => 0

/-- What the station drives on D0-D15, if anything. -/
def dataPins (s : State) : Option Word :=
  match s.port.cycle with
  | some c => c.data
  | none => none

/-- SPTXEN is asserted exactly while a transmission is in progress (R1). -/
def sptxenAsserted (s : State) : Bool := s.iface.tx.isSome

/-- The level that the station sends on SPTX: the bit now on the line while it sends a frame, dominant while it sends a
break, and recessive at every other time (R1, R3, R7). -/
def sptxLevel (s : State) : Level :=
  match s.iface.tx with
  | none => .recessive
  | some t =>
    match t.phase with
    | .breaking _ => .dominant
    | _ => (frameLevels t.image).getD t.bitsSent .recessive

end Sys2Proof.Machine
end

