-- ==== Sys2Proof/Machine/Directory.lean ====
section
/-! DEFINITION. The region directory (chapter 2): lookup, placing, eviction, return, emptying. -/

namespace Sys2Proof.Machine

/-! ## Ranges (R19) -/

/-- First global address of an entry, and the address after its last. -/
def dirStart (e : DirEntry) : Nat := e.base.toNat * 256

def dirEnd (e : DirEntry) : Nat := dirStart e + 256 * e.length.toNat

def dirContains (e : DirEntry) (a : Nat) : Bool := decide (dirStart e ≤ a) && decide (a < dirEnd e)

def dirOverlaps (e f : DirEntry) : Bool := rangesMeet (dirStart e) (256 * e.length.toNat) (dirStart f) (256 * f.length.toNat)

/-! ## Lookup (R21, R22) -/

def lookup (a : GlobalAddr) (s : State) : Option DirEntry := s.dir.entries.find? (fun e => dirContains e a.toNat)

/-- The local address in shared RAM of global address `a` of an own entry with index `n`. -/
def localAddress (e : DirEntry) (n : RegionIndex) (a : GlobalAddr) (s : State) : Nat :=
  (regionOf s.ctl.config n).localOffset.toNat * 256 + (a.toNat - dirStart e)

/-- An entry that is the station's own and contains the address. -/
def ownContains (a : Nat) (e : DirEntry) : Bool := e.own.isSome && dirContains e a

inductive RegionCheck where
  | inRegion (readWrite : Bool) (localAddr : Nat)
  | notMine
  | outOfRange
  deriving DecidableEq, Repr

/-- The range lookup of an inbound request against the own entries (R22). -/
def regionCheck (a : GlobalAddr) (n : Nat) (s : State) : RegionCheck :=
  match s.dir.entries.find? (ownContains a.toNat) with
  | none => .notMine
  | some e =>
    if a.toNat + n ≤ dirEnd e then .inRegion e.readWrite (localAddress e (e.own.getD 0) a s) else .outOfRange

/-! ## Own regions (R23) -/

def statusOf (n : RegionIndex) (s : State) : OwnStatus := s.dir.statuses.getD n.toNat .disabled

def setStatus (n : RegionIndex) (x : OwnStatus) (s : State) : State :=
  s.setDir { s.dir with statuses := s.dir.statuses.set n.toNat x }

/-- A status changes into ECLIPSED, which sets ECLIPSE. -/
def eclipse (n : RegionIndex) (s : State) : State := raise .eclipse (setStatus n .eclipsed s)

/-- The own entry that configured region `n` makes (R19). -/
def ownEntry (n : RegionIndex) (s : State) : DirEntry :=
  let r := regionOf s.ctl.config n
  { base := r.globalBase, length := r.length, owner := ownStation s, readWrite := r.readWrite, prefetch := r.prefetch,
    own := some n }

/-- The entry that a region of a peer's ANNOUNCE makes (R28). -/
def peerEntry (owner : Station) (g : RegionGroup) : DirEntry :=
  { base := g.base, length := g.length, owner := owner, readWrite := g.readWrite, prefetch := g.prefetch, own := none }

/-! ## Placing (R25, R26) -/

/-- In order of global base, lowest first. -/
def insertByBase (e : DirEntry) : List DirEntry → List DirEntry
  | [] => [e]
  | f :: rest => if e.base.toNat < f.base.toNat then e :: f :: rest else f :: insertByBase e rest

def insertEntry (e : DirEntry) (s : State) : State := s.setDir { s.dir with entries := insertByBase e s.dir.entries }

def refuseConflict (s : State) : State := raise .conflict (count .refusedRegions 1 s)

def refuseCapacity (s : State) : State := raise .directory (count .refusedRegions 1 s)

/-- An evicted own entry's region becomes ECLIPSED (R26). -/
def eclipseEvicted (s : State) (e : DirEntry) : State :=
  match e.own with
  | some n => eclipse n s
  | none => s

/-- Evict every entry that the candidate overlaps. -/
def evictFor (cand : DirEntry) (s : State) : State :=
  (s.dir.entries.filter (dirOverlaps cand)).foldl eclipseEvicted
    (raise .conflict (s.setDir { s.dir with entries := s.dir.entries.filter (fun e => !dirOverlaps cand e) }))

/-- What the tests 2 to 4 of R25 decide for a candidate. -/
inductive Placing where
  | insert
  | evictAndInsert
  | conflict
  | capacity
  deriving DecidableEq, Repr

def judgePlacing (cand : DirEntry) (entries : List DirEntry) : Placing :=
  if entries.any (dirOverlaps cand) then
    if (entries.filter (dirOverlaps cand)).all (fun e => decide (cand.owner.toNat < e.owner.toNat)) then .evictAndInsert
    else .conflict
  else if Config.directoryCapacity ≤ entries.length then .capacity
  else .insert

def place (cand : DirEntry) (s : State) : State :=
  match judgePlacing cand s.dir.entries with
  | .insert => insertEntry cand s
  | .evictAndInsert => insertEntry cand (evictFor cand s)
  | .conflict => refuseConflict s
  | .capacity => refuseCapacity s

/-- Was the candidate entered. -/
def entersDirectory : Placing → Bool
  | .insert => true
  | .evictAndInsert => true
  | _ => false

/-- The regions of an ANNOUNCE in list order, each after the list-overlap test against those before it (R25, R27). -/
def placeListed (owner : Station) : List RegionGroup → List DirEntry → State → State
  | [], _, s => s
  | g :: rest, earlier, s =>
    placeListed owner rest (peerEntry owner g :: earlier)
      (if earlier.any (dirOverlaps (peerEntry owner g)) then refuseConflict s else place (peerEntry owner g) s)

/-- Own region `n` is placed on entering ANNOUNCING (R24). -/
def placeOwn (s : State) (n : RegionIndex) : State :=
  if statusOf n s = .notPublished then
    if entersDirectory (judgePlacing (ownEntry n s) s.dir.entries) then
      setStatus n .entered (place (ownEntry n s) s)
    else eclipse n (place (ownEntry n s) s)
  else s

def placeOwnRegions (s : State) : State := allRegionIndexes.foldl placeOwn s

/-! ## Return and removal (R29, R31, R32) -/

/-- An ECLIPSED region returns when its range is clear and there is room. -/
def returnRegion (s : State) (n : RegionIndex) : State :=
  if statusOf n s = .eclipsed && !s.dir.entries.any (dirOverlaps (ownEntry n s)) &&
      decide (s.dir.entries.length < Config.directoryCapacity) then
    raise .eclipse (setStatus n .entered (insertEntry (ownEntry n s) s))
  else s

/-- The returns, and in ONLINE the request for an ANNOUNCE if a region returned. -/
def requestIfReturned (before : List OwnStatus) (s : State) : State :=
  if s.ctl.span = .online && decide (s.dir.statuses ≠ before) then requestAnnounce s else s

def returnRule (s : State) : State :=
  if onSpan s.ctl.span then requestIfReturned s.dir.statuses (allRegionIndexes.foldl returnRegion s) else s

/-- Every entry of an owner goes. -/
def removeOwner (n : Station) (s : State) : State :=
  s.setDir { s.dir with entries := s.dir.entries.filter (fun e => e.owner != n) }

/-- An ANNOUNCE from station `n` as the directory takes it (R27). -/
def takeRegions (n : Station) (regions : List RegionGroup) (s : State) : State :=
  if hearing s.ctl.span then returnRule (placeListed n regions [] (removeOwner n s)) else s

/-- The directory's part of the loss of a peer (R29). -/
def directoryLoses (n : Station) (s : State) : State := returnRule (removeOwner n s)

/-! ## Emptying (R34) -/

/-- DISABLED or NOT_PUBLISHED, as the enable field gives (R23). -/
def restStatus (r : RegionConfig) : OwnStatus := if r.enable then .notPublished else .disabled

def restStatuses (c : ConfigRecord) : List OwnStatus := allRegionIndexes.map (fun n => restStatus (regionOf c n))

def emptyDirectory (s : State) : State :=
  let t := s.setDir { s.dir with entries := [], statuses := restStatuses s.ctl.config }
  if s.dir.statuses.contains .eclipsed then raise .eclipse t else t

/-- The end-of-event comparison (R20). -/
def directoryEventEnd (before : List DirEntry) (s : State) : State :=
  if s.dir.entries = before then s
  else raise .directory (s.setDir { s.dir with generation := s.dir.generation + 1 })

/-! ## The station's own list (R17, R33) -/

def groupOf (e : DirEntry) : RegionGroup :=
  { base := e.base, length := e.length, readWrite := e.readWrite, prefetch := e.prefetch }

/-- The own entries, by own region index. -/
def ownGroups (s : State) : List RegionGroup :=
  allRegionIndexes.filterMap (fun n => (s.dir.entries.find? (fun e => e.own == some n)).map groupOf)

end Sys2Proof.Machine
end

