-- ==== Sys2Proof/Machine/ReadAgent.lean ====
section
/-! DEFINITION. The read agent (chapter 3): the Delayed Read Table and the life of a remote read. -/

namespace Sys2Proof.Machine

/-! ## Changes of one entry (R39, R40) -/

/-- The entry becomes FREE: its fields but the incarnation return to Table 3.1's values, it loses its rank, and a READY
entry leaves the ready list. -/
def freeRead (i : ReadIndex) (s : State) : State :=
  let t := unreadyRead i s
  t.setReads
    { entries := t.reads.entries.set i.toNat (ReadEntry.free (readAt i s).incarnation)
      order := t.reads.order.filter (fun j => j != i) }

/-- The entry becomes READY and joins the ready list. -/
def makeReady (i : ReadIndex) (s : State) : State :=
  appendReady (.read i (readAt i s).incarnation)
    (setRead i { readAt i s with state := .ready, responseTimer := none } s)

/-- The entry becomes COMPLETE with an outcome: it leaves the ready list, its response timer stops and its discard timer
starts (R54, R58). An overtaken entry becomes FREE in its place (R60). -/
def completeRead (i : ReadIndex) (o : ReadOutcome) (data : List Byte) (s : State) : State :=
  if (readAt i s).overtaken then freeRead i s
  else
    setRead i
      { readAt i s with
        state := .complete, outcome := some o, data := data, responseTimer := none,
        discardTimer := some (discardTicks s.ctl.config) }
      (unreadyRead i s)

/-- The fault an entry hands on when it completes with one (Table 3.3). -/
def readFault (e : ReadEntry) (r : FaultReason) : FaultReport :=
  { op := .read, reason := r, addr := e.addr, station := e.dest }

/-- The fetch ends with a fault, handed on unless the entry is overtaken (R55, R56, R60 to R62). -/
def failRead (r : FaultReason) (s : State) (i : ReadIndex) : State :=
  if (readAt i s).overtaken then freeRead i s
  else handOn (readFault (readAt i s) r) (completeRead i (.fault r) [] s)

/-! ## Posted writes ahead (R51) -/

/-- Queue entries left the queue: `kept n` of an entry's first `n` queue entries still stand. -/
def recountAhead (kept : Nat → Nat) (s : State) : State :=
  s.setReads { s.reads with entries := s.reads.entries.map (fun e => { e with ahead := kept e.ahead }) }

def releaseRead (s : State) (i : ReadIndex) : State :=
  if (readAt i s).state = .waiting && (readAt i s).ahead == 0 then makeReady i s else s

/-- WAITING entries with no queue entry left at or before their barrier become READY, in allocation order. -/
def releaseBarriers (s : State) : State := s.reads.order.foldl releaseRead s

/-! ## A host read of the aperture (R41 to R50) -/

/-- The entry serves the access: not FREE, not overtaken, and its range covers every byte. -/
def readMatches (a : GlobalAddr) (n : Nat) (s : State) (i : ReadIndex) : Bool :=
  live (readAt i s) && decide ((readAt i s).addr.toNat ≤ a.toNat) &&
    decide (a.toNat + n ≤ (readAt i s).addr.toNat + (readAt i s).length)

def matchingRead (a : GlobalAddr) (n : Nat) (s : State) : Option ReadIndex := allReadIndexes.find? (readMatches a n s)

/-- The requested bytes of a COMPLETE entry. -/
def deliveredBytes (e : ReadEntry) (a : GlobalAddr) (n : Nat) : List Byte :=
  (e.data.drop (a.toNat - e.addr.toNat)).take n

/-- A COMPLETE entry delivers its outcome (R42). -/
def deliver (i : ReadIndex) (a : GlobalAddr) (be : Enables) (s : State) : Taken :=
  let e := readAt i s
  match e.outcome with
  | some .ok =>
    { reply := .ok
      data := driveLanes be (deliveredBytes e a (accessWidth be))
      next :=
        if e.prefetch then
          setRead i { e with delivered := true, discardTimer := some (discardTicks s.ctl.config) } s
        else freeRead i s }
  | _ => { reply := .fault, data := 0, next := freeRead i s }

/-- The reason for an aperture access outside ONLINE (R43, R68). -/
def spanFault : SpanState → FaultReason
  | .leaving => .leaving
  | .stopped => .stopped
  | _ => .notOnline

/-- An access refused in its own cycle, with its fault handed on (R46). -/
def refuseAccess (op : FaultOp) (r : FaultReason) (a : GlobalAddr) (n : Station) (s : State) : Taken :=
  answerOnly .fault 0 (handOn { op := op, reason := r, addr := a, station := n } s)

/-- The fetch range (R47): the line of a prefetchable region, otherwise the bytes of the access. -/
def fetchStart (prefetch : Bool) (a : GlobalAddr) : GlobalAddr :=
  if prefetch then BitVec.ofNat 24 (a.toNat / 32 * 32) else a

def fetchLength (prefetch : Bool) (n : Nat) : Nat := if prefetch then 32 else n

/-- A live entry whose range meets the fetch range (R48). -/
def readOverlaps (a n : Nat) (s : State) (i : ReadIndex) : Bool :=
  live (readAt i s) && rangesMeet (readAt i s).addr.toNat (readAt i s).length a n

/-- COMPLETE and delivered: an overlap that makes way (R48). -/
def spent (e : ReadEntry) : Bool := e.state == .complete && e.delivered

/-- An entry that can be reclaimed (R49). -/
def reclaimable (e : ReadEntry) : Bool := e.state == .complete && e.prefetch && e.delivered && !e.overtaken

/-- The FREE entry with the lowest index, or else the oldest entry that can be reclaimed (R49). -/
def chooseRead (s : State) : Option ReadIndex :=
  (allReadIndexes.find? (fun i => (readAt i s).state == .free)).or (s.reads.order.find? (fun i => reclaimable (readAt i s)))

/-- The fields of a new allocation (R50). -/
def allocated (inc : Incarnation) (n : Station) (a : GlobalAddr) (len : Nat) (prefetch : Bool) (s : State) : ReadEntry :=
  { ReadEntry.free inc with
    state := if s.writes.queue.isEmpty then .ready else .waiting
    dest := n
    addr := a
    length := len
    prefetch := prefetch
    barrier := s.writes.queue.getLast?.map (·.admission)
    ahead := s.writes.queue.length }

/-- Allocation of entry `i`: the next incarnation, the newest rank, and a place in the ready list when READY (R50). A
reclaimed entry has become FREE first. -/
def allocateRead (i : ReadIndex) (n : Station) (a : GlobalAddr) (len : Nat) (prefetch : Bool) (s : State) : State :=
  let t := freeRead i s
  let inc := (readAt i s).incarnation + 1
  let u := t.setReads
    { entries := t.reads.entries.set i.toNat (allocated inc n a len prefetch s), order := t.reads.order ++ [i] }
  if s.writes.queue.isEmpty then appendReady (.read i inc) u else u

/-- RETRY with TABLE_FULL counted (R48, R49). -/
def tableFull (s : State) : Taken := answerOnly .retry 0 (count .tableFull 1 s)

/-- A read with a PRESENT owner: clear the way, choose an entry, allocate it (R48 to R50). -/
def allocate (n : Station) (a : GlobalAddr) (len : Nat) (prefetch : Bool) (s : State) : Taken :=
  let meeting := allReadIndexes.filter (readOverlaps a.toNat len s)
  if meeting.all (fun i => spent (readAt i s)) then
    let t := meeting.foldl (fun u i => freeRead i u) s
    match chooseRead t with
    | some i => answerOnly .retry 0 (allocateRead i n a len prefetch t)
    | none => tableFull s
  else tableFull s

/-- A read that matches no entry (R43, R44, R45). -/
def newRead (a : GlobalAddr) (be : Enables) (s : State) : Taken :=
  if s.ctl.span ≠ .online then refuseAccess .read (spanFault s.ctl.span) a 0 s
  else
    match lookup a s with
    | none => refuseAccess .read .noEntry a 0 s
    | some e =>
      match e.own with
      | some n => answerOnly .ok (driveLanes be (ramRead (localAddress e n a s) (accessWidth be) s)) s
      | none =>
        if (peerOf e.owner s).presence = .present then
          allocate e.owner (fetchStart e.prefetch a) (fetchLength e.prefetch (accessWidth be)) e.prefetch s
        else refuseAccess .read .unreachable a e.owner s

/-- A host read of the aperture as the read agent takes it (R41). -/
def apertureReadTaken (a : GlobalAddr) (be : Enables) (s : State) : Taken :=
  match matchingRead a (accessWidth be) s with
  | some i => if (readAt i s).state = .complete then deliver i a be s else answerOnly .retry 0 s
  | none => newRead a be s

/-! ## Answers (R54, R55) -/

def tagIndex (tag : Byte) : ReadIndex := tag.extractLsb' 5 3

def tagIncarnation (tag : Byte) : Incarnation := tag.extractLsb' 0 5

def readTag (i : ReadIndex) (inc : Incarnation) : Byte := i ++ inc

/-- The first three conditions of R54. -/
def awaitsAnswer (src : Station) (tag : Byte) (s : State) : Bool :=
  let e := readAt (tagIndex tag) s
  (e.state == .issued || (e.state == .ready && decide (1 ≤ e.attempts))) && e.incarnation == tagIncarnation tag &&
    e.dest == src

def takeReadRsp (src : Station) (tag : Byte) (data : List Byte) (s : State) : State :=
  if awaitsAnswer src tag s && data.length == (readAt (tagIndex tag) s).length then
    completeRead (tagIndex tag) .ok data s
  else count .stale 1 s

def takeReadNack (src : Station) (tag : Byte) (r : NackReason) (s : State) : State :=
  if awaitsAnswer src tag s then failRead (nackFault r) s (tagIndex tag) else count .stale 1 s

/-! ## Sent outcomes (R53) -/

/-- The READ_REQ of entry `i` with this incarnation was sent. -/
def readSent (i : ReadIndex) (inc : Incarnation) (s : State) : State :=
  let e := readAt i s
  if e.incarnation = inc && e.state = .ready then
    setRead i
      { e with state := .issued, attempts := e.attempts + 1, responseTimer := some (responseTicks s.ctl.config) } s
  else s

/-! ## Overtaking (R59) -/

def overtakeRead (a n : Nat) (s : State) (i : ReadIndex) : State :=
  let e := readAt i s
  if readOverlaps a n s i then
    if e.state = .issued || (e.state = .ready && decide (1 ≤ e.attempts)) then setRead i { e with overtaken := true } s
    else freeRead i s
  else s

/-- A host write of `n` bytes at `a` through the aperture. -/
def overtake (a n : Nat) (s : State) : State := allReadIndexes.foldl (overtakeRead a n) s

/-! ## Purges (R61 to R63) -/

/-- The list with its member `k`, counted round, first. -/
def leadWith (k : Nat) (l : List ReadIndex) : List ReadIndex := l.drop (k % l.length) ++ l.take (k % l.length)

/-- Fetching entries that `p` selects, oldest first. -/
def fetchingReads (p : ReadEntry → Bool) (s : State) : List ReadIndex :=
  s.reads.order.filter (fun i => fetching (readAt i s).state && p (readAt i s))

/-- The loss of a peer; which purged read hands its fault on first is free (log entry 2). -/
def purgeReads (n : Station) (first : Nat) (s : State) : State :=
  (leadWith first (fetchingReads (fun e => e.dest == n) s)).foldl (failRead .peerLost) s

/-- The drain timer's expiry; the oldest read hands its fault on first (R82). -/
def drainReads (s : State) : State := (fetchingReads (fun _ => true) s).foldl (failRead .leaving) s

/-- Entering OFFLINE or STOPPED: every entry FREE, the incarnations kept (R63). -/
def freeAllReads (s : State) : State :=
  s.setReads { entries := s.reads.entries.map (fun e => ReadEntry.free e.incarnation), order := [] }

end Sys2Proof.Machine
end

