-- ==== Sys2Proof/Machine/WriteAgent.lean ====
section
/-! DEFINITION. The write agent (chapter 4): the Posted Write Queue and the life of a remote write. -/

namespace Sys2Proof.Machine

/-! ## The head (R66, R72, R73) -/

def setQueue (q : List PostedWrite) (s : State) : State := s.setWrites { s.writes with queue := q }

/-- Replace the head. -/
def setHead (w : PostedWrite) (s : State) : State := setQueue (w :: s.writes.queue.tail) s

/-- The head is ready: QUEUED and not held (Table 4.2). -/
def headReady (w : PostedWrite) : Bool := !w.inFlight && !w.held

/-- The head awaits an answer (R66). -/
def headAwaits (w : PostedWrite) : Bool := w.inFlight || w.held || decide (1 ≤ w.attempts)

/-- The head becomes QUEUED and ready for retransmission, and joins the ready list (R76, R79). -/
def readyHead (w : PostedWrite) (s : State) : State :=
  appendReady (.write w.admission) (setHead { w with inFlight := false, held := false, timer := none } s)

/-- The head leaves the queue: its timer goes with it, it leaves the ready list, and each delayed read has one queue entry
less ahead (R51). -/
def popHead (s : State) : State := recountAhead (· - 1) (setQueue s.writes.queue.tail (unreadyWrite s))

/-- The fault of a dropped entry (Table 4.3). -/
def writeFault (w : PostedWrite) (r : FaultReason) : FaultReport :=
  { op := .write, reason := r, addr := w.addr, station := w.dest }

/-- The head is dropped: WRITE_LOSS and a fault (Table 4.4). -/
def dropHead (w : PostedWrite) (r : FaultReason) (s : State) : State :=
  handOn (writeFault w r) (count .writeLoss 1 (popHead s))

/-- An entry that becomes the head is ready if its destination is PRESENT; otherwise it is dropped with UNREACHABLE and the
next one judged, in the same event (R73). The list is the queue. -/
def judgeHeads : List PostedWrite → State → State
  | [], s => s
  | w :: rest, s =>
    if (peerOf w.dest s).presence = .present then appendReady (.write w.admission) s
    else judgeHeads rest (dropHead w .unreachable s)

/-- The head has left the queue: the new head is judged, then barriers are released (R72). -/
def headGone (s : State) : State := releaseBarriers (judgeHeads s.writes.queue s)

/-! ## A host write of the aperture (R68 to R71) -/

/-- The new entry (R71). -/
def posted (n : Station) (a : GlobalAddr) (data : List Byte) (notice : Bool) (s : State) : PostedWrite :=
  { admission := s.writes.admission, dest := n, addr := a, data := data, notice := notice,
    sequence := (peerOf n s).outbound, attempts := 0, inFlight := false, held := false, timer := none }

/-- The admission number, the write sequence and the place in the queue are taken (R71). -/
def enqueueWrite (n : Station) (a : GlobalAddr) (data : List Byte) (notice : Bool) (s : State) : State :=
  let t := s.setWrites
    { queue := s.writes.queue ++ [posted n a data notice s], admission := s.writes.admission + 1 }
  setPeer n { peerOf n s with outbound := (peerOf n s).outbound + 1 } t

/-- Admission: an entry in an empty queue is the head, and ready at once (R71, R73). -/
def admitWrite (n : Station) (a : GlobalAddr) (data : List Byte) (notice : Bool) (s : State) : State :=
  let t := overtake a.toNat data.length (enqueueWrite n a data notice s)
  if s.writes.queue.isEmpty then appendReady (.write s.writes.admission) t else t

/-- Append a notice record (R99). -/
def appendNotice (x : Notice) (s : State) : State := s.setResp { s.resp with notices := s.resp.notices ++ [x] }

/-- The Notice Queue holds 8 records. -/
def noticesFull (s : State) : Bool := Config.noticeCapacity ≤ s.resp.notices.length

/-- A write to an own entry (R70). -/
def loopbackWrite (e : DirEntry) (n : RegionIndex) (a : GlobalAddr) (data : List Byte) (notice : Bool) (s : State) : Taken :=
  if !e.readWrite then refuseAccess .write .readOnly a (ownStation s) s
  else if notice && noticesFull s then refuseAccess .write .noticeFull a (ownStation s) s
  else
    let t := ramWrite (localAddress e n a s) data s
    let u := if notice then appendNotice { source := ownStation s, addr := a, value := data } t else t
    answerOnly .ok 0 (overtake a.toNat data.length u)

/-- A host write of the aperture as the write agent takes it (R68, R69). -/
def apertureWriteTaken (a : GlobalAddr) (data : List Byte) (notice : Bool) (s : State) : Taken :=
  if s.ctl.span ≠ .online then refuseAccess .write (spanFault s.ctl.span) a 0 s
  else
    match lookup a s with
    | none => refuseAccess .write .noEntry a 0 s
    | some e =>
      match e.own with
      | some n => loopbackWrite e n a data notice s
      | none =>
        if !e.readWrite then refuseAccess .write .readOnly a e.owner s
        else if (peerOf e.owner s).presence = .present then
          if Config.writeQueueCapacity ≤ s.writes.queue.length then answerOnly .retry 0 s
          else answerOnly .ok 0 (admitWrite e.owner a data notice s)
        else refuseAccess .write .unreachable a e.owner s

/-! ## Outcomes and answers (R75 to R79) -/

/-- The WRITE of the entry with this admission number was sent (R75). -/
def writeSent (admission : Word) (s : State) : State :=
  match s.writes.queue with
  | [] => s
  | w :: _ =>
    if w.admission = admission && headReady w then
      setHead { w with inFlight := true, attempts := w.attempts + 1, timer := some (responseTicks s.ctl.config) } s
    else s

/-- The answer is for the head (R77, R78). -/
def answersHead (src : Station) (tag : Byte) (w : PostedWrite) : Bool :=
  headAwaits w && w.dest == src && w.sequence == tag

/-- A WRITE_ACK retires the head or is stale (R77). -/
def takeWriteAck (src : Station) (tag : Byte) (s : State) : State :=
  match s.writes.queue with
  | [] => count .stale 1 s
  | w :: _ => if answersHead src tag w then headGone (popHead s) else count .stale 1 s

/-- The head waits out a NOTICE_FULL refusal (R79). -/
def holdHead (w : PostedWrite) (s : State) : State :=
  setHead { w with inFlight := false, held := true, timer := some (responseTicks s.ctl.config) } (unreadyWrite s)

/-- The attempts left allow another sending. -/
def retriesLeft (attempts : Nat) (s : State) : Bool := decide (attempts ≤ s.ctl.config.retryLimit.toNat)

/-- A NACK with N set refuses the head or is stale (R78, R79). -/
def takeWriteNack (src : Station) (tag : Byte) (r : NackReason) (s : State) : State :=
  match s.writes.queue with
  | [] => count .stale 1 s
  | w :: _ =>
    if answersHead src tag w then
      if r = .noticeFull && retriesLeft w.attempts s then holdHead w s
      else headGone (dropHead w (nackFault r) s)
    else count .stale 1 s

/-! ## Purges (R81 to R83) -/

/-- Entries that `gone` selects leave the queue; the head leaves the ready list if it is among them. -/
def removeWrites (gone : PostedWrite → Bool) (s : State) : State :=
  let t := if s.writes.queue.head?.any gone then unreadyWrite s else s
  recountAhead (fun n => ((s.writes.queue.take n).filter (fun w => !gone w)).length)
    (setQueue (s.writes.queue.filter (fun w => !gone w)) t)

/-- A purge: WRITE_LOSS by the number removed, one fault for the oldest, and the new head judged if the head went. -/
def purgeWrites (gone : PostedWrite → Bool) (r : FaultReason) (s : State) : State :=
  match s.writes.queue.filter gone with
  | [] => s
  | w :: rest =>
    let t := handOn (writeFault w r) (count .writeLoss (rest.length + 1) (removeWrites gone s))
    if s.writes.queue.head?.any gone then headGone t else releaseBarriers t

/-- Entering OFFLINE or STOPPED: the queue is emptied, the admission counter kept (R83). -/
def emptyWrites (s : State) : State := setQueue [] s

end Sys2Proof.Machine
end

