-- ==== Sys2Proof/Machine/Responder.lean ====
section
/-! DEFINITION. The responder (chapter 5): the requests of peers and the two queues. -/

namespace Sys2Proof.Machine

/-- Append the answer `x` to the request of `n` with this tag at the tail of the Response Queue, an entry of its own (R96, log
entry 26). -/
def respond (n : Station) (tag : Byte) (x : Answer) (s : State) : State :=
  s.setResp
    { s.resp with
      responses := s.resp.responses ++ [{ dest := n, tag := tag, answer := x, serial := s.resp.appended }]
      appended := s.resp.appended + 1 }

/-- The Response Queue holds 4 entries (R88). -/
def responsesFull (s : State) : Bool := Config.responseCapacity ≤ s.resp.responses.length

/-- A request dropped whole (R88). -/
def dropRequest (s : State) : State := raise .overrun (count .overrun 1 s)

/-- A READ_REQ addressed to the station (R87 to R90). -/
def takeReadReq (src : Station) (tag : Byte) (a : GlobalAddr) (n : Nat) (s : State) : State :=
  if !onSpan s.ctl.span then s
  else if responsesFull s then dropRequest s
  else
    match regionCheck a n s with
    | .notMine => respond src tag (.nack a .notMine false) s
    | .outOfRange => respond src tag (.nack a .outOfRange false) s
    | .inRegion _ l => respond src tag (.readRsp (ramRead l n s)) s

/-- A WRITE that passes R89 to R93 is applied (R94): the bytes, the sequence, the notice and the WRITE_ACK in one event. A
notice of more than 2 bytes holds the first two (R99). -/
def applyWrite (src : Station) (seq : Byte) (a : GlobalAddr) (data : List Byte) (notice : Bool) (l : Nat) (s : State) : State :=
  let t := setPeer src { peerOf src s with lastApplied := some seq } (ramWrite l data s)
  let u := if notice then appendNotice { source := src, addr := a, value := data.take 2 } t else t
  respond src seq .writeAck u

/-- A WRITE addressed to the station (R87 to R94). -/
def takeWrite (src : Station) (seq : Byte) (a : GlobalAddr) (data : List Byte) (notice : Bool) (s : State) : State :=
  if !onSpan s.ctl.span then s
  else if responsesFull s then dropRequest s
  else
    match regionCheck a data.length s with
    | .notMine => respond src seq (.nack a .notMine true) s
    | .outOfRange => respond src seq (.nack a .outOfRange true) s
    | .inRegion writable l =>
      if !writable then respond src seq (.nack a .readOnly true) s
      else if (peerOf src s).lastApplied = some seq then respond src seq .writeAck s
      else if notice && noticesFull s then respond src seq (.nack a .noticeFull true) s
      else applyWrite src seq a data notice l s

/-- The access of a request would pass the end of shared RAM, which R84 says does not arise. -/
def servedPastEnd (a : GlobalAddr) (n : Nat) (s : State) : Bool :=
  match regionCheck a n s with
  | .inRegion _ l => decide (Config.ramSize < l + n)
  | _ => false

/-- The same for a loopback access of the host in ONLINE (R45, R70). -/
def loopbackPastEnd (a : GlobalAddr) (n : Nat) (s : State) : Bool :=
  match lookup a s with
  | none => false
  | some e =>
    match e.own with
    | none => false
    | some k => s.ctl.span == .online && decide (Config.ramSize < localAddress e k a s + n)

/-- The sent entry leaves if it is still there: it is then the head (R97). An entry appended since, alike but for its serial, is
another one and stays (R96, R107). -/
def responseSent (r : Response) (s : State) : State :=
  if s.resp.responses.head? = some r then s.setResp { s.resp with responses := s.resp.responses.tail } else s

/-- The loss of a peer (R98). -/
def purgeResponses (n : Station) (s : State) : State :=
  s.setResp { s.resp with responses := s.resp.responses.filter (fun r => r.dest != n) }

/-- Entering OFFLINE or STOPPED: the Notice Queue stays (R98, R99). -/
def emptyResponses (s : State) : State := s.setResp { s.resp with responses := [] }

end Sys2Proof.Machine
end

