-- ==== Sys2Proof/Machine/PeerTable.lean ====
section
/-! DEFINITION. The peer table (chapter 7): hearing, silence, loss, and the changed marks. -/

namespace Sys2Proof.Machine

/-- A valid frame makes its source heard (R121). -/
def hear (n : Station) (s : State) : State :=
  if hearing s.ctl.span then setPeer n { peerOf n s with presence := .present, heardAgo := 0 } s else s

/-- The interval of an ANNOUNCE (R122). -/
def takeInterval (n : Station) (interval : Byte) (s : State) : State :=
  if hearing s.ctl.span then setPeer n { peerOf n s with interval := some interval } s else s

/-- A fresh ANNOUNCE returns the last applied inbound sequence to none (R126). -/
def takeFresh (n : Station) (s : State) : State :=
  if hearing s.ctl.span then setPeer n { peerOf n s with lastApplied := none } s else s

/-- A request to mark a station SILENT (R124). -/
def markSilent (n : Station) (s : State) : State :=
  if (peerOf n s).presence = .present then setPeer n { peerOf n s with presence := .silent } s else s

/-- A record's fields on becoming ABSENT; the changed mark is judged at the end of the event (R128, R130). -/
def lostRecord (r : PeerRecord) : PeerRecord := { PeerRecord.reset with changed := r.changed }

/-- The read agent's and the write agent's parts of the loss of station `n`, in an order that the spec leaves open (R128, log
entries 1 and 2). -/
def agentsLose (n : Station) (s : State) : State :=
  let t := s.setChoice (s.choice + 1)
  let first := Config.firstPurgedRead s.choice
  let write := purgeWrites (fun w => w.dest == n) .peerLost
  if Config.readPartFirst s.choice then write (purgeReads n first t) else purgeReads n first (write t)

/-- The loss of a peer: its record, then every block's purge (R128, Table 7.3). -/
def losePeer (n : Station) (s : State) : State :=
  purgeResponses n (agentsLose n (directoryLoses n (setPeer n (lostRecord (peerOf n s)) s)))

/-- A LEAVE frame, its source already heard (R125). -/
def takeLeave (n : Station) (s : State) : State := if hearing s.ctl.span then losePeer n s else s

/-- Entering OFFLINE or STOPPED (R130). -/
def clearPeers (s : State) : State := s.setPeers (s.peers.map lostRecord)

/-! ## The end-of-event comparison (R120) -/

def markChanged (before after : PeerRecord) : PeerRecord :=
  if before.presence = after.presence then after else { after with changed := true }

def presenceMoved (before after : PeerRecord) : Bool := decide (before.presence ≠ after.presence)

def peerEventEnd (before : List PeerRecord) (s : State) : State :=
  if (List.zipWith presenceMoved before s.peers).any id then
    raise .peer (s.setPeers (List.zipWith markChanged before s.peers))
  else s

/-! ## Ticks (R123) -/

/-- One tick of a record's time since last heard, which runs in PRESENT and SILENT. -/
def tickRecord (r : PeerRecord) : PeerRecord :=
  if r.presence = .absent then r else { r with heardAgo := r.heardAgo + 1 }

end Sys2Proof.Machine
end

