-- ==== Sys2Proof/Machine/StationControl.lean ====
section
/-! DEFINITION. Station control (chapter 8): entering OFFLINE and STOPPED, the drain, the end of an event, and the
judgement of the configuration. -/

namespace Sys2Proof.Machine

/-! ## Entering OFFLINE and STOPPED (R147) -/

def clearSelector (s : State) : State := s.setSel Selector.reset

/-- The consecutive counts return to 0 (R8). -/
def clearConsecutive (s : State) : State := s.setIface { s.iface with lossCount := 0, failCount := 0 }

def stopControlTimers (s : State) : State := s.setCtl { s.ctl with listenTimer := none, drainTimer := none }

/-- The purge, block by block (R147). -/
def purgeAll (s : State) : State :=
  stopControlTimers (clearConsecutive (clearPeers (clearSelector (emptyResponses (emptyWrites (freeAllReads (emptyDirectory s)))))))

/-- A break of 12 bit times of the BIT_DIV in force now (R7, R9). -/
def breakPeriods (c : ConfigRecord) : Nat := Config.idleBits * c.bitDiv.toNat

/-- A transmission when the span state becomes OFFLINE: it is cut, or its break goes on as it is (R9). -/
def cutTransmission (c : ConfigRecord) (t : Transmission) : Transmission :=
  match t.phase with
  | .breaking .failure => { t with phase := .breaking .failureThenOffline }
  | .breaking _ => t
  | _ => { t with phase := .breaking .cut, breakLength := breakPeriods c }

def cut (s : State) : State := s.setIface { s.iface with tx := s.iface.tx.map (cutTransmission s.ctl.config) }

def setStopCause (x : Option StopCause) (s : State) : State := s.setCtl { s.ctl with stopCause := x }

/-- The span state becomes OFFLINE, if it is not (R133, R146, R147). -/
def enterOffline (s : State) : State :=
  if s.ctl.span = .offline then s else setSpan .offline (setStopCause none (purgeAll (cut s)))

/-- The span state becomes STOPPED (R140, R141, R147). -/
def enterStopped (c : StopCause) (s : State) : State := setSpan .stopped (setStopCause (some c) (purgeAll s))

/-- A clash report, acted on by the span state (R140). -/
def takeClash (s : State) : State := if hearing s.ctl.span then enterStopped .clash s else s

/-! ## The drain (R143) -/

/-- The Posted Write Queue is empty and no delayed read is fetching. -/
def drained (s : State) : Bool := s.writes.queue.isEmpty && s.reads.entries.all (fun e => !fetching e.state)

/-- In LEAVING, once the drain condition holds, the LEAVE mark is set and the drain timer stops. -/
def drainCheck (s : State) : State :=
  if s.ctl.span = .leaving && drained s then
    (s.setSel { s.sel with leaveMark := true }).setCtl { s.ctl with drainTimer := none }
  else s

/-! ## An event (R20, R120, R143) -/

/-- What every event ends with: the comparisons of the peer table and of the directory, and the drain condition. -/
def eventEnd (before s : State) : State := drainCheck (directoryEventEnd before.dir.entries (peerEventEnd before.peers s))

/-- An event of the station: `f`, taken whole. -/
def event (f : State → State) (s : State) : State := eventEnd s (f s)

/-! ## Judging the configuration (R136) -/

def inRange (lo hi x : Nat) : Bool := decide (lo ≤ x) && decide (x ≤ hi)

/-- The ranges of Table 9.1; every RETRY_LIMIT that its field holds is in range. -/
def timingOk (c : ConfigRecord) : Bool :=
  inRange 8 40 c.tickDiv.toNat && inRange 2 32 c.bitDiv.toNat && inRange 1 250 c.hbInterval.toNat &&
    inRange 1 255 c.respTimeout.toNat && inRange 0 7 c.retryLimit.toNat && inRange 1 64 c.discardTime.toNat

def regionRangeOk (r : RegionConfig) : Bool :=
  !r.enable ||
    (inRange 1 64 r.length.toNat && decide (r.localOffset.toNat * 256 + 256 * r.length.toNat ≤ 0x4000) &&
      decide (r.globalBase.toNat * 256 + 256 * r.length.toNat ≤ 0x1000000))

/-- Two enabled regions have a global byte in common. -/
def regionsMeet (r t : RegionConfig) : Bool :=
  r.enable && t.enable &&
    rangesMeet (r.globalBase.toNat * 256) (256 * r.length.toNat) (t.globalBase.toNat * 256) (256 * t.length.toNat)

def someRegionsMeet (c : ConfigRecord) : Bool :=
  allRegionIndexes.any (fun i => allRegionIndexes.any (fun j => decide (i ≠ j) && regionsMeet (regionOf c i) (regionOf c j)))

/-- The first test of R136 that fails, or NONE. -/
def judgeConfig (c : ConfigRecord) : RefusalCode :=
  if !validStation c.station then .stationUnset
  else if !timingOk c then .timingRange
  else if !allRegionIndexes.all (fun n => regionRangeOk (regionOf c n)) then .regionRange
  else if someRegionsMeet c then .regionOverlap
  else .none

/-! ## COMMAND_STATUS (R135) -/

def setCommandStatus (code : Byte) (r : RefusalCode) (s : State) : State :=
  s.setCtl { s.ctl with status := { code := code, refusal := r } }

/-- A refused command changes nothing but COMMAND_STATUS, and is answered FAULT (R134). -/
def refuseCommand (code : Byte) (r : RefusalCode) (s : State) : Taken := answerOnly .fault 0 (setCommandStatus code r s)

/-- An accepted command has its effect in its event, and is answered OK (R134). -/
def acceptCommand (k : HostCommand) (effect : State → State) (s : State) : Taken :=
  answerOnly .ok 0 (setCommandStatus (commandCode k) .none (effect s))

end Sys2Proof.Machine
end

