-- ==== Sys2Proof/Machine/Reset.lean ====
section
/-! DEFINITION. The resets: POWER_ON_RESET, POWER_ON_CLEAR_END, PIN_RESET, PIN_RESET_RELEASE. -/

namespace Sys2Proof.Machine

/-- The state of this answer is the next state. -/
abbrev Step := Host.Outcome State Fault Refusal

/-- Every block at its power-on values, and the clear of shared RAM begun; the levels of the input pins, the queue of
commands and the count of free choices are not the station's to reset. -/
def powerOnState (s : State) : State :=
  { State.reset with
    port := { State.reset.port with strobeHeld := s.port.strobeHeld, resetLow := s.port.resetLow }
    choice := s.choice
    pending := s.pending }

/-- Every block at its pin-reset values: those of power-on, but that shared RAM and a running clear of it are left as they
are (R86), and no cycle is in progress. -/
def pinResetState (s : State) : State :=
  { State.reset with
    ram := s.ram
    port :=
      { State.reset.port with
        strobeHeld := s.port.strobeHeld, resetLow := true, clearing := s.port.clearing }
    choice := s.choice
    pending := s.pending }

/-- POWER_ON_RESET (R86, R155, R159). -/
def execPowerOnReset (s : State) : Step := .next (powerOnState s)

/-- POWER_ON_CLEAR_END (R86, R159): shared RAM is 0 and the port takes cycles. -/
def execPowerOnClearEnd (s : State) : Step :=
  .next (if s.port.clearing then (s.setRam []).setPort { s.port with clearing := false } else s)

/-- PIN_RESET (R1, R86, R155): nRST goes low. -/
def execPinReset (s : State) : Step := .next (pinResetState s)

/-- PIN_RESET_RELEASE (R155): nRST returns high; a strobe still held begins no cycle. -/
def execPinResetRelease (s : State) : Step := .next (s.setPort { s.port with resetLow := false })

end Sys2Proof.Machine
end

