-- ==== Sys2Proof/Machine/Selector.lean ====
section
/-! DEFINITION. The transmit selector (chapter 6): the offer, its frame and class, and what a sent outcome does. -/

namespace Sys2Proof.Machine

/-! ## The offer (R104) -/

/-- The fresh mark of a pending ANNOUNCE. -/
def announceDue : AnnounceMark → Option Bool
  | .clear => none
  | .pending => some false
  | .pendingFresh => some true

/-- The first of the selector's sources that exists. -/
def firstOffer (s : State) : Option Offered :=
  match s.resp.responses with
  | r :: _ => some (.response r)
  | [] =>
    if s.sel.leaveMark then some .leave
    else
      match announceDue s.sel.announceMark with
      | some fresh => some (.announce fresh (ownGroups s))
      | none => if s.sel.heartbeatMark then some .heartbeat else s.sel.ready.head?.map .request

/-- The selector has an offer only in ANNOUNCING, ONLINE and LEAVING. -/
def offer (s : State) : Option Offered := if onSpan s.ctl.span then firstOffer s else none

/-! ## The frame of an offer (R52, R74, R97, Table 6.2) and its class (R108) -/

def urgent (s : State) : Bool := Config.urgentLosses ≤ s.iface.lossCount

def requestClass (s : State) : BitVec 2 := if urgent s then 1 else 2

def maintenanceClass (s : State) : BitVec 2 := if urgent s then 1 else 3

/-- A maintenance frame: destination 31, tag 0 (R16). -/
def maintenanceFrame (fresh : Bool) (b : Body) (s : State) : Frame :=
  { cls := maintenanceClass s, src := ownStation s, notice := false, fresh := fresh, dest := 31, tag := 0, body := b }

def answerBody : Answer → Body
  | .readRsp data => .readRsp data
  | .writeAck => .writeAck
  | .nack a r _ => .nack a r

/-- N is set in the NACK of a WRITE only (R15). -/
def answerNotice : Answer → Bool
  | .nack _ _ ofWrite => ofWrite
  | _ => false

def responseFrame (r : Response) (s : State) : Frame :=
  { cls := 0, src := ownStation s, notice := answerNotice r.answer, fresh := false, dest := r.dest, tag := r.tag,
    body := answerBody r.answer }

/-- The READ_REQ of an entry (R52). -/
def readFrame (i : ReadIndex) (inc : Incarnation) (s : State) : Frame :=
  { cls := requestClass s, src := ownStation s, notice := false, fresh := false, dest := (readAt i s).dest,
    tag := readTag i inc, body := .readReq (readAt i s).addr (BitVec.ofNat 8 (readAt i s).length) }

/-- The queue's head, or nothing to send. -/
def headOr (s : State) : PostedWrite :=
  s.writes.queue.headD
    { admission := 0, dest := 0, addr := 0, data := [], notice := false, sequence := 0, attempts := 0, inFlight := false,
      held := false, timer := none }

/-- The WRITE of the head (R74). -/
def writeFrame (s : State) : Frame :=
  { cls := requestClass s, src := ownStation s, notice := (headOr s).notice, fresh := false, dest := (headOr s).dest,
    tag := (headOr s).sequence, body := .write (headOr s).addr (headOr s).data }

def offerFrame (x : Offered) (s : State) : Frame :=
  match x with
  | .response r => responseFrame r s
  | .leave => maintenanceFrame false .leave s
  | .announce fresh regions => maintenanceFrame fresh (.announce s.ctl.config.hbInterval regions) s
  | .heartbeat => maintenanceFrame false .heartbeat s
  | .request (.read i inc) => readFrame i inc s
  | .request (.write _) => writeFrame s

/-! ## A sent outcome (R109) -/

/-- Any frame sent clears the HEARTBEAT mark and restarts a running heartbeat timer. -/
def heartbeatSent (s : State) : State :=
  s.setSel
    { s.sel with
      heartbeatMark := false
      heartbeatTimer := s.sel.heartbeatTimer.map (fun _ => heartbeatTicks s.ctl.config) }

def unreadyItem (x : ReadyItem) (s : State) : State :=
  s.setSel { s.sel with ready := s.sel.ready.filter (fun y => y != x) }

def startHeartbeat (s : State) : State :=
  s.setSel { s.sel with heartbeatTimer := some (heartbeatTicks s.ctl.config) }

/-- A sent fresh ANNOUNCE takes the station from ANNOUNCING to ONLINE (R139). -/
def freshSent (s : State) : State :=
  if s.ctl.span = .announcing then startHeartbeat (setSpan .online s) else s

/-- The mark is cleared, and set again in ONLINE if the copy's list is no longer the station's (R115). -/
def renewAnnounce (copy : List RegionGroup) (s : State) : State :=
  s.setSel
    { s.sel with
      announceMark := if ownGroups s ≠ copy ∧ s.ctl.span = .online then .pending else .clear }

/-- A sent ANNOUNCE (R115). -/
def announceSent (fresh : Bool) (copy : List RegionGroup) (s : State) : State :=
  renewAnnounce copy (if fresh then freshSent s else s)

/-- A sent LEAVE (R116, R145). -/
def leaveSent (s : State) : State := enterOffline (s.setSel { s.sel with leaveMark := false })

/-- The consequence for the item offered (R106, R107, R109). -/
def itemSent (x : Offered) (s : State) : State :=
  match x with
  | .response r => responseSent r s
  | .leave => leaveSent s
  | .announce fresh copy => announceSent fresh copy s
  | .heartbeat => s
  | .request (.read i inc) => readSent i inc (unreadyItem (.read i inc) s)
  | .request (.write adm) => writeSent adm (unreadyItem (.write adm) s)

end Sys2Proof.Machine
end

