-- ==== Sys2Proof/Machine/Attempts.lean ====
section
/-! DEFINITION. The transmit side of the span interface and the receiver's own changes (chapter 1): ATTEMPT_BEGIN,
ATTEMPT_LOST, READBACK_MISMATCH, BREAK_END, ATTEMPT_SENT, IDLE_FOUND, START_BIT_CONFIRMED, OWN_FRAME_END. -/

namespace Sys2Proof.Machine

/-- An event of the station that arises only while nRST is high and `arises` holds; where it does not arise nothing
changes (log entry 3). -/
def stationEvent (arises : State → Bool) (f : State → State) (s : State) : Step :=
  .next (if !s.port.resetLow && arises s then event f s else s)

/-- An event of the line's own time: a frame that has ended is taken before the next bit (R13, log entry 25). -/
def lineEvent (arises : State → Bool) (f : State → State) (s : State) : Step :=
  stationEvent (fun s => !s.iface.untaken && arises s) f s

def setTx (t : Option Transmission) (s : State) : State := s.setIface { s.iface with tx := t }

/-- The receiver does not know where frames begin, and what it held is discarded (R4). -/
def receiverLost (s : State) : State :=
  s.setIface
    { s.iface with
      receiver := .waitIdle, idleCount := 0, rxBuffer := [], rxCount := 0, rxOwn := false, untaken := false
      fromOffline := false }

/-- The receiver enters RECEIVING with the receive frame buffer empty (R4, R14). -/
def startReceiving (own : Bool) (s : State) : State :=
  s.setIface { s.iface with receiver := .receiving, rxBuffer := [], rxCount := 0, rxOwn := own }

/-! ## Beginning an attempt (R5) -/

/-- The offer is copied into the transmission in progress, with its class. -/
def transmissionOf (x : Offered) (s : State) : Transmission :=
  { image := encodeFrame (offerFrame x s), item := x, phase := .arbitrating, bitsSent := 0, breakLength := 0 }

def beginAttempt (s : State) : State :=
  match offer s with
  | some x => setTx (some (transmissionOf x s)) (startReceiving true s)
  | none => s

/-- ATTEMPT_BEGIN: an attempt begins only in IDLE with an offer. -/
def execAttemptBegin (s : State) : Step := stationEvent (fun s => s.iface.receiver == .idle) beginAttempt s

/-! ## Losing arbitration (R6, R8) -/

def inPhase (p : TxPhase → Bool) (s : State) : Bool := s.iface.tx.any (fun t => p t.phase)

def arbitrating : TxPhase → Bool
  | .arbitrating => true
  | _ => false

def onLine : TxPhase → Bool
  | .arbitrating => true
  | .sending => true
  | .breaking _ => false

/-- The line is released and the rest of the winner's frame is received as an ordinary one. -/
def loseAttempt (s : State) : State :=
  count .arbLost 1
    (s.setIface { s.iface with tx := none, rxOwn := false, lossCount := min (s.iface.lossCount + 1) Config.urgentLosses })

/-- ATTEMPT_LOST: only during the key byte. -/
def execAttemptLost (s : State) : Step := lineEvent (inPhase arbitrating) loseAttempt s

/-! ## Failing (R7) -/

/-- The frame stops and a break begins. -/
def breakFor (c : ConfigRecord) (t : Transmission) : Transmission :=
  { t with phase := .breaking .failure, breakLength := breakPeriods c }

def failReadback (s : State) : State := setTx (s.iface.tx.map (breakFor s.ctl.config)) s

/-- READBACK_MISMATCH. -/
def execReadbackMismatch (s : State) : Step := lineEvent (inPhase onLine) failReadback s

/-! ## The end of a break (R7, R9, R111, R141) -/

def breaking : TxPhase → Bool
  | .breaking _ => true
  | _ => false

/-- The sixteenth consecutive failure stops a station that is on the span. -/
def stopIfFailing (s : State) : State :=
  if Config.stopFailures ≤ s.iface.failCount && onSpan s.ctl.span then enterStopped .txFailures s else s

def countFailure (s : State) : State :=
  s.setIface { s.iface with failCount := min (s.iface.failCount + 1) Config.stopFailures }

/-- What the outcome of the attempt counts (Table 1.3, R9). -/
def breakOutcome (b : BreakCause) (s : State) : State :=
  match b with
  | .failure => stopIfFailing (countFailure (count .txFail 1 s))
  | .failureThenOffline => count .txFail 1 s
  | .cut => s

def endBreak (s : State) : State :=
  match s.iface.tx with
  | some t =>
    match t.phase with
    | .breaking b => breakOutcome b (receiverLost (setTx none s))
    | _ => s
  | none => s

/-- BREAK_END. -/
def execBreakEnd (s : State) : Step := lineEvent (inPhase breaking) endBreak s

/-! ## Sending to the end (R8, R109) -/

/-- The interface with the first `n` bytes of its own frame received: at most 42 are in the buffer, all are counted (R4). -/
def ownBytesReceived (image : List Byte) (n : Nat) (x : SpanInterface) : SpanInterface :=
  { x with rxBuffer := (image.take n).take Config.frameBufferSize, rxCount := n }

/-- The attempt ends sent; the receiver, which has read every byte of the frame, stays in RECEIVING (R4, R8). -/
def attemptSentOn (t : Transmission) (s : State) : State :=
  itemSent t.item
    (heartbeatSent
      (s.setIface
        (ownBytesReceived t.image t.image.length { s.iface with tx := none, lossCount := 0, failCount := 0 })))

def endSent (s : State) : State :=
  match s.iface.tx with
  | some t => attemptSentOn t s
  | none => s

/-- ATTEMPT_SENT. -/
def execAttemptSent (s : State) : Step := lineEvent (inPhase onLine) endSent s

/-- One bit time of a transmission: the next bit of the frame is on the line, and from the key's stop bit on the phase is
SENDING (R3, R5, R6). The last stop bit stays until ATTEMPT_SENT. -/
def bitPassed (t : Transmission) : Transmission :=
  if onLine t.phase then
    let n := min (t.bitsSent + 1) (frameBits t.image - 1)
    { t with bitsSent := n, phase := if Config.bitsPerByte ≤ n + 1 then .sending else t.phase }
  else t

/-- A byte of the own frame is received with its stop bit (R4). -/
def ownBitsReceived (t : Transmission) (x : SpanInterface) : SpanInterface :=
  if onLine t.phase then ownBytesReceived t.image (t.bitsSent / Config.bitsPerByte) x else x

/-- While no command waits, line time passes: one bit of the frame being sent (log entry 4), but not before a frame that has
ended is taken. -/
def idleStep (s : State) : State :=
  if s.port.resetLow || s.iface.untaken then s
  else
    match s.iface.tx with
    | some t => s.setIface (ownBitsReceived (bitPassed t) { s.iface with tx := some (bitPassed t) })
    | none => s

/-! ## The receiver (R4, R8) -/

/-- A frame of another station is being received (R4, R8). -/
def receivingPeer (s : State) : Bool := s.iface.receiver == .receiving && s.iface.tx.isNone && !s.iface.rxOwn

/-- In WAIT_IDLE samples are taken: BIT_DIV is in range (R2) and the station's own break is not on the line. -/
def awaitsIdle (s : State) : Bool := s.iface.receiver == .waitIdle && s.iface.tx.isNone && bitsRun s.ctl.config

/-- The line is idle: from WAIT_IDLE with 12 samples counted, from RECEIVING with the frame ended and still to be taken for
checking (R4), but in STOPPED, where no frame is (R14). -/
def foundIdle (s : State) : State :=
  if awaitsIdle s then s.setIface { s.iface with receiver := .idle, idleCount := Config.idleBits }
  else s.setIface { s.iface with receiver := .idle, untaken := decide (s.ctl.span ≠ .stopped) }

/-- IDLE_FOUND: 12 recessive bit times in WAIT_IDLE; or after the last stop bit of another station's frame, where the command
that carries the frame then takes it (log entry 25). -/
def execIdleFound (s : State) : Step := stationEvent (fun s => awaitsIdle s || receivingPeer s) foundIdle s

/-- START_BIT_CONFIRMED: another station's start bit. -/
def execStartBitConfirmed (s : State) : Step :=
  lineEvent (fun s => s.iface.receiver == .idle) (startReceiving false) s

/-- OWN_FRAME_END: 12 recessive bit times after the own sent frame, which is not checked. -/
def execOwnFrameEnd (s : State) : Step :=
  stationEvent (fun s => s.iface.receiver == .receiving && s.iface.rxOwn && s.iface.tx.isNone)
    (fun s => s.setIface { s.iface with receiver := .idle, rxOwn := false }) s

end Sys2Proof.Machine
end

