-- ==== Sys2Proof/Machine/Registers.lean ====
section
/-! DEFINITION. What the registers and views read (R162, Tables 10.6, 10.7 and those of the owning chapters), and what a
write stores in a configuration word (R150). -/

namespace Sys2Proof.Machine

/-! ## Codes -/

def spanCode : SpanState → BitVec 3
  | .offline => 0
  | .listening => 1
  | .announcing => 2
  | .online => 3
  | .leaving => 4
  | .stopped => 5

def stopCode : Option StopCause → BitVec 2
  | none => 0
  | some .clash => 1
  | some .txFailures => 2

def refusalCode : RefusalCode → BitVec 4
  | .none => 0
  | .wrongState => 1
  | .stationUnset => 2
  | .timingRange => 3
  | .regionRange => 4
  | .regionOverlap => 5
  | .queueEmpty => 6
  | .unknownCommand => 7

def opCode : FaultOp → BitVec 2
  | .read => 1
  | .write => 2

def presenceCode : Presence → BitVec 2
  | .absent => 0
  | .present => 1
  | .silent => 2

def readStateCode : ReadState → BitVec 3
  | .free => 0
  | .waiting => 1
  | .ready => 2
  | .issued => 3
  | .complete => 4

/-! ## Station control's registers (Tables 8.2 and 8.5) -/

def spanStateWord (c : StationControl) : Word := 0#10 ++ stopCode c.stopCause ++ 0#1 ++ spanCode c.span

def commandStatusWord (x : CommandStatus) : Word :=
  BitVec.ofBool (x.refusal != .none) ++ 0#3 ++ refusalCode x.refusal ++ x.code

/-! ## Configuration words (Table 9.2) -/

def configWord (c : ConfigRecord) : ConfigWord → Word
  | .station => c.station.setWidth 16
  | .hbInterval => c.hbInterval.setWidth 16
  | .respTimeout => c.respTimeout.setWidth 16
  | .retryLimit => c.retryLimit.setWidth 16
  | .discardTime => c.discardTime.setWidth 16
  | .regionCtrl n =>
      0#1 ++ (regionOf c n).length ++ 0#5 ++ BitVec.ofBool (regionOf c n).prefetch ++
        BitVec.ofBool (regionOf c n).readWrite ++ BitVec.ofBool (regionOf c n).enable
  | .regionLocal n => 0#2 ++ (regionOf c n).localOffset ++ 0#8
  | .regionGlobal n => (regionOf c n).globalBase

def setRegion (n : RegionIndex) (r : RegionConfig) (c : ConfigRecord) : ConfigRecord :=
  { c with regions := c.regions.set n.toNat r }

/-- The record with the fields of word `w` as the word `d` has them; bits outside every field are dropped. -/
def storeConfigWord (w : ConfigWord) (d : Word) (c : ConfigRecord) : ConfigRecord :=
  match w with
  | .station => { c with station := d.setWidth 5 }
  | .hbInterval => { c with hbInterval := d.setWidth 8 }
  | .respTimeout => { c with respTimeout := d.setWidth 8 }
  | .retryLimit => { c with retryLimit := d.setWidth 3 }
  | .discardTime => { c with discardTime := d.setWidth 7 }
  | .regionCtrl n =>
      setRegion n
        { regionOf c n with
          enable := d.getLsbD 0, readWrite := d.getLsbD 1, prefetch := d.getLsbD 2, length := d.extractLsb' 8 7 } c
  | .regionLocal n => setRegion n { regionOf c n with localOffset := d.extractLsb' 8 6 } c
  | .regionGlobal n => setRegion n { regionOf c n with globalBase := d } c

/-- A write of the enabled bytes (R150). -/
def writeConfigWord (w : ConfigWord) (be : Enables) (d : Word) (c : ConfigRecord) : ConfigRecord :=
  storeConfigWord w (mergeLanes (configWord c w) d be) c

/-! ## The fault record (Table 11.3) and the notices (Table 5.7) -/

def highAddr (a : GlobalAddr) : Word := (a.extractLsb' 16 8).setWidth 16

def lowAddr (a : GlobalAddr) : Word := a.extractLsb' 0 16

def faultStatusWord : Option FaultRecord → Word
  | none => 0
  | some f => 0#14 ++ BitVec.ofBool f.overflow ++ 1#1

/-- A field of the fault record, 0 while it is not valid. -/
def faultField (g : FaultReport → Word) : Option FaultRecord → Word
  | none => 0
  | some f => g f.report

/-- A field of the oldest notice, 0 while there is none. -/
def noticeField (g : Notice → Word) : List Notice → Word
  | [] => 0
  | x :: _ => g x

def noticeSrcWord (x : Notice) : Word := 0#6 ++ BitVec.ofNat 2 x.value.length ++ 0#3 ++ x.source

def noticeValueWord (x : Notice) : Word := x.value.getD 1 0 ++ x.value.getD 0 0

/-! ## Queue summaries (Table 10.7) -/

def pwqCountWord (q : List PostedWrite) : Word :=
  0#7 ++ BitVec.ofBool (q.head?.any (fun w => w.inFlight || w.held)) ++ 0#3 ++ BitVec.ofNat 5 q.length

def countReads (p : ReadEntry → Bool) (s : State) : BitVec 4 := BitVec.ofNat 4 (s.reads.entries.filter p).length

def inState (x : ReadState) (e : ReadEntry) : Bool := e.state == x

def drtSummary0 (s : State) : Word :=
  countReads (inState .issued) s ++ countReads (inState .ready) s ++ countReads (inState .waiting) s ++
    countReads (inState .free) s

def drtSummary1 (s : State) : Word := 0#8 ++ countReads (·.overtaken) s ++ countReads (inState .complete) s

/-! ## A register (Table 10.6) -/

def readReg (s : State) : Reg → Word
  | .spanState => spanStateWord s.ctl
  | .command => 0
  | .commandStatus => commandStatusWord s.ctl.status
  | .apertureBase => s.port.apertureBase.setWidth 16
  | .eventFlags => flagsWord s
  | .eventEnable => s.ev.enables.setWidth 16
  | .faultStatus => faultStatusWord s.ev.fault
  | .faultOp => faultField (fun r => (opCode r.op).setWidth 16) s.ev.fault
  | .faultReason => faultField (fun r => (reasonCode r.reason).setWidth 16) s.ev.fault
  | .faultAddrH => faultField (fun r => highAddr r.addr) s.ev.fault
  | .faultAddrL => faultField (fun r => lowAddr r.addr) s.ev.fault
  | .faultStation => faultField (fun r => r.station.setWidth 16) s.ev.fault
  | .noticeCount => BitVec.ofNat 16 s.resp.notices.length
  | .noticeSrc => noticeField noticeSrcWord s.resp.notices
  | .noticeAddrH => noticeField (fun x => highAddr x.addr) s.resp.notices
  | .noticeAddrL => noticeField (fun x => lowAddr x.addr) s.resp.notices
  | .noticeValue => noticeField noticeValueWord s.resp.notices
  | .dirCount => BitVec.ofNat 16 s.dir.entries.length
  | .dirGeneration => s.dir.generation
  | .pwqCount => pwqCountWord s.writes.queue
  | .drtSummary0 => drtSummary0 s
  | .drtSummary1 => drtSummary1 s
  | .tickDiv => s.ctl.config.tickDiv.setWidth 16
  | .bitDiv => s.ctl.config.bitDiv.setWidth 16
  | .config w => configWord s.ctl.config w
  | .counter c => counterOf s.ev.counters c

/-! ## The peer table view (Table 7.4) -/

/-- The station whose slot it is: slot 0 is station 1. -/
def slotStation (slot : Nat) : Station := BitVec.ofNat 5 (slot + 1)

def peerStateWord (r : PeerRecord) : Word :=
  0#12 ++ BitVec.ofBool r.changed ++ BitVec.ofBool r.interval.isSome ++ presenceCode r.presence

def peerViewWord (c : ConfigRecord) (r : PeerRecord) (word : Nat) : Word :=
  match word with
  | 0 => peerStateWord r
  | 1 => 0#7 ++ BitVec.ofBool r.lastApplied.isSome ++ effectiveInterval c r
  | 2 => BitVec.ofNat 16 (r.heardAgo / 1000)
  | _ => r.lastApplied.getD 0 ++ r.outbound

/-! ## The directory view (Table 2.5) -/

def dirViewWord (generation : Word) (e : Option DirEntry) (word : Nat) : Word :=
  match word, e with
  | 3, _ => generation
  | _, none => 0
  | 0, some e => e.base
  | 1, some e => 0#3 ++ e.owner ++ 0#1 ++ e.length
  | _, some e =>
      0#11 ++ e.own.getD 0 ++ BitVec.ofBool e.own.isSome ++ BitVec.ofBool e.prefetch ++ BitVec.ofBool e.readWrite

/-! ## The Delayed Read Table view (Table 3.5) -/

def outcomeCode : Option ReadOutcome → Byte
  | some (.fault r) => (reasonCode r).setWidth 8
  | _ => 0

/-- Rank among the entries that are not FREE, 0 the oldest; 0 when FREE. -/
def rankOf (i : ReadIndex) (s : State) : Nat := if s.reads.order.contains i then s.reads.order.idxOf i else 0

def readViewWord (e : ReadEntry) (rank word : Nat) : Word :=
  match word with
  | 0 =>
      0#3 ++ e.dest ++ 0#2 ++ BitVec.ofBool e.overtaken ++ BitVec.ofBool e.delivered ++ BitVec.ofBool e.prefetch ++
        readStateCode e.state
  | 1 => lowAddr e.addr
  | 2 => BitVec.ofNat 8 e.length ++ e.addr.extractLsb' 16 8
  | 3 => 0#4 ++ BitVec.ofNat 4 e.attempts ++ 0#3 ++ e.incarnation
  | 4 => (if e.state = .waiting then BitVec.ofNat 8 e.ahead else 0) ++ outcomeCode e.outcome
  | 5 => e.barrier.getD 0
  | 6 => 0#5 ++ BitVec.ofNat 3 rank ++ 0#7 ++ BitVec.ofBool e.barrier.isSome
  | _ => 0

/-! ## Any word that a read gives the value of (R162) -/

def readWord (area : Area) (s : State) : Word :=
  match area with
  | .register r => readReg s r
  | .peerView slot word => peerViewWord s.ctl.config (peerOf (slotStation slot) s) word
  | .dirView slot word => dirViewWord s.dir.generation s.dir.entries[slot]? word
  | .readView slot word => readViewWord (readAt (BitVec.ofNat 3 slot) s) (rankOf (BitVec.ofNat 3 slot) s) word
  | _ => 0

end Sys2Proof.Machine
end

