-- ==== Sys2Proof/Machine/HostCycles.lean ====
section
/-! DEFINITION. Host cycles that are no command (chapter 10): shared RAM, the aperture, registers and views, the cycles the
port answers itself, and the end of a cycle. -/

namespace Sys2Proof.Machine

/-! ## Shared RAM (R85) -/

def ramReadTaken (w : BitVec 13) (be : Enables) (s : State) : Taken :=
  answerOnly .ok (driveLanes be (ramRead (accessStart (w.toNat * 2) be) (accessWidth be) s)) s

def ramWriteTaken (w : BitVec 13) (be : Enables) (d : Word) (s : State) : Taken :=
  answerOnly .ok 0 (ramWrite (accessStart (w.toNat * 2) be) (laneBytes be d) s)

/-- HOST_RAM_READ. -/
def execHostRamRead (w : BitVec 13) (be : Enables) (s : State) : Step :=
  .next (hostCycle .read (ramWordAddr w) be (ramReadTaken w be) s)

/-- HOST_RAM_WRITE. -/
def execHostRamWrite (w : BitVec 13) (be : Enables) (d : Word) (s : State) : Step :=
  .next (hostCycle .write (ramWordAddr w) be (ramWriteTaken w be d) s)

/-! ## The aperture (R161) -/

/-- The global address of the first byte of an access, through either alias. -/
def apertureAddr (w : BitVec 12) (be : Enables) (s : State) : GlobalAddr :=
  BitVec.ofNat 24 (s.port.apertureBase.toNat * 0x2000 + accessStart (w.toNat * 2) be)

/-- A cycle that is handed to its owner and would reach past shared RAM (R84). -/
def aperturePastEnd (w : BitVec 12) (be : Enables) (s : State) : Bool :=
  cycleTaken be s && loopbackPastEnd (apertureAddr w be s) (accessWidth be) s

/-- APERTURE_READ (R41 to R50): the notice alias reads exactly as the plain one. -/
def execApertureRead (notice : Bool) (w : BitVec 12) (be : Enables) (s : State) : Step :=
  if aperturePastEnd w be s then .fault .pastSharedRam
  else .next (hostCycle .read (apertureWordAddr notice w) be (apertureReadTaken (apertureAddr w be s) be) s)

/-- APERTURE_WRITE (R68 to R71): the notice alias asks for a notice. -/
def execApertureWrite (notice : Bool) (w : BitVec 12) (be : Enables) (d : Word) (s : State) : Step :=
  if aperturePastEnd w be s then .fault .pastSharedRam
  else
    .next
      (hostCycle .write (apertureWordAddr notice w) be
        (apertureWriteTaken (apertureAddr w be s) (laneBytes be d) notice) s)

/-! ## Registers with writes of their own (R161, R163, R166, R167) -/

def writeReg (r : Reg) (be : Enables) (effect : State → State) (s : State) : Step :=
  .next (hostCycle .write (regWordAddr r) be (fun s => answerOnly .ok 0 (effect s)) s)

def clearEvents (ones : Word) (s : State) : State := s.setEv { s.ev with flags := clearFlags s.ev.flags ones }

/-- EVENT_FLAGS_WRITE (R166). -/
def execEventFlagsWrite (be : Enables) (d : Word) (s : State) : Step :=
  writeReg .eventFlags be (clearEvents (d &&& laneMask be)) s

def storeEnables (be : Enables) (d : Word) (s : State) : State :=
  s.setEv { s.ev with enables := (mergeLanes (s.ev.enables.setWidth 16) d be).setWidth 9 }

/-- EVENT_ENABLE_WRITE (R167). -/
def execEventEnableWrite (be : Enables) (d : Word) (s : State) : Step := writeReg .eventEnable be (storeEnables be d) s

def storeApertureBase (be : Enables) (d : Word) (s : State) : State :=
  s.setPort { s.port with apertureBase := (mergeLanes (s.port.apertureBase.setWidth 16) d be).setWidth 11 }

/-- APERTURE_BASE_WRITE (R161). -/
def execApertureBaseWrite (be : Enables) (d : Word) (s : State) : Step :=
  writeReg .apertureBase be (storeApertureBase be d) s

/-! ## The configuration (R2, R118, R150 to R152) -/

def setConfig (c : ConfigRecord) (s : State) : State := s.setCtl { s.ctl with config := c }

/-- A write to a configuration word is stored in OFFLINE and answered FAULT in any other state (R150). -/
def configTaken (store : State → State) (s : State) : Taken :=
  if s.ctl.span = .offline then answerOnly .ok 0 (store s) else answerOnly .fault 0 s

/-- What takes effect as a value is stored: a stored STATION clears the changed mark of its record (R118), a stored
enable field sets its region's status (R151). -/
def configStored (w : ConfigWord) (be : Enables) (s : State) : State :=
  match w with
  | .station =>
      if be.lo then setPeer (ownStation s) { peerOf (ownStation s) s with changed := false } s else s
  | .regionCtrl n => setStatus n (restStatus (regionOf s.ctl.config n)) s
  | _ => s

def storeConfig (w : ConfigWord) (be : Enables) (d : Word) (s : State) : State :=
  configStored w be (setConfig (writeConfigWord w be d s.ctl.config) s)

/-- CONFIG_WRITE (R150). -/
def execConfigWrite (w : ConfigWord) (be : Enables) (d : Word) (s : State) : Step :=
  .next (hostCycle .write (regWordAddr (.config w)) be (configTaken (storeConfig w be d)) s)

/-- BIT_DIV with its low byte enabled: any frame being received is abandoned and the receiver enters WAIT_IDLE; a break
being sent goes on (R2, R9). DESIGN CHOICE (log entry 25): a frame that has ended and has still to be taken for checking is
abandoned as one being received, without being counted. -/
def storeBitDiv (be : Enables) (d : Word) (s : State) : State :=
  if be.lo then receiverLost (setConfig { s.ctl.config with bitDiv := d.setWidth 6 } s) else s

/-- BIT_DIV_WRITE (R2, R150). -/
def execBitDivWrite (be : Enables) (d : Word) (s : State) : Step :=
  .next (hostCycle .write (regWordAddr .bitDiv) be (configTaken (storeBitDiv be d)) s)

/-- TICK_DIV with its low byte enabled: the division begins again (R152). -/
def storeTickDiv (be : Enables) (d : Word) (s : State) : State :=
  if be.lo then s.setCtl { s.ctl with config := { s.ctl.config with tickDiv := d.setWidth 6 }, tickCount := 0 } else s

/-- TICK_DIV_WRITE (R150, R152). -/
def execTickDivWrite (be : Enables) (d : Word) (s : State) : Step :=
  .next (hostCycle .write (regWordAddr .tickDiv) be (configTaken (storeTickDiv be d)) s)

/-! ## Reads of registers and views (R131, R162) -/

/-- The one read with an effect: the first word of a peer table view slot, its low byte included, clears the changed
mark. -/
def readEffect (area : Area) (be : Enables) (s : State) : State :=
  match area with
  | .peerView slot 0 =>
      if be.lo then setPeer (slotStation slot) { peerOf (slotStation slot) s with changed := false } s else s
  | _ => s

def readTaken (area : Area) (be : Enables) (s : State) : Taken :=
  { reply := .ok, data := readWord area s &&& laneMask be, next := readEffect area be s }

/-- PEER_VIEW_FIRST_WORD_READ (R131), and a read of any other register or view word (R162, log entry 8). -/
def execPeerViewFirstWordRead (a : BitVec 15) (be : Enables) (s : State) : Step :=
  if readsWord (areaOf a) then .next (hostCycle .read a be (readTaken (areaOf a) be) s) else .refused .illFormed

/-! ## Cycles that change nothing (R156 to R160, R163) -/

/-- REGISTER_WRITE_FAULT (R163). -/
def execRegisterWriteFault (a : BitVec 15) (be : Enables) (s : State) : Step :=
  if refusesWrites (areaOf a) then .next (hostCycle .write a be (answerOnly .fault 0) s) else .refused .illFormed

/-- UNCLAIMED_ACCESS (R160). -/
def execUnclaimedAccess (dir : Strobe) (a : BitVec 15) (be : Enables) (s : State) : Step :=
  if dir ≠ .both && areaOf a = .unclaimed then .next (hostCycle dir a be (answerOnly .fault 0) s)
  else .refused .illFormed

/-- BOTH_STROBES_CYCLE (R156): the port answers FAULT itself. -/
def execBothStrobesCycle (a : BitVec 15) (be : Enables) (s : State) : Step :=
  .next (hostCycle .both a be (answerOnly .fault 0) s)

/-- NO_BYTE_ENABLE_CYCLE (R158): the port answers DATA/OK itself. -/
def execNoByteEnableCycle (dir : Strobe) (a : BitVec 15) (s : State) : Step :=
  if dir ≠ .both then
    .next (hostCycle dir a { lo := false, hi := false } (answerOnly .ok 0) s)
  else .refused .illFormed

/-- CYCLE_DURING_CLEAR (R159): RETRY; it arises only during the clear (log entry 3). -/
def execCycleDuringClear (dir : Strobe) (a : BitVec 15) (be : Enables) (s : State) : Step :=
  .next (if s.port.clearing then hostCycle dir a be (answerOnly .retry 0) s else s)

/-- HOST_CYCLE_END (R155, R156): the strobe is released and the cycle in progress becomes absent. -/
def execHostCycleEnd (s : State) : Step := .next (s.setPort { s.port with strobeHeld := false, cycle := none })

end Sys2Proof.Machine
end

