-- ==== Sys2Proof/Machine/Commands.lean ====
section
/-! DEFINITION. The commands of the COMMAND register (R134): JOIN, LEAVE, RESTART, NOTICE_POP, CLEAR_FAULT, CLEAR_COUNTERS and a
write that is none of them. -/

namespace Sys2Proof.Machine

/-- A host write of a command code; the high byte is not examined. -/
def commandCycle (hi : Bool) (taken : State → Taken) (s : State) : Step :=
  .next (hostCycle .write (regWordAddr .command) { lo := true, hi := hi } taken s)

/-! ## JOIN (R136, R137) -/

/-- A frame that waits to be taken has ended in OFFLINE; DEDUCED (log entry 27): it stays one of OFFLINE when a JOIN is taken before
it (R148). -/
def markWaiting (s : State) : State := s.setIface { s.iface with fromOffline := s.iface.untaken }

/-- The span state becomes LISTENING and the listen timer starts. -/
def startListening (s : State) : State :=
  setSpan .listening (markWaiting (s.setCtl { s.ctl with listenTimer := some (listenTicks s.ctl.config) }))

def joinTaken (s : State) : Taken :=
  if s.ctl.span ≠ .offline then refuseCommand (commandCode .join) .wrongState s
  else if judgeConfig s.ctl.config ≠ .none then refuseCommand (commandCode .join) (judgeConfig s.ctl.config) s
  else acceptCommand .join (event startListening) s

/-- JOIN. -/
def execJoin (hi : Bool) (s : State) : Step := commandCycle hi joinTaken s

/-! ## LEAVE (R142) -/

/-- The span state becomes LEAVING and the drain timer starts; the drain condition is examined at the event's end. -/
def startLeaving (s : State) : State := setSpan .leaving (s.setCtl { s.ctl with drainTimer := some drainTicks })

def leaveTaken (s : State) : Taken :=
  match s.ctl.span with
  | .online => acceptCommand .leave (event startLeaving) s
  | .listening => acceptCommand .leave (event enterOffline) s
  | .announcing => acceptCommand .leave (event enterOffline) s
  | _ => refuseCommand (commandCode .leave) .wrongState s

/-- LEAVE. -/
def execLeave (hi : Bool) (s : State) : Step := commandCycle hi leaveTaken s

/-! ## RESTART (R146) -/

def restartTaken (s : State) : Taken := acceptCommand .restart (event enterOffline) s

/-- RESTART. -/
def execRestart (hi : Bool) (s : State) : Step := commandCycle hi restartTaken s

/-! ## NOTICE_POP (R101) -/

def popNotice (s : State) : State := s.setResp { s.resp with notices := s.resp.notices.tail }

def noticePopTaken (s : State) : Taken :=
  if s.resp.notices.isEmpty then refuseCommand (commandCode .noticePop) .queueEmpty s
  else acceptCommand .noticePop popNotice s

/-- NOTICE_POP. -/
def execNoticePop (hi : Bool) (s : State) : Step := commandCycle hi noticePopTaken s

/-! ## CLEAR_FAULT and CLEAR_COUNTERS (R169, R171) -/

def clearFault (s : State) : State := s.setEv { s.ev with fault := none }

/-- CLEAR_FAULT. -/
def execClearFault (hi : Bool) (s : State) : Step := commandCycle hi (acceptCommand .clearFault clearFault) s

def clearCounters (s : State) : State := s.setEv { s.ev with counters := Counters.reset }

/-- CLEAR_COUNTERS. -/
def execClearCounters (hi : Bool) (s : State) : Step := commandCycle hi (acceptCommand .clearCounters clearCounters) s

/-! ## No command (R134) -/

/-- UNKNOWN_COMMAND: no code, or a code that is not in Table 8.4. -/
def execUnknownCommand (be : Enables) (d : Word) (s : State) : Step :=
  if be.lo && knownCode (writtenCode be d) then .refused .illFormed
  else
    .next
      (hostCycle .write (regWordAddr .command) be (refuseCommand (writtenCode be d) .unknownCommand) s)

end Sys2Proof.Machine
end

