-- ==== Sys2Proof/Machine/Expiries.lean ====
section
/-! DEFINITION. The tick and the expiries of timers (R152, R153): TICK and the rows whose event is a timer that has counted
its ticks. An expiry arises only once its timer has (log entry 3). -/

namespace Sys2Proof.Machine

/-! ## What a tick advances (R153) -/

def tickReads (s : State) : State :=
  s.setReads
    { s.reads with
      entries := s.reads.entries.map (fun e =>
        { e with responseTimer := countDown e.responseTimer, discardTimer := countDown e.discardTimer }) }

def tickWrites (s : State) : State :=
  setQueue (s.writes.queue.map (fun w => { w with timer := countDown w.timer })) s

def tickSelector (s : State) : State := s.setSel { s.sel with heartbeatTimer := countDown s.sel.heartbeatTimer }

def tickPeers (s : State) : State := s.setPeers (s.peers.map tickRecord)

def tickControl (s : State) : State :=
  s.setCtl
    { s.ctl with
      listenTimer := countDown s.ctl.listenTimer, drainTimer := countDown s.ctl.drainTimer, tickCount := 0 }

/-- Every running timer and every record's time since last heard advance by one. -/
def tickAll (s : State) : State := tickControl (tickPeers (tickSelector (tickWrites (tickReads s))))

/-! ## The read agent's timers (R56, R58) -/

/-- The response timer of an entry expires: retransmission or exhaustion. -/
def readTimedOut (i : ReadIndex) (s : State) : State :=
  if retriesLeft (readAt i s).attempts s then makeReady i s
  else markSilent (readAt i s).dest (failRead .noAnswer s i)

def responseDue (i : ReadIndex) (s : State) : Bool := (readAt i s).state == .issued && expired (readAt i s).responseTimer

/-- READ_RESPONSE_TIMEOUT (R56). -/
def execReadResponseTimeout (i : ReadIndex) (s : State) : Step :=
  stationEvent (responseDue i) (readTimedOut i) s

/-- The discard timer of an entry expires (R58). -/
def discardRead (i : ReadIndex) (s : State) : State :=
  if (readAt i s).delivered then freeRead i s else raise .discard (count .discards 1 (freeRead i s))

def discardDue (i : ReadIndex) (s : State) : Bool := (readAt i s).state == .complete && expired (readAt i s).discardTimer

/-- DISCARD_EXPIRY (R58). -/
def execDiscardExpiry (i : ReadIndex) (s : State) : Step :=
  stationEvent (discardDue i) (discardRead i) s

/-! ## The write head's timer (R76, R79) -/

/-- The head satisfies `p` and its timer has counted its ticks. -/
def headExpired (p : PostedWrite → Bool) (s : State) : Bool := s.writes.queue.head?.any (fun w => p w && expired w.timer)

/-- The response timer of an IN_FLIGHT head expires: retransmission or exhaustion. On exhaustion the destination is marked
before the new head is judged. -/
def headTimedOut (w : PostedWrite) (s : State) : State :=
  if retriesLeft w.attempts s then readyHead w s
  else headGone (markSilent w.dest (dropHead w .noAnswer s))

def onHead (f : PostedWrite → State → State) (s : State) : State :=
  match s.writes.queue with
  | [] => s
  | w :: _ => f w s

/-- WRITE_RESPONSE_TIMEOUT (R76). -/
def execWriteResponseTimeout (s : State) : Step := stationEvent (headExpired (·.inFlight)) (onHead headTimedOut) s

/-- HOLD_EXPIRY (R79). -/
def execHoldExpiry (s : State) : Step := stationEvent (headExpired (·.held)) (onHead readyHead) s

/-! ## The selector's timer (R113) -/

def heartbeatDue (s : State) : State := startHeartbeat (s.setSel { s.sel with heartbeatMark := true })

def heartbeatEnded (s : State) : Bool := expired s.sel.heartbeatTimer

/-- HEARTBEAT_TIMER_EXPIRY. -/
def execHeartbeatTimerExpiry (s : State) : Step := stationEvent heartbeatEnded heartbeatDue s

/-! ## Station control's timers (R138, R144) -/

/-- The listen period ends. -/
def listenEnds (s : State) : State :=
  let t := placeOwnRegions (setSpan .announcing (s.setCtl { s.ctl with listenTimer := none }))
  t.setSel { t.sel with announceMark := .pendingFresh }

def listenDue (s : State) : Bool := s.ctl.span == .listening && expired s.ctl.listenTimer

/-- LISTEN_TIMER_EXPIRY (R138). -/
def execListenTimerExpiry (s : State) : Step :=
  stationEvent listenDue listenEnds s

/-- The two agents' parts, in an order that the spec leaves open (R82, R144, log entry 1). -/
def drainAgents (s : State) : State :=
  let t := s.setChoice (s.choice + 1)
  let write := purgeWrites (fun _ => true) .leaving
  if Config.readPartFirst s.choice then write (drainReads t) else drainReads (write t)

def drainDue (s : State) : Bool := s.ctl.span == .leaving && expired s.ctl.drainTimer

/-- DRAIN_TIMER_EXPIRY (R144): the drain condition then holds, and sets the LEAVE mark at the event's end (R143). -/
def execDrainTimerExpiry (s : State) : Step :=
  stationEvent drainDue drainAgents s

/-! ## The limits of a peer record (R123) -/

/-- The record's time since last heard has reached the silence limit while it is PRESENT. -/
def silenceReached (n : Station) (s : State) : Bool :=
  (peerOf n s).presence == .present && decide (silenceTicks s.ctl.config (peerOf n s) ≤ (peerOf n s).heardAgo)

def absenceReached (n : Station) (s : State) : Bool :=
  (peerOf n s).presence != .absent && decide (absenceTicks s.ctl.config (peerOf n s) ≤ (peerOf n s).heardAgo)

/-- SILENCE_LIMIT (R123). -/
def execSilenceLimit (n : Station) (s : State) : Step :=
  if validStation n then stationEvent (silenceReached n) (markSilent n) s else .refused .illFormed

/-- ABSENCE_LIMIT (R123, R128). -/
def execAbsenceLimit (n : Station) (s : State) : Step :=
  if validStation n then stationEvent (absenceReached n) (losePeer n) s else .refused .illFormed

/-! ## TICK (R152, R153) -/

/-- The event of a timer or of a limit is due: its tick has come, and the event has not been taken. -/
def expiryDue (s : State) : Bool :=
  allReadIndexes.any (fun i => responseDue i s || discardDue i s) || headExpired (·.inFlight) s || headExpired (·.held) s ||
    heartbeatEnded s || listenDue s || drainDue s || allStations.any (fun n => silenceReached n s || absenceReached n s)

/-- TICK (R152): none while TICK_DIV is out of range, nor while nRST is low. What expires at a tick is taken before the next one
(R153, log entry 3). -/
def execTick (s : State) : Step :=
  .next (if !s.port.resetLow && ticksRun s.ctl.config && !expiryDue s then tickAll s else s)

end Sys2Proof.Machine
end

