-- ==== Sys2Proof/Machine/Reception.lean ====
section
/-! DEFINITION. Received frames (chapter 1, section 1.6): FRAME_BROKEN, FRAME_FORMAT_ERROR, CLASH_REPORT and the eight
kinds of valid frame. -/

namespace Sys2Proof.Machine

/-- There is a frame to take: it ends now, or it has ended and has still to be taken (R4, log entry 25). -/
def takesFrame (s : State) : Bool := receivingPeer s || s.iface.untaken

/-- The same for a valid frame: a clash report is taken before the station's own start bit (R140). -/
def takesValid (f : Frame) (s : State) : Bool := takesFrame s && (s.iface.tx.isNone || f.src != ownStation s)

/-- A frame is taken with `bytes` in the receive frame buffer, of which it stores at most 42 and counts all (R4); where an
attempt has begun since the frame ended, the receiver and the buffer are the own frame's. -/
def frameTaken (bytes : List Byte) (s : State) : State :=
  if s.iface.tx.isNone then
    s.setIface
      { s.iface with
        receiver := .idle, rxBuffer := bytes.take Config.frameBufferSize, rxCount := bytes.length, untaken := false
        fromOffline := false }
  else s.setIface { s.iface with untaken := false, fromOffline := false }

/-! ## Where the content goes (R13, Table 1.5) -/

/-- An ANNOUNCE: the peer table, the directory, and the selector for a fresh one in ONLINE (R27, R114, R122, R126). -/
def takeAnnounce (f : Frame) (interval : Byte) (regions : List RegionGroup) (s : State) : State :=
  let t := takeInterval f.src interval s
  let u := takeRegions f.src regions (if f.fresh then takeFresh f.src t else t)
  if f.fresh && decide (u.ctl.span = .online) then requestAnnounce u else u

def frameContent (f : Frame) (s : State) : State :=
  match f.body with
  | .readRsp data => takeReadRsp f.src f.tag data s
  | .writeAck => takeWriteAck f.src f.tag s
  | .nack _ r => if f.notice then takeWriteNack f.src f.tag r s else takeReadNack f.src f.tag r s
  | .readReq a n => takeReadReq f.src f.tag a n.toNat s
  | .write a data => takeWrite f.src f.tag a data f.notice s
  | .heartbeat => s
  | .announce interval regions => takeAnnounce f interval regions s
  | .leave => takeLeave f.src s

/-- The frame is for this station or for all. -/
def addressed (f : Frame) (s : State) : Bool := f.dest == ownStation s || f.dest == 31

/-- A valid frame at its arrival: a clash report if its source is the own number (R12), otherwise its source is heard and
then its content taken if it is addressed here (R13). In STOPPED it is not taken for checking (R14). A clash report that met a JOIN
in OFFLINE changes nothing also where the JOIN is taken first (R148). -/
def frameArrives (bytes : List Byte) (f : Frame) (s : State) : State :=
  let t := frameTaken bytes s
  if t.ctl.span = .stopped then t
  else if f.src = ownStation t then (if s.iface.fromOffline then t else takeClash t)
  else if addressed f t then frameContent f (hear f.src t)
  else hear f.src t

/-- A frame whose content would reach past shared RAM (R84). -/
def framePastEnd (f : Frame) (s : State) : Bool :=
  f.dest == ownStation s && f.src != ownStation s && onSpan s.ctl.span && !responsesFull s &&
    match f.body with
    | .readReq a n => servedPastEnd a n.toNat s
    | .write a data => servedPastEnd a data.length s
    | _ => false

/-- The arrival of a valid frame of kind `k`. -/
def receiveKind (k : Kind) (bytes : List Byte) (s : State) : Step :=
  match checkFrameOf k bytes with
  | none => .refused .illFormed
  | some f =>
    if !s.port.resetLow && takesValid f s && framePastEnd f s then .fault .pastSharedRam
    else stationEvent (takesValid f) (frameArrives bytes f) s

/-- READ_RSP (R54). -/
def execReadRsp (bytes : List Byte) (s : State) : Step := receiveKind .readRsp bytes s

/-- NACK (R55, R78, R79). -/
def execNack (bytes : List Byte) (s : State) : Step := receiveKind .nack bytes s

/-- WRITE_ACK (R77). -/
def execWriteAck (bytes : List Byte) (s : State) : Step := receiveKind .writeAck bytes s

/-- READ_REQ (R87 to R90). -/
def execReadReq (bytes : List Byte) (s : State) : Step := receiveKind .readReq bytes s

/-- WRITE (R87 to R94). -/
def execWrite (bytes : List Byte) (s : State) : Step := receiveKind .write bytes s

/-- HEARTBEAT (R121). -/
def execHeartbeat (bytes : List Byte) (s : State) : Step := receiveKind .heartbeat bytes s

/-- ANNOUNCE (R27, R114, R122, R126). -/
def execAnnounce (bytes : List Byte) (s : State) : Step := receiveKind .announce bytes s

/-- LEAVE_FRAME (R125, R128). -/
def execLeaveFrame (bytes : List Byte) (s : State) : Step := receiveKind .leave bytes s

/-- CLASH_REPORT (R12, R140): a valid frame, of any kind, whose source is the own number. -/
def execClashReport (bytes : List Byte) (s : State) : Step :=
  match checkFrame bytes with
  | none => .refused .illFormed
  | some f => stationEvent (fun s => takesValid f s && f.src == ownStation s) (frameArrives bytes f) s

/-! ## Frames that are not valid -/

/-- The frame is discarded and counted (R11). In STOPPED it is not taken for checking, and neither discarded nor counted (R14).
DESIGN CHOICE (log entry 16): R14 does not say what the buffer then holds, and it keeps the bytes, as after a frame that would
have been valid. -/
def discardFrame (bytes : List Byte) (s : State) : State :=
  if s.ctl.span = .stopped then frameTaken bytes s else count .rxError 1 (frameTaken [] s)

/-- FRAME_FORMAT_ERROR (R11). -/
def execFrameFormatError (bytes : List Byte) (s : State) : Step :=
  match checkFrame bytes with
  | some _ => .refused .illFormed
  | none => stationEvent takesFrame (discardFrame bytes) s

/-- The buffer is discarded, the receiver enters WAIT_IDLE, and the frame is counted, but not in STOPPED (R10, R14). -/
def breakFrame (s : State) : State :=
  if s.ctl.span = .stopped then receiverLost s else count .rxBroken 1 (receiverLost s)

/-- FRAME_BROKEN (R10): not while the station sends, whose own broken frame is not counted. -/
def execFrameBroken (s : State) : Step :=
  stationEvent (fun s => s.iface.receiver == .receiving && s.iface.tx.isNone) breakFrame s

end Sys2Proof.Machine
end

