-- ==== Sys2Proof/Machine/Dispatch.lean ====
section
/-! DEFINITION. One arm per command, each a direct call of its meaning. -/

namespace Sys2Proof.Machine

def exec (i : Instr) (s : State) : Host.Outcome State Fault Refusal :=
  match i with
  | .powerOnReset => Sys2Proof.Machine.execPowerOnReset s
  | .powerOnClearEnd => Sys2Proof.Machine.execPowerOnClearEnd s
  | .pinReset => Sys2Proof.Machine.execPinReset s
  | .pinResetRelease => Sys2Proof.Machine.execPinResetRelease s
  | .attemptBegin => Sys2Proof.Machine.execAttemptBegin s
  | .attemptLost => Sys2Proof.Machine.execAttemptLost s
  | .readbackMismatch => Sys2Proof.Machine.execReadbackMismatch s
  | .breakEnd => Sys2Proof.Machine.execBreakEnd s
  | .attemptSent => Sys2Proof.Machine.execAttemptSent s
  | .frameBroken => Sys2Proof.Machine.execFrameBroken s
  | .frameFormatError bytes => Sys2Proof.Machine.execFrameFormatError bytes s
  | .clashReport bytes => Sys2Proof.Machine.execClashReport bytes s
  | .readRsp bytes => Sys2Proof.Machine.execReadRsp bytes s
  | .nack bytes => Sys2Proof.Machine.execNack bytes s
  | .writeAck bytes => Sys2Proof.Machine.execWriteAck bytes s
  | .readReq bytes => Sys2Proof.Machine.execReadReq bytes s
  | .write bytes => Sys2Proof.Machine.execWrite bytes s
  | .heartbeat bytes => Sys2Proof.Machine.execHeartbeat bytes s
  | .announce bytes => Sys2Proof.Machine.execAnnounce bytes s
  | .leaveFrame bytes => Sys2Proof.Machine.execLeaveFrame bytes s
  | .readResponseTimeout k => Sys2Proof.Machine.execReadResponseTimeout k s
  | .discardExpiry k => Sys2Proof.Machine.execDiscardExpiry k s
  | .writeResponseTimeout => Sys2Proof.Machine.execWriteResponseTimeout s
  | .holdExpiry => Sys2Proof.Machine.execHoldExpiry s
  | .heartbeatTimerExpiry => Sys2Proof.Machine.execHeartbeatTimerExpiry s
  | .listenTimerExpiry => Sys2Proof.Machine.execListenTimerExpiry s
  | .drainTimerExpiry => Sys2Proof.Machine.execDrainTimerExpiry s
  | .silenceLimit n => Sys2Proof.Machine.execSilenceLimit n s
  | .absenceLimit n => Sys2Proof.Machine.execAbsenceLimit n s
  | .hostRamRead w be => Sys2Proof.Machine.execHostRamRead w be s
  | .hostRamWrite w be d => Sys2Proof.Machine.execHostRamWrite w be d s
  | .apertureRead notice w be => Sys2Proof.Machine.execApertureRead notice w be s
  | .apertureWrite notice w be d => Sys2Proof.Machine.execApertureWrite notice w be d s
  | .join hi => Sys2Proof.Machine.execJoin hi s
  | .leave hi => Sys2Proof.Machine.execLeave hi s
  | .restart hi => Sys2Proof.Machine.execRestart hi s
  | .noticePop hi => Sys2Proof.Machine.execNoticePop hi s
  | .clearFault hi => Sys2Proof.Machine.execClearFault hi s
  | .clearCounters hi => Sys2Proof.Machine.execClearCounters hi s
  | .unknownCommand be d => Sys2Proof.Machine.execUnknownCommand be d s
  | .eventFlagsWrite be d => Sys2Proof.Machine.execEventFlagsWrite be d s
  | .eventEnableWrite be d => Sys2Proof.Machine.execEventEnableWrite be d s
  | .apertureBaseWrite be d => Sys2Proof.Machine.execApertureBaseWrite be d s
  | .configWrite w be d => Sys2Proof.Machine.execConfigWrite w be d s
  | .bitDivWrite be d => Sys2Proof.Machine.execBitDivWrite be d s
  | .tickDivWrite be d => Sys2Proof.Machine.execTickDivWrite be d s
  | .peerViewFirstWordRead a be => Sys2Proof.Machine.execPeerViewFirstWordRead a be s
  | .registerWriteFault a be => Sys2Proof.Machine.execRegisterWriteFault a be s
  | .unclaimedAccess dir a be => Sys2Proof.Machine.execUnclaimedAccess dir a be s
  | .bothStrobesCycle a be => Sys2Proof.Machine.execBothStrobesCycle a be s
  | .noByteEnableCycle dir a => Sys2Proof.Machine.execNoByteEnableCycle dir a s
  | .cycleDuringClear dir a be => Sys2Proof.Machine.execCycleDuringClear dir a be s
  | .hostCycleEnd => Sys2Proof.Machine.execHostCycleEnd s
  | .idleFound => Sys2Proof.Machine.execIdleFound s
  | .startBitConfirmed => Sys2Proof.Machine.execStartBitConfirmed s
  | .ownFrameEnd => Sys2Proof.Machine.execOwnFrameEnd s
  | .tick => Sys2Proof.Machine.execTick s

end Sys2Proof.Machine
end

