-- ==== Sys2Proof/WellFormed.lean ====
section
/-! DEFINITION. Which operands a row of the table admits. -/

namespace Sys2Proof

open Machine

/-- The command is one that its row stands for. Most operands are typed so that every value is; the rest are checked here:
the bytes of a frame row make a valid frame of its kind (R11), a station number names a peer record (R118), and
an address or value belongs to this row and to no other (R134, R158, R160, R163). -/
def Instr.wellFormed : Instr → Bool
  | .frameFormatError bytes => (checkFrame bytes).isNone
  | .clashReport bytes => (checkFrame bytes).isSome
  | .readRsp bytes => (checkFrameOf .readRsp bytes).isSome
  | .nack bytes => (checkFrameOf .nack bytes).isSome
  | .writeAck bytes => (checkFrameOf .writeAck bytes).isSome
  | .readReq bytes => (checkFrameOf .readReq bytes).isSome
  | .write bytes => (checkFrameOf .write bytes).isSome
  | .heartbeat bytes => (checkFrameOf .heartbeat bytes).isSome
  | .announce bytes => (checkFrameOf .announce bytes).isSome
  | .leaveFrame bytes => (checkFrameOf .leave bytes).isSome
  | .silenceLimit n => validStation n
  | .absenceLimit n => validStation n
  | .unknownCommand be d => !(be.lo && knownCode (writtenCode be d))
  | .peerViewFirstWordRead a _ => readsWord (areaOf a)
  | .registerWriteFault a _ => refusesWrites (areaOf a)
  | .unclaimedAccess dir a _ => dir != .both && areaOf a == .unclaimed
  | .noByteEnableCycle dir _ => dir != .both
  | .powerOnReset => true
  | .powerOnClearEnd => true
  | .pinReset => true
  | .pinResetRelease => true
  | .attemptBegin => true
  | .attemptLost => true
  | .readbackMismatch => true
  | .breakEnd => true
  | .attemptSent => true
  | .frameBroken => true
  | .readResponseTimeout _ => true
  | .discardExpiry _ => true
  | .writeResponseTimeout => true
  | .holdExpiry => true
  | .heartbeatTimerExpiry => true
  | .listenTimerExpiry => true
  | .drainTimerExpiry => true
  | .hostRamRead _ _ => true
  | .hostRamWrite _ _ _ => true
  | .apertureRead _ _ _ => true
  | .apertureWrite _ _ _ _ => true
  | .join _ => true
  | .leave _ => true
  | .restart _ => true
  | .noticePop _ => true
  | .clearFault _ => true
  | .clearCounters _ => true
  | .eventFlagsWrite _ _ => true
  | .eventEnableWrite _ _ => true
  | .apertureBaseWrite _ _ => true
  | .configWrite _ _ _ => true
  | .bitDivWrite _ _ => true
  | .tickDivWrite _ _ => true
  | .bothStrobesCycle _ _ => true
  | .cycleDuringClear _ _ _ => true
  | .hostCycleEnd => true
  | .idleFound => true
  | .startBitConfirmed => true
  | .ownFrameEnd => true
  | .tick => true

end Sys2Proof
end

