-- ==== Sys2Proof/Safety.lean ====
section
/-! DEFINITION. What a well-kept station looks like: the invariants that the spec states, one predicate each, in the terms
that the statements use, and the shapes of state and frame that the statements name. -/

namespace Sys2Proof.Machine

/-! ## Next states that differ from a state in what they name and in nothing else -/

/-- A cycle that begins now is taken: no strobe is held, nRST is high, the clear has ended (R155, R156, R159). -/
def portReady (s : State) : Prop := s.port.strobeHeld = false ∧ s.port.resetLow = false ∧ s.port.clearing = false

/-- A cycle is in progress. -/
def withCycle (dir : Strobe) (a : BitVec 15) (be : Enables) (r : Reply) (data : Option Word) (s : State) : State :=
  { s with
    port := { s.port with strobeHeld := true, cycle := some { addr := a, dir := dir, be := be, reply := r, data := data } } }

/-- A cycle of the COMMAND register with its low byte enabled is in progress, and the command is recorded (R134, R135). -/
def withCommand (hi : Bool) (k : HostCommand) (refusal : RefusalCode) (s : State) : State :=
  withCycle .write (regWordAddr .command) { lo := true, hi := hi } (if refusal = .none then .ok else .fault) none
    { s with ctl := { s.ctl with status := { code := commandCode k, refusal := refusal } } }

/-- A write-1-to-clear flag is set. -/
def withFlag (f : EventFlag) (s : State) : State := { s with ev := { s.ev with flags := setFlag s.ev.flags f } }

/-- A counter is increased. -/
def withCount (k : Counter) (n : Nat) (s : State) : State :=
  { s with ev := { s.ev with counters := addCounter s.ev.counters k n } }

/-- A fault has been handed on (R168). -/
def withFault (op : FaultOp) (r : FaultReason) (a : GlobalAddr) (n : Station) (s : State) : State :=
  { s with ev := { s.ev with fault := recordFault { op := op, reason := r, addr := a, station := n } s.ev.fault } }

/-- One Delayed Read Table entry is replaced. -/
def withRead (i : ReadIndex) (e : ReadEntry) (s : State) : State :=
  { s with reads := { s.reads with entries := s.reads.entries.set i.toNat e } }

/-- One Delayed Read Table entry becomes FREE, out of the ready list and of the allocation order (R39). -/
def withFree (i : ReadIndex) (s : State) : State :=
  { s with
    reads :=
      { entries := s.reads.entries.set i.toNat (ReadEntry.free (readAt i s).incarnation)
        order := s.reads.order.filter (fun j => j != i) }
    sel := { s.sel with ready := s.sel.ready.filter (fun x => !isReadItem i x) } }

/-- One Delayed Read Table entry has completed, out of the ready list and with its discard timer started (R54, R58). -/
def withComplete (i : ReadIndex) (o : ReadOutcome) (data : List Byte) (s : State) : State :=
  { s with
    reads :=
      { s.reads with
        entries := s.reads.entries.set i.toNat
          { readAt i s with
            state := .complete, outcome := some o, data := data, responseTimer := none,
            discardTimer := some (s.ctl.config.discardTime.toNat * 1000) } }
    sel := { s.sel with ready := s.sel.ready.filter (fun x => !isReadItem i x) } }

/-- The Posted Write Queue is replaced. -/
def withQueue (q : List PostedWrite) (s : State) : State := { s with writes := { s.writes with queue := q } }

/-- The ready list is replaced. -/
def withReady (l : List ReadyItem) (s : State) : State := { s with sel := { s.sel with ready := l } }

/-- An answer stands at the tail of the Response Queue, as an entry of its own (R96, log entry 26). -/
def withResponse (n : Station) (tag : Byte) (x : Answer) (s : State) : State :=
  { s with
    resp :=
      { s.resp with
        responses := s.resp.responses ++ [{ dest := n, tag := tag, answer := x, serial := s.resp.appended }]
        appended := s.resp.appended + 1 } }

/-- A change of a record's presence has set its changed mark and PEER (R120). -/
def withPresence (n : Station) (x : Presence) (s : State) : State :=
  { s with
    peers := s.peers.set (n.toNat - 1)
      { peerOf n s with presence := x, changed := (peerOf n s).changed || decide ((peerOf n s).presence ≠ x) }
    ev := { s.ev with flags := { s.ev.flags with peer := s.ev.flags.peer || decide ((peerOf n s).presence ≠ x) } } }

/-! ## The arrival of a frame -/

/-- The row of each kind of valid frame. -/
def frameCommand (k : Kind) (bytes : List Byte) : Instr :=
  match k with
  | .readRsp => .readRsp bytes
  | .writeAck => .writeAck bytes
  | .nack => .nack bytes
  | .readReq => .readReq bytes
  | .write => .write bytes
  | .heartbeat => .heartbeat bytes
  | .announce => .announce bytes
  | .leave => .leaveFrame bytes

/-- There is a frame of another station to take, with nRST high: it ends now, or it has ended and has still to be taken (R4,
log entry 25). -/
def receivingFrame (s : State) : Prop :=
  s.port.resetLow = false ∧
    (s.iface.receiver = .receiving ∧ s.iface.tx = none ∧ s.iface.rxOwn = false ∨ s.iface.untaken = true)

/-- A frame has been taken: the receiver is in IDLE with the frame's bytes, at most 42 of them; where the station's own attempt
has begun since the frame ended, the receiver and the buffer are the own frame's (R4, log entry 25). -/
def withFrame (bytes : List Byte) (s : State) : State :=
  { s with
    iface :=
      if s.iface.tx = none then
        { s.iface with
          receiver := .idle, rxBuffer := bytes.take 42, rxCount := bytes.length, untaken := false, fromOffline := false }
      else { s.iface with untaken := false, fromOffline := false } }

/-- The frame's source has been heard, where peers are heard (R121). -/
def withHeard (n : Station) (s : State) : State :=
  if hearing s.ctl.span = true then
    { withPresence n .present s with
      peers := s.peers.set (n.toNat - 1)
        { peerOf n s with
          presence := .present, heardAgo := 0,
          changed := (peerOf n s).changed || decide ((peerOf n s).presence ≠ .present) } }
  else s

/-- The state that a valid frame's content is taken in (R13). -/
def arrived (bytes : List Byte) (f : Frame) (s : State) : State := withHeard f.src (withFrame bytes s)

/-- A valid frame of kind `k` for this station, from another one, is there to take. -/
def arrivesHere (k : Kind) (bytes : List Byte) (f : Frame) (s : State) : Prop :=
  receivingFrame s ∧ checkFrameOf k bytes = some f ∧ s.ctl.span ≠ .stopped ∧ f.src ≠ ownStation s ∧
    (f.dest = ownStation s ∨ f.dest = 31)

/-- The answer is for this delayed read: the first three conditions of R54. -/
def readAnswered (n : Station) (tag : Byte) (e : ReadEntry) : Prop :=
  (e.state = .issued ∨ e.state = .ready ∧ 1 ≤ e.attempts) ∧ e.incarnation = tag.extractLsb' 0 5 ∧ e.dest = n

/-- The answer is for this head (R77, R78). -/
def headAnswered (n : Station) (tag : Byte) (w : PostedWrite) : Prop :=
  (w.inFlight = true ∨ w.held = true ∨ 1 ≤ w.attempts) ∧ w.dest = n ∧ w.sequence = tag

/-! ## The head of the Posted Write Queue has left (R72, R73) -/

/-- The destination is not PRESENT. -/
def unreachableNow (s : State) (w : PostedWrite) : Bool := decide ((peerOf w.dest s).presence ≠ .present)

/-- An entry dropped at the head: WRITE_LOSS and a fault (Table 4.4). -/
def withDrop (r : FaultReason) (s : State) (w : PostedWrite) : State :=
  withFault .write r w.addr w.dest (withCount .writeLoss 1 s)

/-- A delayed read after `n` entries have left the front of the queue: released once none is ahead of it (R51). -/
def released (n : Nat) (e : ReadEntry) : ReadEntry :=
  { e with ahead := e.ahead - n, state := if e.state = .waiting ∧ e.ahead ≤ n then .ready else e.state }

/-- The head has left a queue whose rest is `rest`: the entries to stations that are not PRESENT are dropped with UNREACHABLE
one after the other, the first entry to a PRESENT one becomes ready, and the reads with nothing left ahead of them
join the ready list after it in allocation order (R51, R72, R73, R106). -/
def afterHead (rest : List PostedWrite) (s : State) : State :=
  let gone := rest.takeWhile (unreachableNow s)
  let queue := rest.dropWhile (unreachableNow s)
  let next := queue.head?.toList.map (fun w => ReadyItem.write w.admission)
  let reads := s.reads.order.filter (fun i => decide ((readAt i s).state = .waiting ∧ (readAt i s).ahead ≤ gone.length + 1))
  let t := withQueue queue (gone.foldl (withDrop .unreachable) s)
  { withReady
      (s.sel.ready.filter (fun x => !isWriteItem x) ++ next ++ reads.map (fun i => .read i (readAt i s).incarnation)) t with
    reads := { s.reads with entries := s.reads.entries.map (released (gone.length + 1)) } }

/-! ## Allocation clears the way (R48) -/

/-- The table with every live entry whose range meets the fetch range FREE, and out of the allocation order. -/
def cleared (a n : Nat) (s : State) : State :=
  { s with
    reads :=
      { entries := allReadIndexes.map (fun i =>
          if readOverlaps a n s i = true then ReadEntry.free (readAt i s).incarnation else readAt i s)
        order := s.reads.order.filter (fun i => !readOverlaps a n s i) } }

/-! ## The purge on OFFLINE and STOPPED (R147) -/

/-- The write-1-to-clear flags as a bit vector. -/
def flagsOf (f : EventFlags) : BitVec 7 :=
  BitVec.ofBool f.peer ++ BitVec.ofBool f.directory ++ BitVec.ofBool f.conflict ++ BitVec.ofBool f.eclipse ++
    BitVec.ofBool f.span ++ BitVec.ofBool f.discard ++ BitVec.ofBool f.overrun

/-- The station after it has entered span state `x`, OFFLINE or STOPPED, from another one, row by row of R147: what the purge
empties, the flags that it sets (R20, R23, R120, R130, R133), and nothing else. -/
def afterPurge (x : SpanState) (cause : Option StopCause) (s : State) : State :=
  { s with
    iface := { s.iface with lossCount := 0, failCount := 0 }
    sel := { ready := [], leaveMark := false, announceMark := .clear, heartbeatMark := false, heartbeatTimer := none }
    dir :=
      { entries := []
        generation := if s.dir.entries = [] then s.dir.generation else s.dir.generation + 1
        statuses := [0, 1, 2, 3].map (fun n =>
          if (regionOf s.ctl.config n).enable = true then .notPublished else .disabled) }
    peers := s.peers.map (fun r =>
      { PeerRecord.reset with changed := r.changed || decide (r.presence ≠ .absent) })
    reads := { entries := s.reads.entries.map (fun e => ReadEntry.free e.incarnation), order := [] }
    writes := { s.writes with queue := [] }
    resp := { s.resp with responses := [] }
    ctl := { s.ctl with span := x, stopCause := cause, listenTimer := none, drainTimer := none }
    ev :=
      { s.ev with
        flags :=
          { s.ev.flags with
            span := true
            peer := s.ev.flags.peer || s.peers.any (fun r => decide (r.presence ≠ .absent))
            directory := s.ev.flags.directory || decide (s.dir.entries ≠ [])
            eclipse := s.ev.flags.eclipse || s.dir.statuses.contains .eclipsed } } }

/-! ## What the directory does in an event -/

/-- The event has changed the directory's content, or not: the generation and DIRECTORY (R20). -/
def withContentMarked (before : List DirEntry) (s : State) : State :=
  if s.dir.entries = before then s
  else withFlag .directory { s with dir := { s.dir with generation := s.dir.generation + 1 } }

/-- An ANNOUNCE that is not fresh has been asked for, which changes nothing while one is pending (R114). -/
def withAnnounceAsked (s : State) : State :=
  { s with sel := { s.sel with announceMark := if s.sel.announceMark = .clear then .pending else s.sel.announceMark } }

/-- The own regions that return now: the ECLIPSED ones whose range is clear, in index order, as long as there is room (R31). -/
def returning (s : State) : List RegionIndex :=
  (([0, 1, 2, 3] : List RegionIndex).filter (fun n =>
    decide (statusOf n s = .eclipsed) && s.dir.entries.all (fun e => !dirOverlaps (ownEntry n s) e))).take
    (64 - s.dir.entries.length)

/-- The region list of an ANNOUNCE: the ENTERED own regions in index order, as the configuration gives them (R17, R33). -/
def announcedRegions (s : State) : List RegionGroup :=
  (([0, 1, 2, 3] : List RegionIndex).filter (fun n => decide (statusOf n s = .entered))).map (fun n =>
    { base := (regionOf s.ctl.config n).globalBase, length := (regionOf s.ctl.config n).length
      readWrite := (regionOf s.ctl.config n).readWrite, prefetch := (regionOf s.ctl.config n).prefetch })

/-- Own region `n` is placed: ENTERED where it has come in, and otherwise ECLIPSED, with ECLIPSE set (R23, R24). -/
def withPublished (s : State) (n : RegionIndex) : State :=
  let t := place (ownEntry n s) s
  if ownEntry n s ∈ t.dir.entries then { t with dir := { t.dir with statuses := t.dir.statuses.set n.toNat .entered } }
  else withFlag .eclipse { t with dir := { t.dir with statuses := t.dir.statuses.set n.toNat .eclipsed } }

/-- The list-overlap test: the region of this entry meets one listed before it in the same ANNOUNCE (R25). -/
def meetsEarlier (listed : List DirEntry) (k : Nat) (e : DirEntry) : Bool := (listed.take k).any (dirOverlaps e)

/-- A region has been refused for conflict (R25). -/
def withConflict (s : State) : State := withFlag .conflict (withCount .refusedRegions 1 s)

/-! ## What the loss of a peer takes (R128, Table 7.3) -/

/-- The posted writes to station `n`. -/
def writesTo (n : Station) (s : State) : List PostedWrite := s.writes.queue.filter (fun w => w.dest == n)

/-- The head is to station `n`. -/
def headTo (n : Station) (s : State) : Bool := s.writes.queue.head?.any (fun w => w.dest == n)

/-- The posted writes to other stations, and how many of them go with the head: those in front whose destination is not PRESENT,
which become the head one after the other (R73, R81). -/
def writesKept (n : Station) (s : State) : List PostedWrite := s.writes.queue.filter (fun w => w.dest != n)

def droppedAfter (n : Station) (s : State) : Nat :=
  if headTo n s then ((writesKept n s).takeWhile (unreachableNow s)).length else 0

/-- How many of the first `k` posted writes still stand in the queue. -/
def stillAhead (n : Station) (s : State) (k : Nat) : Nat :=
  ((s.writes.queue.take k).filter (fun w => w.dest != n)).length - droppedAfter n s

/-- A delayed read to station `n` is still fetching (R61). -/
def readLost (n : Station) (s : State) (i : ReadIndex) : Bool := fetching (readAt i s).state && (readAt i s).dest == n

/-- A WAITING read of another station with nothing left ahead of it (R51). -/
def readFreed (n : Station) (s : State) (i : ReadIndex) : Bool :=
  (readAt i s).state == .waiting && (readAt i s).dest != n && stillAhead n s (readAt i s).ahead == 0

/-- The faults that the two agents hand on: one for each purged read that is not overtaken, one for the purged writes, one for
each write dropped behind them (R61, R73, R81). -/
def lossFaults (n : Station) (s : State) : Nat :=
  (s.reads.order.filter (fun i => readLost n s i && !(readAt i s).overtaken)).length +
    (if writesTo n s = [] then 0 else 1) + droppedAfter n s

/-! ## Sizes -/

/-- The tables have their fixed sizes (R23, R39, R118, R149). -/
def fullSized (s : State) : Prop :=
  s.peers.length = Config.peerRecords ∧ s.reads.entries.length = Config.readEntries ∧ s.dir.statuses.length = 4 ∧
    s.ctl.config.regions.length = 4

/-- No collection passes its capacity (R4, R8, R19, R66, R99). -/
def withinCapacity (s : State) : Prop :=
  s.dir.entries.length ≤ Config.directoryCapacity ∧ s.writes.queue.length ≤ Config.writeQueueCapacity ∧
    s.resp.responses.length ≤ Config.responseCapacity ∧ s.resp.notices.length ≤ Config.noticeCapacity ∧
    s.iface.rxBuffer.length ≤ Config.frameBufferSize ∧ s.iface.lossCount ≤ Config.urgentLosses ∧
    s.iface.failCount ≤ Config.stopFailures

/-- Shared RAM is in its canonical form. -/
def ramCanonical (s : State) : Prop := memWf s.ram = true

/-! ## The span state -/

/-- Outside OFFLINE the configuration is one that JOIN accepts (R137, R151). -/
def configJudged (s : State) : Prop := s.ctl.span ≠ .offline → judgeConfig s.ctl.config = .none

/-- The stop cause is present exactly in STOPPED (R133). -/
def stopCauseRight (s : State) : Prop := s.ctl.stopCause.isSome = true ↔ s.ctl.span = .stopped

/-- No request is held outside ONLINE and LEAVING (R63, R83, R104). -/
def requestsEmpty (s : State) : Prop :=
  s.writes.queue = [] ∧ s.reads.order = [] ∧ s.sel.ready = [] ∧
    ∀ e ∈ s.reads.entries, e = ReadEntry.free e.incarnation

/-- What OFFLINE and STOPPED leave empty (R34, R98, R103, R130, R147). -/
def stationEmpty (s : State) : Prop :=
  s.dir.entries = [] ∧ s.dir.statuses = restStatuses s.ctl.config ∧ s.resp.responses = [] ∧ s.sel = Selector.reset ∧
    s.ctl.listenTimer = none ∧ s.ctl.drainTimer = none ∧ ∀ r ∈ s.peers, r = lostRecord r

/-- What each span state leaves empty (R30, R87, R104, R147). -/
def emptyWhereItMust (s : State) : Prop :=
  (s.ctl.span ≠ .online → s.ctl.span ≠ .leaving → requestsEmpty s) ∧
    (hearing s.ctl.span = false → stationEmpty s) ∧
    (s.ctl.span = .listening →
      s.resp.responses = [] ∧ s.sel = Selector.reset ∧ s.dir.statuses = restStatuses s.ctl.config ∧
        ∀ e ∈ s.dir.entries, e.own = none)

/-- A frame is on the line only in ANNOUNCING, ONLINE and LEAVING (R105). -/
def silentOffSpan (s : State) : Prop := inPhase onLine s = true → onSpan s.ctl.span = true

/-- In LEAVING the LEAVE mark is set, and the drain timer stopped, once the drain condition holds (R143). -/
def drainSettled (s : State) : Prop :=
  s.ctl.span = .leaving → drained s = true → s.sel.leaveMark = true ∧ s.ctl.drainTimer = none

/-- A LEAVE, or a fresh ANNOUNCE, is what was offered. -/
def isLeave : Offered → Bool
  | .leave => true
  | _ => false

def isFreshAnnounce : Offered → Bool
  | .announce fresh _ => fresh
  | _ => false

/-- The maintenance marks and the timers of station control and the selector stand only in the span states that their rules
give them, and so do a LEAVE and a fresh ANNOUNCE on the line (R113, R114, R116, R138, R144). -/
def marksRight (s : State) : Prop :=
  (s.sel.leaveMark = true → s.ctl.span = .leaving) ∧ (s.sel.announceMark = .pendingFresh → s.ctl.span = .announcing) ∧
    (s.sel.heartbeatTimer.isSome = true ↔ s.ctl.span = .online ∨ s.ctl.span = .leaving) ∧
    (s.ctl.listenTimer.isSome = true ↔ s.ctl.span = .listening) ∧
    (s.ctl.drainTimer.isSome = true → s.ctl.span = .leaving) ∧
    ∀ t ∈ s.iface.tx, onLine t.phase = true →
      (isLeave t.item = true → s.ctl.span = .leaving) ∧ (isFreshAnnounce t.item = true → s.ctl.span = .announcing)

/-- The receiver is in IDLE only with no transmission in progress, receives while the station's own frame is on the line,
stays in WAIT_IDLE while BIT_DIV is out of range, and is in IDLE from the end of a frame until that is taken or an attempt
begins; in STOPPED no frame waits to be taken, and only one that waits can be of the time before a JOIN (R2, R4, R5, R14,
R148). -/
def receiverRight (s : State) : Prop :=
  (s.iface.receiver = .idle → s.iface.tx = none) ∧ (inPhase onLine s = true → s.iface.receiver = .receiving) ∧
    (bitsRun s.ctl.config = false → s.iface.receiver = .waitIdle) ∧
    (s.iface.untaken = true → s.iface.tx = none → s.iface.receiver = .idle) ∧
    (s.ctl.span = .stopped → s.iface.untaken = false) ∧ (s.iface.fromOffline = true → s.iface.untaken = true)

/-- While the station's own frame is on the line: the bit on the line is one of the frame's, the phase is ARBITRATING up to the
key's stop bit and SENDING from it on, and the receive frame buffer holds the bytes whose stop bits have passed (R4, R5). -/
def ownFrameRight (s : State) : Prop :=
  ∀ t ∈ s.iface.tx, onLine t.phase = true →
    s.iface.rxOwn = true ∧ t.bitsSent < 10 * t.image.length ∧ (t.phase = .arbitrating ↔ t.bitsSent < 9) ∧
      s.iface.rxCount = t.bitsSent / 10 ∧ s.iface.rxBuffer = (t.image.take (t.bitsSent / 10)).take 42

/-! ## The directory and the peer table -/

/-- An entry's fields are in their ranges (Table 2.1). -/
def entryShape (e : DirEntry) : Prop :=
  1 ≤ e.length.toNat ∧ e.length.toNat ≤ 64 ∧ dirEnd e ≤ 0x1000000 ∧ validStation e.owner = true

/-- The entries have their shape and stand in order of global base, and no two of them overlap (R19). -/
def directoryOrdered (s : State) : Prop :=
  (∀ e ∈ s.dir.entries, entryShape e) ∧ s.dir.entries.Pairwise (fun e f => dirEnd e ≤ dirStart f)

/-- The own entries are the configuration's, and the statuses agree with them (R19, R23). -/
def ownRegionsRight (s : State) : Prop :=
  (∀ e ∈ s.dir.entries, ∀ n, e.own = some n → e = ownEntry n s) ∧
    (∀ n, statusOf n s = .disabled ↔ (regionOf s.ctl.config n).enable = false) ∧
    (∀ n, statusOf n s = .entered ↔ ∃ e ∈ s.dir.entries, e.own = some n) ∧
    (∀ n, statusOf n s = .entered ∨ statusOf n s = .eclipsed → onSpan s.ctl.span = true)

/-- The record of the own number is unused (R118). -/
def ownRecordUnused (s : State) : Prop := peerOf (ownStation s) s = PeerRecord.reset

/-- Entries are held only of peers that are PRESENT or SILENT, and of the station itself only while it is on the span
(R30). -/
def ownersHeard (s : State) : Prop :=
  ∀ e ∈ s.dir.entries,
    (e.own = none → (peerOf e.owner s).presence ≠ .absent) ∧ (e.own.isSome = true → onSpan s.ctl.span = true)

/-- No fetching read and no posted write has an ABSENT destination (R129). -/
def requestsHeard (s : State) : Prop :=
  (∀ e ∈ s.reads.entries, fetching e.state = true → (peerOf e.dest s).presence ≠ .absent) ∧
    ∀ w ∈ s.writes.queue, (peerOf w.dest s).presence ≠ .absent

/-! ## The agents -/

/-- No two live reads overlap (R48). -/
def liveReadsApart (s : State) : Prop :=
  ∀ i j, i ≠ j → live (readAt i s) = true → live (readAt j s) = true →
    rangesMeet (readAt i s).addr.toNat (readAt i s).length (readAt j s).addr.toNat (readAt j s).length = false

/-- Exactly the entries that are not FREE have a rank, and each has one (R39). -/
def ranksRight (s : State) : Prop := s.reads.order.Nodup ∧ ∀ i, i ∈ s.reads.order ↔ (readAt i s).state ≠ .free

/-- Timers run exactly in ISSUED and COMPLETE (R40). -/
def timersRight (s : State) : Prop :=
  ∀ e ∈ s.reads.entries,
    (e.responseTimer.isSome = true ↔ e.state = .issued) ∧ (e.discardTimer.isSome = true ↔ e.state = .complete)

/-- A WAITING entry has queue entries ahead of it, and a READY or ISSUED one has none (R50, R51). -/
def barriersRight (s : State) : Prop :=
  ∀ e ∈ s.reads.entries,
    (e.state = .waiting → 1 ≤ e.ahead ∧ e.ahead ≤ s.writes.queue.length) ∧
      (e.state = .ready ∨ e.state = .issued → e.ahead = 0)

/-- Every entry behind the head is QUEUED, not held, unsent, with no timer; the head is in one of the conditions of Table
4.2 (R66). -/
def onlyHeadMoves (s : State) : Prop :=
  (∀ w ∈ s.writes.queue.tail, w.inFlight = false ∧ w.held = false ∧ w.attempts = 0) ∧
    ∀ w ∈ s.writes.queue,
      (w.inFlight = true → w.held = false) ∧ (w.timer.isSome = true ↔ w.inFlight = true ∨ w.held = true) ∧
        (w.inFlight = true ∨ w.held = true → 1 ≤ w.attempts)

/-- The item is ready now: a READY entry with this incarnation, or the head while it is ready. -/
def readyNow (s : State) : ReadyItem → Bool
  | .read i inc => (readAt i s).state == .ready && (readAt i s).incarnation == inc
  | .write admission => s.writes.queue.head?.any (fun w => headReady w && w.admission == admission)

/-- The ready list holds exactly the READY entries and the head while it is ready, each once (R40, R66, R106). -/
def readyListRight (s : State) : Prop :=
  s.sel.ready.Nodup ∧ (∀ x ∈ s.sel.ready, readyNow s x = true) ∧
    (∀ i, (readAt i s).state = .ready → ReadyItem.read i (readAt i s).incarnation ∈ s.sel.ready) ∧
    ∀ w ∈ s.writes.queue.head?, headReady w = true → ReadyItem.write w.admission ∈ s.sel.ready

/-- No request has been sent more than RETRY_LIMIT + 1 times, nor stands ready after so many (R56, R76). -/
def attemptsBounded (s : State) : Prop :=
  (∀ e ∈ s.reads.entries,
      e.attempts ≤ s.ctl.config.retryLimit.toNat + 1 ∧
        (e.state = .ready → e.attempts ≤ s.ctl.config.retryLimit.toNat) ∧ (e.state = .waiting → e.attempts = 0)) ∧
    ∀ w ∈ s.writes.queue,
      w.attempts ≤ s.ctl.config.retryLimit.toNat + 1 ∧
        (w.inFlight = false → w.attempts ≤ s.ctl.config.retryLimit.toNat)

/-- A running timer has at most its length to go, and a time since last heard has not passed its limit (R123, R153). -/
def timersBounded (s : State) : Prop :=
  (∀ e ∈ s.reads.entries,
      (∀ k, e.responseTimer = some k → k ≤ s.ctl.config.respTimeout.toNat * 100) ∧
        ∀ k, e.discardTimer = some k → k ≤ s.ctl.config.discardTime.toNat * 1000) ∧
    (∀ w ∈ s.writes.queue, ∀ k, w.timer = some k → k ≤ s.ctl.config.respTimeout.toNat * 100) ∧
    (∀ k, s.sel.heartbeatTimer = some k → k ≤ s.ctl.config.hbInterval.toNat * 1000) ∧
    (∀ k, s.ctl.listenTimer = some k → k ≤ 3 * s.ctl.config.hbInterval.toNat * 1000) ∧
    (∀ k, s.ctl.drainTimer = some k → k ≤ 100000) ∧
    ∀ r ∈ s.peers,
      (r.presence = .absent → r.heardAgo = 0) ∧
        (r.presence = .present → r.heardAgo ≤ 3 * (r.interval.getD s.ctl.config.hbInterval).toNat * 1000) ∧
        r.heardAgo ≤ 8 * (r.interval.getD s.ctl.config.hbInterval).toNat * 1000

/-- The response that was offered, if one was. -/
def offeredResponse : Offered → Option Response
  | .response r => some r
  | _ => none

/-- The entries of the Response Queue are told apart by their serials, which rise towards the tail; none stands before the one whose
frame is on the line, and only that one has its serial (R96, R97, log entry 26). -/
def answersApart (s : State) : Prop :=
  s.resp.responses.Pairwise (fun q r => q.serial < r.serial) ∧ (∀ q ∈ s.resp.responses, q.serial < s.resp.appended) ∧
    ∀ t ∈ s.iface.tx, ∀ r ∈ offeredResponse t.item,
      r.serial < s.resp.appended ∧ ∀ q ∈ s.resp.responses, r.serial ≤ q.serial ∧ (q.serial = r.serial → q = r)

/-- A READ_RSP carries 1 to 32 bytes (Table 5.5). -/
def answerShape : Answer → Prop
  | .readRsp data => 1 ≤ data.length ∧ data.length ≤ 32
  | .writeAck => True
  | .nack _ _ _ => True

/-- The requests, answers and notices held have their shapes (Tables 3.1, 4.1, 5.5, 5.6), and a FREE delayed read keeps only its
incarnation (R39). -/
def wellShaped (s : State) : Prop :=
  (∀ e ∈ s.reads.entries, e.state = .free → e = ReadEntry.free e.incarnation) ∧
    (∀ e ∈ s.reads.entries, e.state ≠ .free → validStation e.dest = true ∧ (e.length = 1 ∨ e.length = 2 ∨ e.length = 32)) ∧
    (∀ w ∈ s.writes.queue, validStation w.dest = true ∧ (w.data.length = 1 ∨ w.data.length = 2)) ∧
    (∀ r ∈ s.resp.responses, validStation r.dest = true ∧ answerShape r.answer) ∧
    ∀ x ∈ s.resp.notices, x.value.length = 1 ∨ x.value.length = 2

/-! ## All of it -/

/-- Every invariant above. -/
structure WellKept (s : State) : Prop where
  sized : fullSized s
  capacity : withinCapacity s
  ram : ramCanonical s
  config : configJudged s
  stopCause : stopCauseRight s
  empty : emptyWhereItMust s
  silent : silentOffSpan s
  drain : drainSettled s
  marks : marksRight s
  receiver : receiverRight s
  ownFrame : ownFrameRight s
  directory : directoryOrdered s
  ownRegions : ownRegionsRight s
  ownRecord : ownRecordUnused s
  owners : ownersHeard s
  requests : requestsHeard s
  apart : liveReadsApart s
  ranks : ranksRight s
  timers : timersRight s
  barriers : barriersRight s
  head : onlyHeadMoves s
  ready : readyListRight s
  attempts : attemptsBounded s
  bounded : timersBounded s
  answers : answersApart s
  shapes : wellShaped s

/-! ## Host cycles -/

/-- The strobes, the word address and the byte enables of the cycle that a row begins at the host port. -/
def cycleOf : Instr → Option (Strobe × BitVec 15 × Enables)
  | .hostRamRead w be => some (.read, ramWordAddr w, be)
  | .hostRamWrite w be _ => some (.write, ramWordAddr w, be)
  | .apertureRead notice w be => some (.read, apertureWordAddr notice w, be)
  | .apertureWrite notice w be _ => some (.write, apertureWordAddr notice w, be)
  | .join hi => some (.write, regWordAddr .command, { lo := true, hi := hi })
  | .leave hi => some (.write, regWordAddr .command, { lo := true, hi := hi })
  | .restart hi => some (.write, regWordAddr .command, { lo := true, hi := hi })
  | .noticePop hi => some (.write, regWordAddr .command, { lo := true, hi := hi })
  | .clearFault hi => some (.write, regWordAddr .command, { lo := true, hi := hi })
  | .clearCounters hi => some (.write, regWordAddr .command, { lo := true, hi := hi })
  | .unknownCommand be _ => some (.write, regWordAddr .command, be)
  | .eventFlagsWrite be _ => some (.write, regWordAddr .eventFlags, be)
  | .eventEnableWrite be _ => some (.write, regWordAddr .eventEnable, be)
  | .apertureBaseWrite be _ => some (.write, regWordAddr .apertureBase, be)
  | .configWrite w be _ => some (.write, regWordAddr (.config w), be)
  | .bitDivWrite be _ => some (.write, regWordAddr .bitDiv, be)
  | .tickDivWrite be _ => some (.write, regWordAddr .tickDiv, be)
  | .peerViewFirstWordRead a be => some (.read, a, be)
  | .registerWriteFault a be => some (.write, a, be)
  | .unclaimedAccess dir a be => some (dir, a, be)
  | .bothStrobesCycle a be => some (.both, a, be)
  | .noByteEnableCycle dir a => some (dir, a, { lo := false, hi := false })
  | .cycleDuringClear dir a be => some (dir, a, be)
  | _ => none

/-- The rows that begin a cycle at the host port; CYCLE_DURING_CLEAR does so only during the clear. -/
def beginsCycle (s : State) : Instr → Bool
  | .cycleDuringClear _ _ _ => s.port.clearing
  | c => (cycleOf c).isSome

/-! ## Configuration words -/

/-- Bit `k` of configuration word `w` belongs to a field (Table 9.2). -/
def fieldBit (w : ConfigWord) (k : Nat) : Bool :=
  match w with
  | .station => k < 5
  | .hbInterval => k < 8
  | .respTimeout => k < 8
  | .retryLimit => k < 3
  | .discardTime => k < 7
  | .regionCtrl _ => k < 3 || (8 ≤ k && k < 15)
  | .regionLocal _ => 8 ≤ k && k < 14
  | .regionGlobal _ => k < 16

/-! ## Frames -/

/-- The code of a frame's kind (Table 1.7). -/
def codeOf : Body → Nat
  | .readRsp _ => 1
  | .writeAck => 2
  | .nack _ _ => 3
  | .readReq _ _ => 4
  | .write _ _ => 5
  | .heartbeat => 8
  | .announce _ _ => 9
  | .leave => 10

/-- The bytes of a frame after its header and before its CRC, as numbers, each at its place (Tables 1.6, 1.8, 1.10). -/
def contentOf : Body → List Nat
  | .readRsp data => data.length :: data.map (·.toNat)
  | .writeAck => []
  | .nack a r =>
    [a.toNat / 65536, a.toNat / 256 % 256, a.toNat % 256,
      match r with
      | .notMine => 1
      | .outOfRange => 2
      | .readOnly => 3
      | .noticeFull => 4]
  | .readReq a len => [a.toNat / 65536, a.toNat / 256 % 256, a.toNat % 256, len.toNat]
  | .write a data => [a.toNat / 65536, a.toNat / 256 % 256, a.toNat % 256, data.length] ++ data.map (·.toNat)
  | .heartbeat => []
  | .announce interval regions =>
    [interval.toNat, regions.length] ++
      regions.flatMap (fun g =>
        [g.base.toNat / 256, g.base.toNat % 256, g.length.toNat, g.readWrite.toNat + 2 * g.prefetch.toNat])
  | .leave => []

/-- The CRC register after one more bit, as a number: the bit combined with the top bit, the register shifted one place up, and
combined with 1021h where that gave 1 (R18). -/
def crcAfterBit (c : Nat) (bit : Bool) : Nat :=
  if c.testBit 15 = bit then 2 * c % 65536 else (2 * c % 65536) ^^^ 0x1021

/-- The CRC of some bytes, each most significant bit first, from a register of ones (R18). -/
def crcOf (bytes : List Nat) : Nat :=
  bytes.foldl (fun c b => [7, 6, 5, 4, 3, 2, 1, 0].foldl (fun c k => crcAfterBit c (b.testBit k)) c) 0xFFFF

/-- A region group of an ANNOUNCE is in its ranges (Table 1.8). -/
def groupShape (g : RegionGroup) : Prop :=
  1 ≤ g.length.toNat ∧ g.length.toNat ≤ 64 ∧ g.base.toNat + g.length.toNat ≤ 0x10000

/-- The fields that depend on the kind are in their ranges (Tables 1.6, 1.8). -/
def bodyShape : Body → Prop
  | .readRsp data => 1 ≤ data.length ∧ data.length ≤ 32
  | .writeAck => True
  | .nack _ _ => True
  | .readReq _ len => 1 ≤ len.toNat ∧ len.toNat ≤ 32
  | .write _ data => 1 ≤ data.length ∧ data.length ≤ 32
  | .heartbeat => True
  | .announce interval regions =>
      1 ≤ interval.toNat ∧ interval.toNat ≤ 250 ∧ regions.length ≤ 4 ∧ ∀ g ∈ regions, groupShape g
  | .leave => True

/-- A frame's fields are in their ranges (Tables 1.6, 1.7). -/
def frameShape (f : Frame) : Prop :=
  validStation f.src = true ∧ f.dest ≠ 0 ∧ (f.dest = 31 ↔ kindBroadcast (bodyKind f.body) = true) ∧ bodyShape f.body

end Sys2Proof.Machine
end

