-- ==== Sys2Proof/Certificates/Slice0/Obligations.lean ====
section
/-! DEFINITION. The statements for the provers. -/

open Sys2Proof Sys2Proof.Machine

/-! ## The step and the queue of commands -/

/-- The step takes the command at the front of the queue and runs it with the queue's rest. With none waiting, one bit time of the
frame being sent passes (the model's choice, log entry 4): the next bit is on the line, the phase is SENDING from the key's stop
bit on, and the bytes whose stop bits have passed are in the receive frame buffer; nothing passes before a frame that has ended
is taken (log entry 25), nor while nRST is low. -/
def Obligations.StepRunsFrontCommand : Prop :=
  (∀ (c : Instr) (rest : List Instr) (s : State),
    step { s with pending := c :: rest } = exec c { s with pending := rest }) ∧
  ∀ s : State, s.pending = [] →
    ((s.port.resetLow = true ∨ s.iface.untaken = true ∨ s.iface.tx = none) → step s = .next s) ∧
    ∀ x, s.port.resetLow = false → s.iface.untaken = false → s.iface.tx = some x →
      step s = .next
        (if x.phase = .arbitrating ∨ x.phase = .sending then
           let n := min (x.bitsSent + 1) (10 * x.image.length - 1)
           { s with
             iface :=
               { s.iface with
                 tx := some { x with bitsSent := n, phase := if 9 ≤ n then .sending else x.phase }
                 rxBuffer := (x.image.take (n / 10)).take 42
                 rxCount := n / 10 } }
         else s)

/-- Every well-formed command answers a next state in a well-kept station, with the queue of commands as it was; every
ill-formed one is refused in any state. That a command which cannot arise answers a next state too is the model's choice (log
entry 3), and so is the refusal of ill-formed operands (log entry 6). -/
def Obligations.EveryWellFormedCommandCompletes : Prop :=
  ∀ c s,
    (WellKept s → c.wellFormed = true → ∃ t, exec c s = .next t ∧ t.pending = s.pending) ∧
    (c.wellFormed = false → exec c s = .refused .illFormed)

/-! ## Resets (R86, R155, R159) -/

/-- The values right after power-on reset, block by block: no transmission, no mark, no timer running, every queue and table empty,
and the clear of shared RAM running; shared RAM lists no byte (the model's form of the clear, log entry 9). -/
def Obligations.ResetValues : Prop :=
  let s := State.reset
  s.ctl.config.station = 0 ∧ s.ctl.config.tickDiv = 20 ∧ s.ctl.config.bitDiv = 4 ∧ s.ctl.config.hbInterval = 10 ∧
  s.ctl.config.respTimeout = 20 ∧ s.ctl.config.retryLimit = 3 ∧ s.ctl.config.discardTime = 8 ∧
  s.ctl.config.regions =
    List.replicate 4
      { enable := false, readWrite := false, prefetch := false, length := 0, localOffset := 0, globalBase := 0 } ∧
  s.ctl.span = .offline ∧ s.ctl.stopCause = none ∧ s.ctl.status = { code := 0, refusal := .none } ∧
  s.ctl.listenTimer = none ∧ s.ctl.drainTimer = none ∧ s.ctl.tickCount = 0 ∧
  s.iface.receiver = .waitIdle ∧ s.iface.rxBuffer = [] ∧ s.iface.rxCount = 0 ∧ s.iface.tx = none ∧
  s.iface.lossCount = 0 ∧ s.iface.failCount = 0 ∧
  s.sel =
    { ready := [], leaveMark := false, announceMark := .clear, heartbeatMark := false, heartbeatTimer := none } ∧
  s.dir.entries = [] ∧ s.dir.generation = 0 ∧ s.dir.statuses = List.replicate 4 .disabled ∧
  s.peers =
    List.replicate 30
      { presence := .absent, interval := none, heardAgo := 0, outbound := 0, lastApplied := none, changed := false } ∧
  s.reads.entries = List.replicate 8 (ReadEntry.free 0) ∧ s.reads.order = [] ∧ s.writes.queue = [] ∧
  s.writes.admission = 0 ∧ s.resp.responses = [] ∧ s.resp.notices = [] ∧ s.ram = [] ∧ s.port.clearing = true ∧
  s.port.apertureBase = 0 ∧ s.port.cycle = none ∧
  flagsWord s = 0 ∧ s.ev.enables = 0 ∧ s.ev.fault = none ∧ ∀ k, counterOf s.ev.counters k = 0

/-- The station right after power-on reset is well kept. -/
def Obligations.ResetIsWellKept : Prop := WellKept State.reset

/-- POWER_ON_RESET, POWER_ON_CLEAR_END, PIN_RESET, PIN_RESET_RELEASE and HOST_CYCLE_END: what each leaves. That a reset keeps the
input pins, the count of free choices and the queue of commands is the model's choice (log entry 10), as is that the shared RAM
of a power-on reset lists nothing at once (log entry 9). -/
def Obligations.ResetCommandsResult : Prop :=
  ∀ s,
    exec .powerOnReset s = .next
      { State.reset with
        port := { State.reset.port with strobeHeld := s.port.strobeHeld, resetLow := s.port.resetLow }
        choice := s.choice
        pending := s.pending } ∧
    (s.port.clearing = true →
      exec .powerOnClearEnd s = .next { s with ram := [], port := { s.port with clearing := false } }) ∧
    exec .pinReset s = .next
      { State.reset with
        ram := s.ram
        port :=
          { State.reset.port with
            strobeHeld := s.port.strobeHeld, resetLow := true, clearing := s.port.clearing }
        choice := s.choice
        pending := s.pending } ∧
    exec .pinResetRelease s = .next { s with port := { s.port with resetLow := false } } ∧
    exec .hostCycleEnd s = .next { s with port := { s.port with strobeHeld := false, cycle := none } }

/-! ## Frames on the wire (R6, R11, R15 to R18) -/

/-- A frame whose fields are in their ranges has an image that is read back as that frame, whole; and bytes that pass the format
checks are read as such a frame, whose image they are. So every valid image belongs to one frame, and every frame to one image. The
image is, byte by byte: the key (class, source, a final 1), the kind with N and F, the destination, the tag, the fields of the kind at
their places, and the CRC of all of these, high byte first. -/
def Obligations.FramesAndImagesCorrespond : Prop :=
  (∀ b f, checkFrame b = some f ↔ frameShape f ∧ encodeFrame f = b) ∧
  ∀ f, frameShape f →
    let bytes :=
      [64 * f.cls.toNat + 2 * f.src.toNat + 1, 16 * codeOf f.body + 8 * f.notice.toNat + 4 * f.fresh.toNat, f.dest.toNat,
        f.tag.toNat] ++ contentOf f.body
    (encodeFrame f).map (·.toNat) = bytes ++ [crcOf bytes / 256, crcOf bytes % 256]

/-! ## The pins (R1, R3, R7, R156, R157, R167) -/

/-- Every output pin as the state gives it: INT# low while a flag is set together with its enable; RDY, the response and D15-D0 as
the cycle in progress has them; SPTXEN asserted while a transmission is in progress; on SPTX the bit now on the line of the frame
being sent (a byte is a dominant start bit, its data bits with the most significant first, and a recessive stop bit), dominant
throughout a break, and recessive at every other time, as after both resets. -/
def Obligations.PinsShowTheState : Prop :=
  (∀ s : State,
    (intLow s = true ↔
      ∃ k, k < 9 ∧ s.ev.enables.getLsbD k = true ∧
        [!s.resp.notices.isEmpty, s.ev.fault.isSome, s.ev.flags.peer, s.ev.flags.directory, s.ev.flags.conflict,
          s.ev.flags.eclipse, s.ev.flags.span, s.ev.flags.discard, s.ev.flags.overrun][k]? = some true) ∧
    (s.port.cycle = none → rdyHigh s = false ∧ rspPins s = 0 ∧ dataPins s = none) ∧
    (∀ c, s.port.cycle = some c →
      rdyHigh s = true ∧ dataPins s = c.data ∧ (c.reply = .ok → rspPins s = 0) ∧ (c.reply = .retry → rspPins s = 1) ∧
        (c.reply = .fault → rspPins s = 2)) ∧
    (s.iface.tx = none → sptxenAsserted s = false ∧ sptxLevel s = .recessive) ∧
    ∀ x, s.iface.tx = some x →
      sptxenAsserted s = true ∧ (∀ b, x.phase = .breaking b → sptxLevel s = .dominant) ∧
      ∀ byte, x.phase = .arbitrating ∨ x.phase = .sending → x.image[x.bitsSent / 10]? = some byte →
        (x.bitsSent % 10 = 0 → sptxLevel s = .dominant) ∧
        (∀ k, k < 8 → x.bitsSent % 10 = 8 - k →
          sptxLevel s = if byte.getLsbD k = true then .recessive else .dominant) ∧
        (x.bitsSent % 10 = 9 → sptxLevel s = .recessive)) ∧
  ∀ s c, c = .powerOnReset ∨ c = .pinReset →
    ∃ t, exec c s = .next t ∧ intLow t = false ∧ rdyHigh t = false ∧ rspPins t = 0 ∧ dataPins t = none ∧
      sptxenAsserted t = false ∧ sptxLevel t = .recessive

/-! ## Attempts (R5 to R9, R104 to R116) -/

/-- ATTEMPT_BEGIN takes the first of the selector's sources that exists, only in ANNOUNCING, ONLINE and LEAVING, and copies
its frame, with its class, into the transmission in progress: of a response its own fields, with N set for the refusal of a WRITE
alone; of an ANNOUNCE the ENTERED own regions in index order, as the configuration gives them. -/
def Obligations.AttemptTakesTheFirstSource : Prop :=
  (∀ s, ownRegionsRight s → ownGroups s = announcedRegions s) ∧
  ∀ s, s.port.resetLow = false → s.iface.receiver = .idle → drainSettled s →
    let taken := fun (x : Offered) (f : Frame) =>
      exec .attemptBegin s = .next
        { s with
          iface :=
            { s.iface with
              receiver := .receiving, rxBuffer := [], rxCount := 0, rxOwn := true
              tx := some { image := encodeFrame f, item := x, phase := .arbitrating, bitsSent := 0, breakLength := 0 } } }
    let requests : BitVec 2 := if 8 ≤ s.iface.lossCount then 1 else 2
    let maintenance : BitVec 2 := if 8 ≤ s.iface.lossCount then 1 else 3
    let me := s.ctl.config.station
    if s.ctl.span = .announcing ∨ s.ctl.span = .online ∨ s.ctl.span = .leaving then
      match s.resp.responses, s.sel.leaveMark, announceDue s.sel.announceMark, s.sel.heartbeatMark, s.sel.ready with
      | r :: _, _, _, _, _ =>
        taken (.response r)
          { cls := 0, src := me, fresh := false, dest := r.dest, tag := r.tag
            notice :=
              match r.answer with
              | .nack _ _ ofWrite => ofWrite
              | .readRsp _ => false
              | .writeAck => false
            body :=
              match r.answer with
              | .readRsp data => .readRsp data
              | .writeAck => .writeAck
              | .nack a reason _ => .nack a reason }
      | [], true, _, _, _ =>
        taken .leave { cls := maintenance, src := me, notice := false, fresh := false, dest := 31, tag := 0, body := .leave }
      | [], false, some fresh, _, _ =>
        taken (.announce fresh (ownGroups s))
          { cls := maintenance, src := me, notice := false, fresh := fresh, dest := 31, tag := 0,
            body := .announce s.ctl.config.hbInterval (ownGroups s) }
      | [], false, none, true, _ =>
        taken .heartbeat
          { cls := maintenance, src := me, notice := false, fresh := false, dest := 31, tag := 0, body := .heartbeat }
      | [], false, none, false, .read i inc :: _ =>
        taken (.request (.read i inc))
          { cls := requests, src := me, notice := false, fresh := false, dest := (readAt i s).dest, tag := i ++ inc,
            body := .readReq (readAt i s).addr (BitVec.ofNat 8 (readAt i s).length) }
      | [], false, none, false, .write admission :: _ =>
        ∀ w rest, s.writes.queue = w :: rest →
          taken (.request (.write admission))
            { cls := requests, src := me, notice := w.notice, fresh := false, dest := w.dest, tag := w.sequence,
              body := .write w.addr w.data }
      | [], false, none, false, [] => exec .attemptBegin s = .next s
    else exec .attemptBegin s = .next s

/-- A well-kept station sends only frames that every receiver accepts, and as the fields it offered. -/
def Obligations.OfferedFramesPassEveryCheck : Prop :=
  ∀ s t tr, WellKept s → s.iface.tx = none → exec .attemptBegin s = .next t → t.iface.tx = some tr →
    checkFrame tr.image = some (offerFrame tr.item s)

/-- ATTEMPT_LOST and READBACK_MISMATCH: the line released with one loss counted, or a break of 12 bit times begun. Neither arises
before a frame that has ended is taken (log entry 25). -/
def Obligations.LostAndMismatchedAttempts : Prop :=
  ∀ s x, s.port.resetLow = false → s.iface.untaken = false → drainSettled s → s.iface.tx = some x →
    (x.phase = .arbitrating →
      exec .attemptLost s = .next
        (withCount .arbLost 1
          { s with iface := { s.iface with tx := none, rxOwn := false, lossCount := min (s.iface.lossCount + 1) 8 } })) ∧
    (x.phase = .arbitrating ∨ x.phase = .sending →
      exec .readbackMismatch s = .next
        { s with
          iface :=
            { s.iface with
              tx := some { x with phase := .breaking .failure, breakLength := 12 * s.ctl.config.bitDiv.toNat } } })

/-- BREAK_END (its three causes are the model's reading of R9, log entry 18): the receiver enters WAIT_IDLE; a failure counts, and
the sixteenth stops the station, with the purge of R147; a failure overtaken by OFFLINE counts in TX_FAIL alone; a cut counts in
nothing. -/
def Obligations.EndOfABreak : Prop :=
  ∀ s x, WellKept s → s.port.resetLow = false → s.iface.untaken = false → s.iface.tx = some x →
    let quiet := { s.iface with receiver := .waitIdle, idleCount := 0, rxBuffer := [], rxCount := 0, rxOwn := false, tx := none }
    (x.phase = .breaking .cut → exec .breakEnd s = .next { s with iface := quiet }) ∧
    (x.phase = .breaking .failureThenOffline →
      exec .breakEnd s = .next (withCount .txFail 1 { s with iface := quiet })) ∧
    (x.phase = .breaking .failure → s.iface.failCount < 15 →
      exec .breakEnd s = .next
        (withCount .txFail 1 { s with iface := { quiet with failCount := s.iface.failCount + 1 } })) ∧
    (x.phase = .breaking .failure → 15 ≤ s.iface.failCount → onSpan s.ctl.span = true →
      exec .breakEnd s = .next (afterPurge .stopped (some .txFailures) (withCount .txFail 1 { s with iface := quiet })))

/-- ATTEMPT_SENT with a response, a HEARTBEAT, a READ_REQ or a WRITE offered: the consecutive counts return to 0, the
HEARTBEAT mark is cleared and its timer restarted, the receiver holds the whole frame, and the item offered moves as its owner's
rule says, if its owner still holds it: of a response that very entry, and not one alike but for its serial (log entry 26). That
ATTEMPT_SENT is taken in ARBITRATING as in SENDING is the model's choice (log entry 4), and that it waits for a frame that has
ended is its reading (log entry 25). -/
def Obligations.SentResponseOrRequest : Prop :=
  ∀ s x, WellKept s → s.port.resetLow = false → s.iface.untaken = false → s.iface.tx = some x →
    (x.phase = .arbitrating ∨ x.phase = .sending) →
    let u :=
      { s with
        iface :=
          { s.iface with
            tx := none, lossCount := 0, failCount := 0, rxBuffer := x.image.take 42, rxCount := x.image.length }
        sel :=
          { s.sel with
            heartbeatMark := false
            heartbeatTimer := s.sel.heartbeatTimer.map (fun _ => s.ctl.config.hbInterval.toNat * 1000) } }
    (x.item = .heartbeat → exec .attemptSent s = .next u) ∧
    (∀ r, x.item = .response r →
      exec .attemptSent s = .next
        (if s.resp.responses.head? = some r then { u with resp := { s.resp with responses := s.resp.responses.tail } }
         else u)) ∧
    (∀ i inc, x.item = .request (.read i inc) →
      exec .attemptSent s = .next
        (let v := withReady (s.sel.ready.filter (· != .read i inc)) u
         if (readAt i s).incarnation = inc ∧ (readAt i s).state = .ready then
           withRead i
             { readAt i s with
               state := .issued, attempts := (readAt i s).attempts + 1,
               responseTimer := some (s.ctl.config.respTimeout.toNat * 100) } v
         else v)) ∧
    (∀ admission, x.item = .request (.write admission) →
      exec .attemptSent s = .next
        (let v := withReady (s.sel.ready.filter (· != .write admission)) u
         match s.writes.queue with
         | [] => v
         | w :: rest =>
           if w.admission = admission ∧ w.inFlight = false ∧ w.held = false then
             withQueue
               ({ w with
                  inFlight := true, attempts := w.attempts + 1, timer := some (s.ctl.config.respTimeout.toNat * 100) } ::
                rest) v
           else v))

/-- ATTEMPT_SENT with an ANNOUNCE or a LEAVE offered: a fresh ANNOUNCE takes the station ONLINE with its heartbeat timer
started, and the mark is set again exactly where the list sent is no longer the station's (ownGroups, which
AttemptTakesTheFirstSource gives) and it is ONLINE; a LEAVE takes it
OFFLINE, and the purge of R147 runs. That ATTEMPT_SENT is taken in ARBITRATING as in SENDING is the model's choice (log entry 4),
and that it waits for a frame that has ended is its reading (log entry 25). -/
def Obligations.SentMaintenanceFrames : Prop :=
  ∀ s x, WellKept s → s.port.resetLow = false → s.iface.untaken = false → s.iface.tx = some x →
    (x.phase = .arbitrating ∨ x.phase = .sending) →
    let sent :=
      { s.iface with
        tx := none, lossCount := 0, failCount := 0, rxBuffer := x.image.take 42, rxCount := x.image.length }
    (∀ regions, x.item = .announce true regions →
      exec .attemptSent s = .next
        (withFlag .span
          { s with
            iface := sent
            ctl := { s.ctl with span := .online }
            sel :=
              { s.sel with
                heartbeatMark := false
                heartbeatTimer := some (s.ctl.config.hbInterval.toNat * 1000)
                announceMark := if ownGroups s = regions then .clear else .pending } })) ∧
    (∀ regions, x.item = .announce false regions →
      exec .attemptSent s = .next
        { s with
          iface := sent
          sel :=
            { s.sel with
              heartbeatMark := false
              heartbeatTimer := s.sel.heartbeatTimer.map (fun _ => s.ctl.config.hbInterval.toNat * 1000)
              announceMark := if s.ctl.span = .online ∧ ownGroups s ≠ regions then .pending else .clear } }) ∧
    (x.item = .leave → exec .attemptSent s = .next (afterPurge .offline none { s with iface := sent }))

/-! ## The receiver and the tick (R4, R8, R10, R11, R152, R153) -/

/-- IDLE_FOUND, START_BIT_CONFIRMED and OWN_FRAME_END move the receiver; FRAME_BROKEN and FRAME_FORMAT_ERROR discard the buffer and
count one frame, but not in STOPPED; and nothing else changes. When each of them can arise, that FRAME_BROKEN counts also for the
rest of an own sent frame, the count of 12 and the empty buffer that they leave, and the bytes that the buffer keeps in STOPPED,
are the model's choices (log entries 15 and 16). So are the frame that has ended at IDLE_FOUND and has still to be taken, which
none has in STOPPED (R14), and that no event of the line arises before it is (log entry 25). -/
def Obligations.ReceiverMovesAndDiscards : Prop :=
  ∀ s, s.port.resetLow = false → drainSettled s →
    (s.iface.receiver = .waitIdle → s.iface.tx = none → 2 ≤ s.ctl.config.bitDiv.toNat → s.ctl.config.bitDiv.toNat ≤ 32 →
      exec .idleFound s = .next { s with iface := { s.iface with receiver := .idle, idleCount := 12 } }) ∧
    (s.iface.receiver = .receiving → s.iface.tx = none → s.iface.rxOwn = false →
      exec .idleFound s = .next
        { s with iface := { s.iface with receiver := .idle, untaken := decide (s.ctl.span ≠ .stopped) } }) ∧
    (s.iface.receiver = .idle → s.iface.untaken = false →
      exec .startBitConfirmed s = .next
        { s with iface := { s.iface with receiver := .receiving, rxBuffer := [], rxCount := 0, rxOwn := false } }) ∧
    (s.iface.receiver = .receiving → s.iface.rxOwn = true → s.iface.tx = none →
      exec .ownFrameEnd s = .next { s with iface := { s.iface with receiver := .idle, rxOwn := false } }) ∧
    (s.iface.untaken = true →
      ∀ c ∈ ([.attemptLost, .readbackMismatch, .breakEnd, .attemptSent, .startBitConfirmed] : List Instr),
        exec c s = .next s) ∧
    (s.iface.receiver = .receiving → s.iface.tx = none →
      let u :=
        { s with
          iface :=
            { s.iface with
              receiver := .waitIdle, idleCount := 0, rxBuffer := [], rxCount := 0, rxOwn := false, untaken := false
              fromOffline := false } }
      exec .frameBroken s = .next (if s.ctl.span = .stopped then u else withCount .rxBroken 1 u)) ∧
    ∀ bytes, receivingFrame s → checkFrame bytes = none →
      exec (.frameFormatError bytes) s = .next
        (if s.ctl.span = .stopped then withFrame bytes s else withCount .rxError 1 (withFrame [] s))

/-- TICK: every running timer and every running time since last heard advances by one, and nothing else changes; with
TICK_DIV out of range there is no tick. A tick at which a timer expires, or a time since last heard reaches its limit, has that
event taken before the next tick (R153): until then TICK changes nothing, which is the model's form (log entry 3). That a TICK is
the end of a whole period is the model's choice (log entry 14). -/
def Obligations.TickAdvancesEveryTimer : Prop :=
  ∀ s, s.port.resetLow = false →
    let running := 8 ≤ s.ctl.config.tickDiv.toNat ∧ s.ctl.config.tickDiv.toNat ≤ 40
    let limit := fun (k : Nat) (r : PeerRecord) => k * (r.interval.getD s.ctl.config.hbInterval).toNat * 1000
    let due :=
      (∃ i, (readAt i s).state = .issued ∧ (readAt i s).responseTimer = some 0 ∨
        (readAt i s).state = .complete ∧ (readAt i s).discardTimer = some 0) ∨
      (∃ w ∈ s.writes.queue.head?, (w.inFlight = true ∨ w.held = true) ∧ w.timer = some 0) ∨
      s.sel.heartbeatTimer = some 0 ∨ s.ctl.span = .listening ∧ s.ctl.listenTimer = some 0 ∨
      s.ctl.span = .leaving ∧ s.ctl.drainTimer = some 0 ∨
      ∃ n, validStation n = true ∧
        ((peerOf n s).presence = .present ∧ limit 3 (peerOf n s) ≤ (peerOf n s).heardAgo ∨
          (peerOf n s).presence ≠ .absent ∧ limit 8 (peerOf n s) ≤ (peerOf n s).heardAgo)
    (running → ¬due →
      exec .tick s = .next
        { s with
          reads :=
            { s.reads with
              entries := s.reads.entries.map (fun e =>
                { e with responseTimer := e.responseTimer.map (· - 1), discardTimer := e.discardTimer.map (· - 1) }) }
          writes := { s.writes with queue := s.writes.queue.map (fun w => { w with timer := w.timer.map (· - 1) }) }
          sel := { s.sel with heartbeatTimer := s.sel.heartbeatTimer.map (· - 1) }
          peers := s.peers.map (fun r => if r.presence = .absent then r else { r with heardAgo := r.heardAgo + 1 })
          ctl :=
            { s.ctl with
              listenTimer := s.ctl.listenTimer.map (· - 1), drainTimer := s.ctl.drainTimer.map (· - 1),
              tickCount := 0 } }) ∧
    (¬running → exec .tick s = .next s) ∧ (due → exec .tick s = .next s)

/-! ## Frames that arrive (R12, R13, R54, R55, R77 to R79, R87 to R94, R121 to R128, R140) -/

/-- A frame for another station, and any HEARTBEAT, makes its source heard, where peers are heard, and does nothing else. In
OFFLINE an ANNOUNCE and a LEAVE do nothing at all, and in STOPPED no frame does, whatever its kind and destination: only the
receiver moves. That the receive frame buffer keeps the bytes of a frame in STOPPED, where R14 is silent, is the model's choice (log
entry 16). -/
def Obligations.HeardAndNothingElse : Prop :=
  ∀ k bytes f s, WellKept s → receivingFrame s → checkFrameOf k bytes = some f → f.src ≠ ownStation s →
    (k = .heartbeat ∨ f.dest ≠ ownStation s ∧ f.dest ≠ 31 →
      exec (frameCommand k bytes) s = .next (arrived bytes f s)) ∧
    (s.ctl.span = .offline → k = .announce ∨ k = .leave → exec (frameCommand k bytes) s = .next (withFrame bytes s)) ∧
    (s.ctl.span = .stopped → exec (frameCommand k bytes) s = .next (withFrame bytes s))

/-- READ_RSP and NACK (N clear) for a delayed read that awaits its answer: it becomes COMPLETE with the data or the reason,
or FREE when it is overtaken; a fault is handed on for the reason. -/
def Obligations.AnswersEndTheirRead : Prop :=
  ∀ s bytes f, WellKept s →
    let i := tagIndex f.tag
    let u := arrived bytes f s
    readAnswered f.src f.tag (readAt i s) →
    (∀ data, arrivesHere .readRsp bytes f s → f.body = .readRsp data → data.length = (readAt i s).length →
      exec (.readRsp bytes) s = .next
        (drainCheck (if (readAt i s).overtaken = true then withFree i u else withComplete i .ok data u))) ∧
    (∀ a r, arrivesHere .nack bytes f s → f.notice = false → f.body = .nack a r →
      exec (.nack bytes) s = .next
        (drainCheck
          (if (readAt i s).overtaken = true then withFree i u
           else
             withFault .read (nackFault r) (readAt i s).addr (readAt i s).dest
               (withComplete i (.fault (nackFault r)) [] u))))

/-- An answer that no request awaits is counted in STALE; its source is heard, and nothing else changes. -/
def Obligations.UnawaitedAnswersAreStale : Prop :=
  ∀ s bytes f, WellKept s →
    let stale := fun (c : Instr) => exec c s = .next (withCount .stale 1 (arrived bytes f s))
    let noRead := ¬readAnswered f.src f.tag (readAt (tagIndex f.tag) s)
    let noHead := ∀ w rest, s.writes.queue = w :: rest → ¬headAnswered f.src f.tag w
    (∀ data, arrivesHere .readRsp bytes f s → f.body = .readRsp data →
      (noRead ∨ data.length ≠ (readAt (tagIndex f.tag) s).length) → stale (.readRsp bytes)) ∧
    (arrivesHere .nack bytes f s → f.notice = false → noRead → stale (.nack bytes)) ∧
    (arrivesHere .nack bytes f s → f.notice = true → noHead → stale (.nack bytes)) ∧
    (arrivesHere .writeAck bytes f s → noHead → stale (.writeAck bytes))

/-- WRITE_ACK for the head retires it, with no count and no fault of its own. NACK (N set) for the head: NOTICE_FULL within the
retry limit holds it; any other refusal drops it with WRITE_LOSS and its reason. After either departure the next head is
judged and the reads behind it released. -/
def Obligations.AnswersForTheHead : Prop :=
  ∀ s bytes f w rest, WellKept s → s.writes.queue = w :: rest → headAnswered f.src f.tag w →
    (arrivesHere .writeAck bytes f s →
      exec (.writeAck bytes) s = .next (drainCheck (afterHead rest (arrived bytes f s)))) ∧
    ∀ a r, arrivesHere .nack bytes f s → f.notice = true → f.body = .nack a r →
      exec (.nack bytes) s = .next
        (if r = .noticeFull ∧ w.attempts ≤ s.ctl.config.retryLimit.toNat then
           withReady (s.sel.ready.filter (fun x => !isWriteItem x))
             (withQueue
               ({ w with inFlight := false, held := true, timer := some (s.ctl.config.respTimeout.toNat * 100) } :: rest)
               (arrived bytes f s))
         else drainCheck (afterHead rest (withDrop (nackFault r) (arrived bytes f s) w)))

/-- The range lookup of a request, and the lookup of an address: the entry that contains the first byte decides. -/
def Obligations.LookupsFindTheEntry : Prop :=
  ∀ (s : State) (a : GlobalAddr), directoryOrdered s →
    (∀ e ∈ s.dir.entries, dirStart e ≤ a.toNat → a.toNat < dirEnd e →
      lookup a s = some e ∧
      ∀ n len, e.own = some n →
        regionCheck a len s =
          if a.toNat + len ≤ dirEnd e then
            .inRegion e.readWrite ((regionOf s.ctl.config n).localOffset.toNat * 256 + (a.toNat - dirStart e))
          else .outOfRange) ∧
    ((∀ e ∈ s.dir.entries, ¬(dirStart e ≤ a.toNat ∧ a.toNat < dirEnd e)) → lookup a s = none) ∧
    ((∀ e ∈ s.dir.entries, e.own.isSome = true → ¬(dirStart e ≤ a.toNat ∧ a.toNat < dirEnd e)) →
      ∀ len, regionCheck a len s = .notMine)

/-- READ_REQ: ignored in OFFLINE and LISTENING; dropped, and counted, with the Response Queue full; otherwise answered by a
NACK or by the bytes of shared RAM. Each answer is an entry of its own (the serial is the model's form, log entry 26). -/
def Obligations.ReadReqIsAnswered : Prop :=
  ∀ s bytes f a len, WellKept s → arrivesHere .readReq bytes f s → f.body = .readReq a len →
    let u := arrived bytes f s
    exec (.readReq bytes) s = .next
      (if s.ctl.span = .offline ∨ s.ctl.span = .listening then u
       else if s.resp.responses.length = 4 then withFlag .overrun (withCount .overrun 1 u)
       else
         match regionCheck a len.toNat s with
         | .notMine => withResponse f.src f.tag (.nack a .notMine false) u
         | .outOfRange => withResponse f.src f.tag (.nack a .outOfRange false) u
         | .inRegion _ l =>
           withResponse f.src f.tag (.readRsp ((List.range len.toNat).map (fun k => memRead s.ram (l + k)))) u)

/-- WRITE: ignored, dropped, refused, acknowledged as a duplicate, or refused for a full Notice Queue, in the order of R87 to
R93; shared RAM, the duplicate filter and the Notice Queue do not change. Each answer is an entry of its own (the serial is the
model's form, log entry 26). -/
def Obligations.WriteIsTurnedAway : Prop :=
  ∀ s bytes f a data, WellKept s → arrivesHere .write bytes f s → f.body = .write a data →
    let u := arrived bytes f s
    let answered := fun (x : Answer) => exec (.write bytes) s = .next (withResponse f.src f.tag x u)
    if s.ctl.span = .offline ∨ s.ctl.span = .listening then exec (.write bytes) s = .next u
    else if s.resp.responses.length = 4 then exec (.write bytes) s = .next (withFlag .overrun (withCount .overrun 1 u))
    else
      match regionCheck a data.length s with
      | .notMine => answered (.nack a .notMine true)
      | .outOfRange => answered (.nack a .outOfRange true)
      | .inRegion writable _ =>
        if writable = false then answered (.nack a .readOnly true)
        else if (peerOf f.src s).lastApplied = some f.tag then answered .writeAck
        else f.notice = true → s.resp.notices.length = 8 → answered (.nack a .noticeFull true)

/-- WRITE that passes R89 to R93 is applied: its bytes, its sequence, its notice and its WRITE_ACK, an entry of its own (the serial is
the model's form, log entry 26), in one event. -/
def Obligations.WriteIsApplied : Prop :=
  ∀ s bytes f a data l, WellKept s → arrivesHere .write bytes f s → f.body = .write a data → onSpan s.ctl.span = true →
    s.resp.responses.length < 4 → regionCheck a data.length s = .inRegion true l →
    (peerOf f.src s).lastApplied ≠ some f.tag → (f.notice = true → s.resp.notices.length < 8) →
    ∃ t, exec (.write bytes) s = .next t ∧
      (∀ x, memRead t.ram x = if l ≤ x ∧ x < l + data.length then data.getD (x - l) 0 else memRead s.ram x) ∧
      (let u := arrived bytes f s
       t =
         { withResponse f.src f.tag .writeAck u with
           ram := t.ram
           peers := u.peers.set (f.src.toNat - 1) { peerOf f.src u with lastApplied := some f.tag }
           resp :=
             { (withResponse f.src f.tag .writeAck u).resp with
               notices :=
                 s.resp.notices ++
                   if f.notice = true then [{ source := f.src, addr := a, value := data.take 2 }] else [] } })

/-- ANNOUNCE: the sender's entries go, its interval is taken, and a fresh one returns its last applied sequence to none; its regions
are then placed in list order, one that meets an earlier one of the list refused for conflict, the others by the placing tests
(PlacingTests); the return rule runs (ReturnRule); a fresh one asks for an ANNOUNCE in ONLINE; and the change of content is
marked. Where the regions that meet no earlier one meet no other station's entry either and find room, exactly these are entered,
and each of the others is counted in REFUSED_REGIONS, with CONFLICT. -/
def Obligations.AnnounceReplacesTheSendersRegions : Prop :=
  ∀ s bytes f interval regions, WellKept s → arrivesHere .announce bytes f s → f.body = .announce interval regions →
    hearing s.ctl.span = true →
    let u := arrived bytes f s
    let others := s.dir.entries.filter (fun e => e.owner != f.src)
    let new := regions.map (peerEntry f.src)
    let kept := (new.zipIdx.filter (fun x => !meetsEarlier new x.2 x.1)).map (·.1)
    let taken :=
      { u with
        peers := u.peers.set (f.src.toNat - 1)
          { peerOf f.src u with
            interval := some interval
            lastApplied := if f.fresh = true then none else (peerOf f.src u).lastApplied }
        dir := { s.dir with entries := others } }
    let placed :=
      new.zipIdx.foldl (fun v x => if meetsEarlier new x.2 x.1 = true then withConflict v else place x.1 v) taken
    let asked := if f.fresh = true ∧ s.ctl.span = .online then withAnnounceAsked (returnRule placed) else returnRule placed
    exec (.announce bytes) s = .next (withContentMarked s.dir.entries asked) ∧
    ((∀ e ∈ kept, ∀ g ∈ others, dirOverlaps e g = false) → others.length + kept.length ≤ 64 →
      placed.dir.entries.Perm (others ++ kept) ∧ directoryOrdered placed ∧
      placed =
        { taken with
          dir := { taken.dir with entries := placed.dir.entries }
          ev :=
            { taken.ev with
              counters := addCounter taken.ev.counters .refusedRegions (new.length - kept.length)
              flags := { taken.ev.flags with conflict := taken.ev.flags.conflict || decide (kept.length < new.length) } } })

/-- The return rule, which every ANNOUNCE taken and every removal of a peer runs (AnnounceReplacesTheSendersRegions, LossOfAPeer):
in ANNOUNCING, ONLINE and LEAVING the ECLIPSED own regions whose range is clear are entered again, in index order and as long as
there is room, with ECLIPSE set; in ONLINE an ANNOUNCE is then asked for; and nothing else changes. -/
def Obligations.ReturnRule : Prop :=
  ∀ s, fullSized s → directoryOrdered s → configJudged s → ownRegionsRight s →
    if onSpan s.ctl.span = true then
      let back := returning s
      ∃ t, returnRule s = t ∧ t.dir.entries.Perm (s.dir.entries ++ back.map (fun n => ownEntry n s)) ∧
        directoryOrdered t ∧
        (∀ n, statusOf n t = if n ∈ back then .entered else statusOf n s) ∧
        t =
          { s with
            dir := { t.dir with generation := s.dir.generation }
            ev := { s.ev with flags := { s.ev.flags with eclipse := s.ev.flags.eclipse || !back.isEmpty } }
            sel := if s.ctl.span = .online ∧ back ≠ [] then (withAnnounceAsked s).sel else s.sel }
    else returnRule s = s

/-- A candidate is placed by the first test that applies: refused where it meets an entry whose owner is not above its own (that
an EQUAL owner refuses it, which the spec says cannot arise, is the model's choice, log entry 21), entered after the eviction of
the entries it meets where every owner is above, refused for capacity, or entered. The list-overlap test comes before these, in
AnnounceReplacesTheSendersRegions. -/
def Obligations.PlacingTests : Prop :=
  ∀ (s : State) (e : DirEntry), fullSized s → directoryOrdered s → entryShape e →
    let met := s.dir.entries.filter (dirOverlaps e)
    if met = [] then
      if 64 ≤ s.dir.entries.length then place e s = withFlag .directory (withCount .refusedRegions 1 s)
      else
        ∃ t, place e s = t ∧ t.dir.entries.Perm (e :: s.dir.entries) ∧ directoryOrdered t ∧
          t = { s with dir := { s.dir with entries := t.dir.entries } }
    else if ∃ g ∈ met, g.owner.toNat ≤ e.owner.toNat then place e s = withConflict s
    else
      ∃ t, place e s = t ∧ t.dir.entries.Perm (e :: s.dir.entries.filter (fun g => !dirOverlaps e g)) ∧
        directoryOrdered t ∧
        (∀ n, ((∃ g ∈ met, g.own = some n) → statusOf n t = .eclipsed) ∧
          ((∀ g ∈ met, g.own ≠ some n) → statusOf n t = statusOf n s)) ∧
        t =
          { s with
            dir := { t.dir with generation := s.dir.generation }
            ev :=
              { s.ev with
                flags :=
                  { s.ev.flags with
                    conflict := true, eclipse := s.ev.flags.eclipse || met.any (fun g => g.own.isSome) } } }

/-- LEAVE_FRAME and ABSENCE_LIMIT: in one event the record becomes ABSENT, and everything held for that peer goes but the reads that
have completed. Its directory entries go, and the return rule runs; its answers go; its fetching reads complete with PEER_LOST, or
become FREE when overtaken; its posted writes go, counted in WRITE_LOSS, and if the head was among them the entries to stations
that are not PRESENT go with it, and the next becomes ready; the reads of other peers with nothing left ahead of them join the
ready list behind it; every other entry and item stays. The order of the two agents, and the order of the purged reads' faults,
are open (log entries 1 and 2): the fault record holds one of those that are handed on first, and its overflow mark says whether
there were more. -/
def Obligations.LossOfAPeer : Prop :=
  ∀ s n, WellKept s →
    let record :=
      { PeerRecord.reset with changed := (peerOf n s).changed || decide ((peerOf n s).presence ≠ .absent) }
    let dir := returnRule { s with dir := { s.dir with entries := s.dir.entries.filter (fun e => e.owner != n) } }
    let lost := fun (u : State) (c : Instr) =>
      ∃ v : State, exec c s = .next (drainCheck v) ∧
        v =
          { u with
            peers := s.peers.set (n.toNat - 1) record
            dir := (withContentMarked s.dir.entries dir).dir
            resp := { s.resp with responses := s.resp.responses.filter (fun r => r.dest != n) }
            writes :=
              { s.writes with
                queue :=
                  if headTo n s = true then (writesKept n s).dropWhile (unreachableNow s) else writesKept n s }
            reads := v.reads
            sel :=
              { dir.sel with
                ready :=
                  s.sel.ready.filter (fun x =>
                    match x with
                    | .read i _ => !readLost n s i
                    | .write _ => !headTo n s) ++
                  (if headTo n s = true then v.writes.queue.head?.toList.map (fun w => .write w.admission) else []) ++
                  (s.reads.order.filter (readFreed n s)).map (fun i => .read i (readAt i s).incarnation) }
            ev :=
              { s.ev with
                fault := v.ev.fault
                flags :=
                  { dir.ev.flags with
                    peer := s.ev.flags.peer || decide ((peerOf n s).presence ≠ .absent)
                    directory := s.ev.flags.directory || decide (dir.dir.entries ≠ s.dir.entries) }
                counters :=
                  addCounter s.ev.counters .writeLoss ((writesTo n s).length + droppedAfter n s) }
            choice := s.choice + 1 } ∧
        v.reads.entries.length = 8 ∧
        (∀ i,
          if readLost n s i = true then
            if (readAt i s).overtaken = true then readAt i v = ReadEntry.free (readAt i s).incarnation
            else
              readAt i v =
                { readAt i s with
                  state := .complete, outcome := some (.fault .peerLost), data := [], responseTimer := none
                  discardTimer := some (s.ctl.config.discardTime.toNat * 1000), ahead := (readAt i v).ahead }
          else if readFreed n s i = true then readAt i v = { readAt i s with state := .ready, ahead := 0 }
          else
            readAt i v = { readAt i s with ahead := (readAt i v).ahead } ∧
              ((readAt i s).state = .waiting → (readAt i v).ahead = stillAhead n s (readAt i s).ahead)) ∧
        v.reads.order = s.reads.order.filter (fun i => !(readLost n s i && (readAt i s).overtaken)) ∧
        (∀ r, s.ev.fault = some r →
          v.ev.fault = some { r with overflow := r.overflow || decide (0 < lossFaults n s) }) ∧
        (s.ev.fault = none →
          if lossFaults n s = 0 then v.ev.fault = none
          else
            ∃ r, v.ev.fault = some { report := r, overflow := decide (1 < lossFaults n s) } ∧
              ((∃ i, readLost n s i = true ∧ (readAt i s).overtaken = false ∧
                  r = { op := .read, reason := .peerLost, addr := (readAt i s).addr, station := n }) ∨
                ∃ w, (writesTo n s).head? = some w ∧
                  r = { op := .write, reason := .peerLost, addr := w.addr, station := n }))
    (∀ bytes f, arrivesHere .leave bytes f s → f.src = n → hearing s.ctl.span = true →
      lost (withFrame bytes s) (.leaveFrame bytes)) ∧
    (validStation n = true → s.port.resetLow = false → (peerOf n s).presence ≠ .absent →
      8 * ((peerOf n s).interval.getD s.ctl.config.hbInterval).toNat * 1000 ≤ (peerOf n s).heardAgo →
      lost s (.absenceLimit n))

/-- CLASH_REPORT, and the same frame as the row of its kind: a station on the span, or joining it, becomes STOPPED and is purged;
in OFFLINE and STOPPED nothing but the receiver moves. A report and a JOIN that meet in OFFLINE leave the same state in either
order, which is LISTENING; that the report is then one whose frame ended before the JOIN is the model's reading of Table 8.7 (log
entry 27). A clash report is taken before the station's own start bit (R140): none arises once an attempt has begun (log entry 25).
That the receive frame buffer keeps the bytes of a frame in STOPPED, where R14 is silent, is the model's choice (log entry 16). -/
def Obligations.ClashStopsTheStation : Prop :=
  ∀ s bytes f, WellKept s → s.port.resetLow = false → checkFrame bytes = some f → f.src = ownStation s →
    (∀ k, bodyKind f.body = k → exec (frameCommand k bytes) s = exec (.clashReport bytes) s) ∧
    (receivingFrame s → s.iface.tx = none →
      exec (.clashReport bytes) s = .next
        (if hearing s.ctl.span = true ∧ s.iface.fromOffline = false then
          afterPurge .stopped (some .clash) (withFrame bytes s)
         else withFrame bytes s)) ∧
    (s.iface.untaken = true → s.iface.tx = none → s.ctl.span = .offline → portReady s → judgeConfig s.ctl.config = .none →
      ∀ hi, ∃ joined reported,
        exec (.join hi) s = .next joined ∧ exec (.clashReport bytes) s = .next reported ∧
          exec (.clashReport bytes) joined = .next (withFrame bytes joined) ∧
          exec (.join hi) reported = .next (withFrame bytes joined) ∧ joined.ctl.span = .listening) ∧
    (s.iface.tx ≠ none → exec (.clashReport bytes) s = .next s)

/-! ## Timers that expire (R56, R58, R76, R79, R113, R123, R138, R144) -/

/-- READ_RESPONSE_TIMEOUT: READY again within the retry limit; otherwise COMPLETE with NO_ANSWER, or FREE when overtaken, and
its destination SILENT. DISCARD_EXPIRY: FREE; an entry that was never delivered is counted in DISCARDS and sets DISCARD. -/
def Obligations.ReadTimersExpire : Prop :=
  ∀ s i, WellKept s → s.port.resetLow = false →
    let e := readAt i s
    (e.state = .issued → e.responseTimer = some 0 →
      exec (.readResponseTimeout i) s = .next
        (if e.attempts ≤ s.ctl.config.retryLimit.toNat then
           withReady (s.sel.ready ++ [.read i e.incarnation]) (withRead i { e with state := .ready, responseTimer := none } s)
         else
           let u := if (peerOf e.dest s).presence = .present then withPresence e.dest .silent s else s
           drainCheck
             (if e.overtaken = true then withFree i u
              else withFault .read .noAnswer e.addr e.dest (withComplete i (.fault .noAnswer) [] u)))) ∧
    (e.state = .complete → e.discardTimer = some 0 →
      exec (.discardExpiry i) s = .next
        (if e.delivered = true then withFree i s else withFlag .discard (withCount .discards 1 (withFree i s))))

/-- WRITE_RESPONSE_TIMEOUT and HOLD_EXPIRY: the head is ready again; an exhausted one is dropped with NO_ANSWER, its destination
marked SILENT before the next head is judged. -/
def Obligations.HeadTimeouts : Prop :=
  ∀ s w rest, WellKept s → s.port.resetLow = false → s.writes.queue = w :: rest → w.timer = some 0 →
    let ready :=
      withReady (s.sel.ready ++ [.write w.admission])
        (withQueue ({ w with inFlight := false, held := false, timer := none } :: rest) s)
    (w.held = true → exec .holdExpiry s = .next ready) ∧
    (w.inFlight = true →
      exec .writeResponseTimeout s = .next
        (if w.attempts ≤ s.ctl.config.retryLimit.toNat then ready
         else
           let u := if (peerOf w.dest s).presence = .present then withPresence w.dest .silent s else s
           drainCheck (afterHead rest (withDrop .noAnswer u w))))

/-- HEARTBEAT_TIMER_EXPIRY and SILENCE_LIMIT: the mark due and the timer restarted; a PRESENT record SILENT. -/
def Obligations.HeartbeatAndSilence : Prop :=
  ∀ s, WellKept s → s.port.resetLow = false →
    (s.sel.heartbeatTimer = some 0 →
      exec .heartbeatTimerExpiry s = .next
        { s with
          sel :=
            { s.sel with heartbeatMark := true, heartbeatTimer := some (s.ctl.config.hbInterval.toNat * 1000) } }) ∧
    ∀ n, validStation n = true → (peerOf n s).presence = .present →
      3 * ((peerOf n s).interval.getD s.ctl.config.hbInterval).toNat * 1000 ≤ (peerOf n s).heardAgo →
      exec (.silenceLimit n) s = .next (withPresence n .silent s)

/-- LISTEN_TIMER_EXPIRY: ANNOUNCING with a fresh ANNOUNCE pending, and the enabled regions placed in index order by the placing tests
(PlacingTests), each ENTERED where it comes in and ECLIPSED where it is refused; then the change of content is marked. So a peer's
entry goes exactly where a region of this station evicts it, which takes an owner above this station; each eclipsed region is counted
in REFUSED_REGIONS and sets ECLIPSE; and CONFLICT is set where a region meets an entry. -/
def Obligations.ListenPeriodEnds : Prop :=
  ∀ s, WellKept s → s.port.resetLow = false → s.ctl.span = .listening → s.ctl.listenTimer = some 0 →
    let opened :=
      withFlag .span
        { s with
          ctl := { s.ctl with span := .announcing, listenTimer := none }
          sel := { s.sel with announceMark := .pendingFresh } }
    let enabled := ([0, 1, 2, 3] : List RegionIndex).filter (fun n => (regionOf s.ctl.config n).enable)
    ∃ t, exec .listenTimerExpiry s = .next t ∧
      t = withContentMarked s.dir.entries (enabled.foldl withPublished opened) ∧
      t.ctl = { s.ctl with span := .announcing, listenTimer := none } ∧
      t.ev.flags.span = true ∧ t.sel = { s.sel with announceMark := .pendingFresh } ∧
      (∀ n, if (regionOf s.ctl.config n).enable = true then
              statusOf n t = .entered ∧ ownEntry n s ∈ t.dir.entries ∨ statusOf n t = .eclipsed ∧ t.ev.flags.eclipse = true
            else statusOf n t = .disabled) ∧
      (∀ e ∈ s.dir.entries,
        (e.owner.toNat ≤ (ownStation s).toNat ∨
          ∀ n, (regionOf s.ctl.config n).enable = true → dirOverlaps (ownEntry n s) e = false) → e ∈ t.dir.entries) ∧
      (∀ e ∈ t.dir.entries, e ∈ s.dir.entries ∨ ∃ n, e = ownEntry n s) ∧
      (∀ n, (regionOf s.ctl.config n).enable = true → s.dir.entries.length < 61 →
        (∀ e ∈ s.dir.entries, dirOverlaps (ownEntry n s) e = true → (ownStation s).toNat < e.owner.toNat) →
        statusOf n t = .entered) ∧
      t = { s with ctl := t.ctl, sel := t.sel, dir := t.dir, ev := t.ev } ∧ t.ev.fault = s.ev.fault ∧
      t.ev.enables = s.ev.enables ∧
      t.ev.counters =
        addCounter s.ev.counters .refusedRegions
          (([0, 1, 2, 3] : List RegionIndex).filter (fun n => decide (statusOf n t = .eclipsed))).length ∧
      t.ev.flags =
        { t.ev.flags with
          peer := s.ev.flags.peer, discard := s.ev.flags.discard, overrun := s.ev.flags.overrun
          conflict := s.ev.flags.conflict || enabled.any (fun n => s.dir.entries.any (dirOverlaps (ownEntry n s)))
          eclipse := s.ev.flags.eclipse || enabled.any (fun n => decide (statusOf n t = .eclipsed)) }

/-- DRAIN_TIMER_EXPIRY: every fetching read ends with LEAVING, or becomes FREE when overtaken, and every posted write is removed and
counted; the LEAVE mark is set and the ready list empty; and nothing else changes. A fault is handed on for each read that completes,
and one for the posted writes: an empty fault record takes that of the oldest such read or of the oldest write, a valid one stays, and
the overflow mark says whether there were more. Which agent's fault comes first is open (log entry 1), and the statement holds for
either order. -/
def Obligations.DrainExpiryEndsTheWork : Prop :=
  ∀ s, WellKept s → s.port.resetLow = false → s.ctl.span = .leaving → s.ctl.drainTimer = some 0 →
    let ended := s.reads.order.filter (fun i => fetching (readAt i s).state && !(readAt i s).overtaken)
    let faults := ended.length + if s.writes.queue = [] then 0 else 1
    ∃ t, exec .drainTimerExpiry s = .next t ∧ t.writes = { s.writes with queue := [] } ∧
      t.reads.entries.length = 8 ∧
      (∀ i, if fetching (readAt i s).state = true then
              if (readAt i s).overtaken = true then readAt i t = ReadEntry.free (readAt i s).incarnation
              else
                readAt i t =
                  { readAt i s with
                    state := .complete, outcome := some (.fault .leaving), data := [], responseTimer := none
                    discardTimer := some (s.ctl.config.discardTime.toNat * 1000), ahead := (readAt i t).ahead }
            else { readAt i t with ahead := (readAt i s).ahead } = readAt i s) ∧
      t.reads.order =
        s.reads.order.filter (fun i => !(fetching (readAt i s).state && (readAt i s).overtaken)) ∧
      (∀ r, s.ev.fault = some r → t.ev.fault = some { r with overflow := r.overflow || decide (0 < faults) }) ∧
      (s.ev.fault = none →
        if faults = 0 then t.ev.fault = none
        else
          ∃ r, t.ev.fault = some { report := r, overflow := decide (1 < faults) } ∧
            ((∃ i, ended.head? = some i ∧
                r = { op := .read, reason := .leaving, addr := (readAt i s).addr, station := (readAt i s).dest }) ∨
              ∃ w, s.writes.queue.head? = some w ∧
                r = { op := .write, reason := .leaving, addr := w.addr, station := w.dest })) ∧
      t =
        { s with
          reads := t.reads
          writes := t.writes
          sel := { s.sel with ready := [], leaveMark := true }
          ctl := { s.ctl with drainTimer := none }
          ev :=
            { s.ev with
              fault := t.ev.fault, counters := addCounter s.ev.counters .writeLoss s.writes.queue.length }
          choice := s.choice + 1 }

/-! ## Host cycles (R41 to R50, R68 to R71, R85, R131, R150 to R163) -/

/-- HOST_RAM_READ and HOST_RAM_WRITE: the enabled bytes of the word, each on its lane, and no other byte written. -/
def Obligations.DirectCyclesOfSharedRam : Prop :=
  ∀ s w be, portReady s → someByte be = true → ramCanonical s →
    exec (.hostRamRead w be) s = .next
      (withCycle .read (ramWordAddr w) be .ok
        (some
          ((if be.hi then memRead s.ram (2 * w.toNat + 1) else 0) ++ (if be.lo then memRead s.ram (2 * w.toNat) else 0)))
        s) ∧
    ∀ d, ∃ m, memWf m = true ∧
      (∀ x, memRead m x =
        if be.lo = true ∧ x = 2 * w.toNat then d.extractLsb' 0 8
        else if be.hi = true ∧ x = 2 * w.toNat + 1 then d.extractLsb' 8 8
        else memRead s.ram x) ∧
      exec (.hostRamWrite w be d) s = .next (withCycle .write (ramWordAddr w) be .ok none { s with ram := m })

/-- The global address of an aperture access, through either alias. APERTURE_READ that an entry matches: RETRY while it is fetching; otherwise its outcome, and the entry becomes FREE, but for
a prefetch with its data, which restarts its discard timer. -/
def Obligations.MatchedReadDelivers : Prop :=
  ∀ s notice w be i, WellKept s → portReady s → someByte be = true →
    let a := apertureAddr w be s
    let e := readAt i s
    a.toNat = (s.port.apertureBase.toNat * 0x2000 + 2 * w.toNat + if be.lo then 0 else 1) ∧
    (readMatches a (accessWidth be) s i = true →
    let answered := fun (r : Reply) (d : Word) (t : State) =>
      exec (.apertureRead notice w be) s = .next (withCycle .read (apertureWordAddr notice w) be r (some d) t)
    (e.state ≠ .complete → answered .retry 0 s) ∧
    (∀ r, e.state = .complete → e.outcome = some (.fault r) → answered .fault 0 (withFree i s)) ∧
    (e.state = .complete → e.outcome = some .ok →
      answered .ok (driveLanes be ((e.data.drop (a.toNat - e.addr.toNat)).take (accessWidth be)))
        (if e.prefetch = true then
           withRead i { e with delivered := true, discardTimer := some (s.ctl.config.discardTime.toNat * 1000) } s
         else withFree i s)))

/-- APERTURE_READ that no entry matches, refused or served by loopback: the reason by the span state, by the directory, by the
owner's record; or the bytes of shared RAM. -/
def Obligations.UnmatchedReadIsJudged : Prop :=
  ∀ s notice w be, WellKept s → portReady s → someByte be = true →
    let a := apertureAddr w be s
    (∀ i, readMatches a (accessWidth be) s i = false) →
    let faulted := fun (r : FaultReason) (n : Station) =>
      exec (.apertureRead notice w be) s = .next
        (withCycle .read (apertureWordAddr notice w) be .fault (some 0) (withFault .read r a n s))
    (s.ctl.span = .offline ∨ s.ctl.span = .listening ∨ s.ctl.span = .announcing → faulted .notOnline 0) ∧
    (s.ctl.span = .leaving → faulted .leaving 0) ∧ (s.ctl.span = .stopped → faulted .stopped 0) ∧
    (s.ctl.span = .online → lookup a s = none → faulted .noEntry 0) ∧
    ∀ e, s.ctl.span = .online → lookup a s = some e →
      (e.own = none → (peerOf e.owner s).presence = .silent → faulted .unreachable e.owner) ∧
      ∀ n, e.own = some n →
        exec (.apertureRead notice w be) s = .next
          (withCycle .read (apertureWordAddr notice w) be .ok
            (some (driveLanes be
              ((List.range (accessWidth be)).map (fun k =>
                memRead s.ram ((regionOf s.ctl.config n).localOffset.toNat * 256 + (a.toNat - dirStart e) + k))))) s)

/-- APERTURE_READ that reaches allocation, for the line of a prefetchable entry or else for its own bytes: blocked by an overlap
that is not spent it is counted in TABLE_FULL; with every overlap spent these become FREE, and the FREE entry with the lowest
index, or in a full table the oldest delivered prefetch, is allocated, WAITING behind the newest posted write or READY; with
neither it is counted in TABLE_FULL. -/
def Obligations.UnmatchedReadIsAllocated : Prop :=
  ∀ s notice w be g, WellKept s → portReady s → someByte be = true →
    let a := apertureAddr w be s
    (∀ i, readMatches a (accessWidth be) s i = false) → s.ctl.span = .online → lookup a s = some g → g.own = none →
    (peerOf g.owner s).presence = .present →
    let start : GlobalAddr := if g.prefetch = true then BitVec.ofNat 24 (a.toNat / 32 * 32) else a
    let len := if g.prefetch = true then 32 else accessWidth be
    let retried := fun (t : State) =>
      exec (.apertureRead notice w be) s = .next
        (withCycle .read (apertureWordAddr notice w) be .retry (some 0) t)
    ((∃ i, readOverlaps start.toNat len s i = true ∧
        ¬((readAt i s).state = .complete ∧ (readAt i s).delivered = true)) →
      retried (withCount .tableFull 1 s)) ∧
    ((∀ i, readOverlaps start.toNat len s i = true → (readAt i s).state = .complete ∧ (readAt i s).delivered = true) →
      let c := cleared start.toNat len s
      let chosen := fun (i : ReadIndex) =>
        let inc := (readAt i s).incarnation + 1
        let e : ReadEntry :=
          { ReadEntry.free inc with
            state := if s.writes.queue = [] then .ready else .waiting
            dest := g.owner, addr := start, length := len, prefetch := g.prefetch
            barrier := s.writes.queue.getLast?.map (·.admission)
            ahead := s.writes.queue.length }
        retried
          { withReady (s.sel.ready ++ if s.writes.queue = [] then [.read i inc] else []) s with
            reads := { entries := c.reads.entries.set i.toNat e, order := c.reads.order.filter (· != i) ++ [i] } }
      ((∀ i, (readAt i c).state ≠ .free ∧ reclaimable (readAt i c) = false) → retried (withCount .tableFull 1 s)) ∧
      (∀ i, (readAt i c).state = .free → (∀ j, j.toNat < i.toNat → (readAt j c).state ≠ .free) → chosen i) ∧
      ∀ i older newer, (∀ j, (readAt j c).state ≠ .free) → c.reads.order = older ++ i :: newer →
        reclaimable (readAt i c) = true → (∀ j ∈ older, reclaimable (readAt j c) = false) → chosen i)

/-- APERTURE_WRITE refused: the reason by the span state, by the directory, by the entry's access, by the owner's record, or by
a full Notice Queue; nothing is written, admitted or overtaken. -/
def Obligations.RefusedWriteChangesNothing : Prop :=
  ∀ s notice w be d, WellKept s → portReady s → someByte be = true →
    let a := apertureAddr w be s
    let answered := fun (r : Reply) (t : State) =>
      exec (.apertureWrite notice w be d) s = .next (withCycle .write (apertureWordAddr notice w) be r none t)
    let faulted := fun (r : FaultReason) (n : Station) => answered .fault (withFault .write r a n s)
    (s.ctl.span = .offline ∨ s.ctl.span = .listening ∨ s.ctl.span = .announcing → faulted .notOnline 0) ∧
    (s.ctl.span = .leaving → faulted .leaving 0) ∧ (s.ctl.span = .stopped → faulted .stopped 0) ∧
    (s.ctl.span = .online → lookup a s = none → faulted .noEntry 0) ∧
    ∀ e, s.ctl.span = .online → lookup a s = some e →
      (e.own = none → e.readWrite = false → faulted .readOnly e.owner) ∧
      (e.own = none → e.readWrite = true → (peerOf e.owner s).presence = .silent → faulted .unreachable e.owner) ∧
      (e.own = none → e.readWrite = true → (peerOf e.owner s).presence = .present → s.writes.queue.length = 16 →
        answered .retry s) ∧
      (e.own.isSome = true → e.readWrite = false → faulted .readOnly (ownStation s)) ∧
      (e.own.isSome = true → e.readWrite = true → notice = true → s.resp.notices.length = 8 →
        faulted .noticeFull (ownStation s))

/-- The delayed reads after a host write of `n` bytes at `x`: one that meets them becomes FREE, and leaves the allocation order and the
ready list, or is marked overtaken once it has been sent, in its place; the others keep every field and their order. -/
def Obligations.HostWritesOvertakeReads : Prop :=
  ∀ s x n, fullSized s →
    let sent := fun (i : ReadIndex) =>
      (readAt i s).state == .issued || (readAt i s).state == .ready && decide (1 ≤ (readAt i s).attempts)
    let freed := fun (i : ReadIndex) => readOverlaps x n s i && !sent i
    ∃ t, overtake x n s = t ∧ t.reads.entries.length = 8 ∧
      (∀ i, readAt i t =
        if readOverlaps x n s i = true then
          if sent i = true then { readAt i s with overtaken := true } else ReadEntry.free (readAt i s).incarnation
        else readAt i s) ∧
      t =
        { s with
          reads := { entries := t.reads.entries, order := s.reads.order.filter (fun i => !freed i) }
          sel :=
            { s.sel with
              ready :=
                s.sel.ready.filter (fun y =>
                  match y with
                  | .read i _ => !freed i
                  | .write _ => true) } }

/-- APERTURE_WRITE to an own region or to a PRESENT peer with room: applied to shared RAM with its notice, or admitted with the
next admission number and the peer's next write sequence; the reads it meets are overtaken (HostWritesOvertakeReads), and in an empty
queue the write then joins the ready list at its tail. -/
def Obligations.AcceptedWriteIsAppliedOrAdmitted : Prop :=
  ∀ s notice w be d e, WellKept s → portReady s → someByte be = true →
    let a := apertureAddr w be s
    let n := accessWidth be
    s.ctl.span = .online → lookup a s = some e → e.readWrite = true →
    let done := fun (u : State) =>
      exec (.apertureWrite notice w be d) s = .next
        (withCycle .write (apertureWordAddr notice w) be .ok none (overtake a.toNat n u))
    (∀ k, e.own = some k → (notice = true → s.resp.notices.length < 8) →
      let l := (regionOf s.ctl.config k).localOffset.toNat * 256 + (a.toNat - dirStart e)
      ∃ m,
        (∀ x, memRead m x = if l ≤ x ∧ x < l + n then (laneBytes be d).getD (x - l) 0 else memRead s.ram x) ∧
        done
          { s with
            ram := m
            resp :=
              { s.resp with
                notices :=
                  s.resp.notices ++
                    if notice = true then [{ source := ownStation s, addr := a, value := laneBytes be d }] else [] } }) ∧
    (e.own = none → (peerOf e.owner s).presence = .present → s.writes.queue.length < 16 →
      ∃ t, exec (.apertureWrite notice w be d) s = .next t ∧
        t.writes =
          { queue :=
              s.writes.queue ++
                [{ admission := s.writes.admission, dest := e.owner, addr := a, data := laneBytes be d, notice := notice,
                   sequence := (peerOf e.owner s).outbound, attempts := 0, inFlight := false, held := false,
                   timer := none }]
            admission := s.writes.admission + 1 } ∧
        t.peers = s.peers.set (e.owner.toNat - 1)
          { peerOf e.owner s with outbound := (peerOf e.owner s).outbound + 1 } ∧
        t.reads = (overtake a.toNat n s).reads ∧
        t.sel.ready =
          (overtake a.toNat n s).sel.ready ++ (if s.writes.queue = [] then [.write s.writes.admission] else []) ∧
        t.port = (withCycle .write (apertureWordAddr notice w) be .ok none s).port ∧
        t = { s with
              writes := t.writes, peers := t.peers, reads := t.reads, port := t.port
              sel := { s.sel with ready := t.sel.ready } })

/-- JOIN: refused outside OFFLINE, and by the first test that the configuration fails; a refusal changes nothing but
COMMAND_STATUS. Accepted, the span state becomes LISTENING with SPAN set and the listen timer at 3 heartbeat intervals; that a
frame which waits to be taken is marked as one of OFFLINE is the model's form (log entry 27). -/
def Obligations.JoinIsJudgedAndStartsListening : Prop :=
  ∀ s hi, portReady s →
    let c := s.ctl.config
    let refused := fun (r : RefusalCode) => exec (.join hi) s = .next (withCommand hi .join r s)
    let stationUnset := c.station = 0 ∨ 30 < c.station.toNat
    let timingRange :=
      c.tickDiv.toNat < 8 ∨ 40 < c.tickDiv.toNat ∨ c.bitDiv.toNat < 2 ∨ 32 < c.bitDiv.toNat ∨ c.hbInterval.toNat < 1 ∨
        250 < c.hbInterval.toNat ∨ c.respTimeout.toNat < 1 ∨ c.discardTime.toNat < 1 ∨ 64 < c.discardTime.toNat
    let regionRange :=
      ∃ n, (regionOf c n).enable = true ∧
        ((regionOf c n).length = 0 ∨ 64 < (regionOf c n).length.toNat ∨
          0x4000 < (regionOf c n).localOffset.toNat * 256 + 256 * (regionOf c n).length.toNat ∨
          0x1000000 < (regionOf c n).globalBase.toNat * 256 + 256 * (regionOf c n).length.toNat)
    let regionOverlap :=
      ∃ m n x, m ≠ n ∧ (regionOf c m).enable = true ∧ (regionOf c n).enable = true ∧
        ((regionOf c m).globalBase.toNat * 256 ≤ x ∧
          x < (regionOf c m).globalBase.toNat * 256 + 256 * (regionOf c m).length.toNat) ∧
        ((regionOf c n).globalBase.toNat * 256 ≤ x ∧
          x < (regionOf c n).globalBase.toNat * 256 + 256 * (regionOf c n).length.toNat)
    (s.ctl.span ≠ .offline → refused .wrongState) ∧
    (s.ctl.span = .offline →
      (stationUnset → refused .stationUnset) ∧
      (¬stationUnset → timingRange → refused .timingRange) ∧
      (¬stationUnset → ¬timingRange → regionRange → refused .regionRange) ∧
      (¬stationUnset → ¬timingRange → ¬regionRange → regionOverlap → refused .regionOverlap) ∧
      (¬stationUnset → ¬timingRange → ¬regionRange → ¬regionOverlap →
        exec (.join hi) s = .next
          (withCommand hi .join .none
            (withFlag .span
              { s with
                ctl := { s.ctl with span := .listening, listenTimer := some (3 * c.hbInterval.toNat * 1000) }
                iface := { s.iface with fromOffline := s.iface.untaken } }))))

/-- LEAVE and RESTART: LEAVING with the drain timer, or OFFLINE with the purge of R147 and the frame on the line cut; RESTART in
OFFLINE changes nothing but COMMAND_STATUS. That the break of a failure is kept apart from others once the span state is OFFLINE
is the model's reading of R9 (log entry 18). -/
def Obligations.LeaveAndRestart : Prop :=
  ∀ s hi, WellKept s → portReady s →
    let cut := fun (x : Transmission) =>
      if x.phase = .arbitrating ∨ x.phase = .sending then
        { x with phase := .breaking .cut, breakLength := 12 * s.ctl.config.bitDiv.toNat }
      else if x.phase = .breaking .failure then { x with phase := .breaking .failureThenOffline }
      else x
    let offline := fun (c : Instr) (k : HostCommand) =>
      exec c s = .next
        (withCommand hi k .none (afterPurge .offline none { s with iface := { s.iface with tx := s.iface.tx.map cut } }))
    (s.ctl.span = .online →
      exec (.leave hi) s = .next
        (withCommand hi .leave .none
          (drainCheck (withFlag .span { s with ctl := { s.ctl with span := .leaving, drainTimer := some 100000 } })))) ∧
    (s.ctl.span = .listening ∨ s.ctl.span = .announcing → offline (.leave hi) .leave) ∧
    (s.ctl.span = .offline ∨ s.ctl.span = .leaving ∨ s.ctl.span = .stopped →
      exec (.leave hi) s = .next (withCommand hi .leave .wrongState s)) ∧
    (s.ctl.span ≠ .offline → offline (.restart hi) .restart) ∧
    (s.ctl.span = .offline → exec (.restart hi) s = .next (withCommand hi .restart .none s))

/-- NOTICE_POP, CLEAR_FAULT, CLEAR_COUNTERS and UNKNOWN_COMMAND, in every span state. -/
def Obligations.NoticeAndClearCommands : Prop :=
  ∀ s hi, portReady s →
    (∀ x rest, s.resp.notices = x :: rest →
      exec (.noticePop hi) s = .next (withCommand hi .noticePop .none { s with resp := { s.resp with notices := rest } })) ∧
    (s.resp.notices = [] → exec (.noticePop hi) s = .next (withCommand hi .noticePop .queueEmpty s)) ∧
    exec (.clearFault hi) s = .next (withCommand hi .clearFault .none { s with ev := { s.ev with fault := none } }) ∧
    exec (.clearCounters hi) s = .next
      (withCommand hi .clearCounters .none
        { s with
          ev :=
            { s.ev with
              counters :=
                { rxError := 0, rxBroken := 0, stale := 0, overrun := 0, discards := 0, writeLoss := 0, arbLost := 0,
                  txFail := 0, tableFull := 0, refusedRegions := 0 } } }) ∧
    ∀ be d, someByte be = true → (be.lo = true → d.extractLsb' 0 8 = 0 ∨ 6 < (d.extractLsb' 0 8).toNat) →
      exec (.unknownCommand be d) s = .next
        (withCycle .write (regWordAddr .command) be .fault none
          { s with
            ctl :=
              { s.ctl with
                status := { code := if be.lo = true then d.extractLsb' 0 8 else 0, refusal := .unknownCommand } } })

/-- EVENT_FLAGS_WRITE, EVENT_ENABLE_WRITE and APERTURE_BASE_WRITE, in every span state: a flag is cleared by a 1 in an enabled
byte; an enable and a bit of the base take the written bit in an enabled byte and keep their value in a disabled one. -/
def Obligations.WritableRegistersStore : Prop :=
  ∀ s be d, portReady s → someByte be = true →
    let enabled := fun (k : Nat) => if k < 8 then be.lo else be.hi
    let one := fun (k : Nat) => enabled k && d.getLsbD k
    let stored := fun (r : Reg) (t : State) => withCycle .write (regWordAddr r) be .ok none t
    exec (.eventFlagsWrite be d) s = .next
      (stored .eventFlags
        { s with
          ev :=
            { s.ev with
              flags :=
                { peer := s.ev.flags.peer && !one 2, directory := s.ev.flags.directory && !one 3
                  conflict := s.ev.flags.conflict && !one 4, eclipse := s.ev.flags.eclipse && !one 5
                  span := s.ev.flags.span && !one 6, discard := s.ev.flags.discard && !one 7
                  overrun := s.ev.flags.overrun && !one 8 } } }) ∧
    (∃ x, exec (.eventEnableWrite be d) s = .next (stored .eventEnable { s with ev := { s.ev with enables := x } }) ∧
      ∀ k, k < 9 → x.getLsbD k = if enabled k = true then d.getLsbD k else s.ev.enables.getLsbD k) ∧
    ∃ x, exec (.apertureBaseWrite be d) s = .next (stored .apertureBase { s with port := { s.port with apertureBase := x } }) ∧
      ∀ k, k < 11 → x.getLsbD k = if enabled k = true then d.getLsbD k else s.port.apertureBase.getLsbD k

/-- CONFIG_WRITE in OFFLINE: each field bit of the word takes the written bit where its byte is enabled and keeps its value where
it is not, every other configuration word keeps its value, an enable field sets its region's status, and a stored STATION
clears the changed mark of its record. -/
def Obligations.ConfigurationWordIsStored : Prop :=
  ∀ s w be d, WellKept s → portReady s → someByte be = true → s.ctl.span = .offline →
    ∃ t, exec (.configWrite w be d) s = .next t ∧
      (∀ k, (configWord t.ctl.config w).getLsbD k =
        (fieldBit w k && if (if k < 8 then be.lo else be.hi) = true then d.getLsbD k
         else (configWord s.ctl.config w).getLsbD k)) ∧
      (∀ v, v ≠ w → configWord t.ctl.config v = configWord s.ctl.config v) ∧
      (∀ n, statusOf n t = if (regionOf t.ctl.config n).enable = true then .notPublished else .disabled) ∧
      (∀ n, peerOf n t =
        if w = .station ∧ be.lo = true ∧ n = t.ctl.config.station then { peerOf n s with changed := false }
        else peerOf n s) ∧
      t.ctl = { s.ctl with config := t.ctl.config } ∧ t.ctl.config.tickDiv = s.ctl.config.tickDiv ∧
      t.ctl.config.bitDiv = s.ctl.config.bitDiv ∧
      t = { s with
            ctl := t.ctl, peers := t.peers, dir := { s.dir with statuses := t.dir.statuses }
            port := (withCycle .write (regWordAddr (.config w)) be .ok none s).port }

/-- CONFIG_WRITE, BIT_DIV_WRITE and TICK_DIV_WRITE outside OFFLINE: FAULT, and nothing changes. BIT_DIV_WRITE and TICK_DIV_WRITE in
OFFLINE: with the low byte enabled the value is stored, and the receiver enters WAIT_IDLE or the division begins again; without
it nothing is stored. That a frame which has ended and has still to be taken is abandoned too is the model's choice (log entry 25). -/
def Obligations.DividersTakeEffectAtOnce : Prop :=
  ∀ s be d, portReady s → someByte be = true →
    (s.ctl.span ≠ .offline →
      (∀ w, exec (.configWrite w be d) s = .next (withCycle .write (regWordAddr (.config w)) be .fault none s)) ∧
      exec (.bitDivWrite be d) s = .next (withCycle .write (regWordAddr .bitDiv) be .fault none s) ∧
      exec (.tickDivWrite be d) s = .next (withCycle .write (regWordAddr .tickDiv) be .fault none s)) ∧
    (s.ctl.span = .offline →
      exec (.bitDivWrite be d) s = .next
        (withCycle .write (regWordAddr .bitDiv) be .ok none
          (if be.lo = true then
             { s with
               ctl := { s.ctl with config := { s.ctl.config with bitDiv := d.extractLsb' 0 6 } }
               iface :=
                 { s.iface with
                   receiver := .waitIdle, idleCount := 0, rxBuffer := [], rxCount := 0, rxOwn := false, untaken := false
                   fromOffline := false } }
           else s)) ∧
      exec (.tickDivWrite be d) s = .next
        (withCycle .write (regWordAddr .tickDiv) be .ok none
          (if be.lo = true then
             { s with ctl := { s.ctl with config := { s.ctl.config with tickDiv := d.extractLsb' 0 6 }, tickCount := 0 } }
           else s)))

/-- PEER_VIEW_FIRST_WORD_READ, and a read of any other register or view word (that this row carries those reads too is the model's
choice, log entry 8): the enabled bytes of the word's value, which RegisterWords and ViewWords give; the first word of a peer's
slot, read with its low byte, clears the changed mark, and nothing else changes. -/
def Obligations.ReadsOfRegistersAndViews : Prop :=
  ∀ s a be, fullSized s → portReady s → someByte be = true → readsWord (areaOf a) = true →
    let read := fun (d : Word) (t : State) =>
      exec (.peerViewFirstWordRead a be) s = .next
        (withCycle .read a be .ok
          (some ((if be.hi then d.extractLsb' 8 8 else 0) ++ (if be.lo then d.extractLsb' 0 8 else 0))) t)
    (∀ n, validStation n = true → a.toNat * 2 = 0x8100 + 8 * (n.toNat - 1) →
      read (readWord (areaOf a) s)
        (if be.lo = true then { s with peers := s.peers.set (n.toNat - 1) { peerOf n s with changed := false } } else s)) ∧
    ((∀ n, validStation n = true → a.toNat * 2 ≠ 0x8100 + 8 * (n.toNat - 1)) → read (readWord (areaOf a) s) s)

/-- The value of every register (Tables 5.7, 8.2, 8.5, 9.2, 10.6, 10.7, 11.1, 11.3, 11.5), field by field at its place, each register
at its address. -/
def Obligations.RegisterWords : Prop :=
  ∀ s, WellKept s →
    let at' := fun (x : Nat) => (readWord (areaOf (BitVec.ofNat 15 (x / 2))) s).toNat
    let reads := fun (p : ReadEntry → Bool) => (s.reads.entries.filter p).length
    at' 0x8000 =
      (match s.ctl.span with
       | .offline => 0 | .listening => 1 | .announcing => 2 | .online => 3 | .leaving => 4 | .stopped => 5) +
      16 * (match s.ctl.stopCause with | none => 0 | some .clash => 1 | some .txFailures => 2) ∧
    at' 0x8002 = 0 ∧
    at' 0x8004 =
      s.ctl.status.code.toNat +
      256 * (match s.ctl.status.refusal with
             | .none => 0 | .wrongState => 1 | .stationUnset => 2 | .timingRange => 3 | .regionRange => 4
             | .regionOverlap => 5 | .queueEmpty => 6 | .unknownCommand => 7) +
      32768 * (if s.ctl.status.refusal = .none then 0 else 1) ∧
    at' 0x8006 = s.port.apertureBase.toNat ∧
    (∀ k, (readWord (areaOf 0x4004) s).getLsbD k =
      ([!s.resp.notices.isEmpty, s.ev.fault.isSome, s.ev.flags.peer, s.ev.flags.directory, s.ev.flags.conflict,
        s.ev.flags.eclipse, s.ev.flags.span, s.ev.flags.discard, s.ev.flags.overrun].getD k false)) ∧
    at' 0x800A = s.ev.enables.toNat ∧
    (s.ev.fault = none →
      at' 0x8010 = 0 ∧ at' 0x8012 = 0 ∧ at' 0x8014 = 0 ∧ at' 0x8016 = 0 ∧ at' 0x8018 = 0 ∧ at' 0x801A = 0) ∧
    (∀ r, s.ev.fault = some r →
      at' 0x8010 = 1 + 2 * r.overflow.toNat ∧
      at' 0x8012 = (match r.report.op with | .read => 1 | .write => 2) ∧
      at' 0x8014 =
        (match r.report.reason with
         | .noEntry => 1 | .readOnly => 2 | .notMine => 3 | .outOfRange => 4 | .unreachable => 5 | .noAnswer => 6
         | .peerLost => 7 | .noticeFull => 8 | .notOnline => 9 | .leaving => 10 | .stopped => 11) ∧
      at' 0x8016 = r.report.addr.toNat / 65536 ∧ at' 0x8018 = r.report.addr.toNat % 65536 ∧
      at' 0x801A = r.report.station.toNat) ∧
    at' 0x8020 = s.resp.notices.length ∧
    (s.resp.notices = [] → at' 0x8022 = 0 ∧ at' 0x8024 = 0 ∧ at' 0x8026 = 0 ∧ at' 0x8028 = 0) ∧
    (∀ x rest, s.resp.notices = x :: rest →
      at' 0x8022 = x.source.toNat + 256 * x.value.length ∧ at' 0x8024 = x.addr.toNat / 65536 ∧
      at' 0x8026 = x.addr.toNat % 65536 ∧ at' 0x8028 = (x.value.getD 0 0).toNat + 256 * (x.value.getD 1 0).toNat) ∧
    at' 0x8030 = s.dir.entries.length ∧ at' 0x8032 = s.dir.generation.toNat ∧
    at' 0x8034 =
      s.writes.queue.length + 256 * (s.writes.queue.head?.any (fun w => w.inFlight || w.held)).toNat ∧
    at' 0x8036 =
      reads (fun e => e.state == .free) + 16 * reads (fun e => e.state == .waiting) +
      256 * reads (fun e => e.state == .ready) + 4096 * reads (fun e => e.state == .issued) ∧
    at' 0x8038 = reads (fun e => e.state == .complete) + 16 * reads (fun e => e.overtaken) ∧
    at' 0x8040 = s.ctl.config.station.toNat ∧ at' 0x8042 = s.ctl.config.tickDiv.toNat ∧
    at' 0x8044 = s.ctl.config.bitDiv.toNat ∧ at' 0x8046 = s.ctl.config.hbInterval.toNat ∧
    at' 0x8048 = s.ctl.config.respTimeout.toNat ∧ at' 0x804A = s.ctl.config.retryLimit.toNat ∧
    at' 0x804C = s.ctl.config.discardTime.toNat ∧
    (∀ n : RegionIndex,
      let r := regionOf s.ctl.config n
      at' (0x8050 + 8 * n.toNat) =
        r.enable.toNat + 2 * r.readWrite.toNat + 4 * r.prefetch.toNat + 256 * r.length.toNat ∧
      at' (0x8052 + 8 * n.toNat) = 256 * r.localOffset.toNat ∧ at' (0x8054 + 8 * n.toNat) = r.globalBase.toNat) ∧
    let c := s.ev.counters
    at' 0x8080 = c.rxError.toNat ∧ at' 0x8082 = c.rxBroken.toNat ∧ at' 0x8084 = c.stale.toNat ∧
    at' 0x8086 = c.overrun.toNat ∧ at' 0x8088 = c.discards.toNat ∧ at' 0x808A = c.writeLoss.toNat ∧
    at' 0x808C = c.arbLost.toNat ∧ at' 0x808E = c.txFail.toNat ∧ at' 0x8090 = c.tableFull.toNat ∧
    at' 0x8092 = c.refusedRegions.toNat

/-- The value of every word of the three views (Tables 2.5, 3.5, 7.4), field by field at its place: slot n − 1 of the peer table view
is station n's, slot k of the directory view the k-th entry by global base, slot i of the Delayed Read Table view entry i. -/
def Obligations.ViewWords : Prop :=
  ∀ s, WellKept s →
    let at' := fun (x : Nat) => (readWord (areaOf (BitVec.ofNat 15 (x / 2))) s).toNat
    (∀ n, validStation n = true →
      let r := peerOf n s
      let x := 0x8100 + 8 * (n.toNat - 1)
      at' x =
        (match r.presence with | .absent => 0 | .present => 1 | .silent => 2) + 4 * r.interval.isSome.toNat +
        8 * r.changed.toNat ∧
      at' (x + 2) = (r.interval.getD s.ctl.config.hbInterval).toNat + 256 * r.lastApplied.isSome.toNat ∧
      at' (x + 4) = r.heardAgo / 1000 ∧ at' (x + 6) = r.outbound.toNat + 256 * (r.lastApplied.getD 0).toNat) ∧
    (∀ k, k < 64 →
      let x := 0x8200 + 8 * k
      at' (x + 6) = s.dir.generation.toNat ∧
      (s.dir.entries.length ≤ k → at' x = 0 ∧ at' (x + 2) = 0 ∧ at' (x + 4) = 0) ∧
      ∀ e, s.dir.entries[k]? = some e →
        at' x = e.base.toNat ∧ at' (x + 2) = e.length.toNat + 256 * e.owner.toNat ∧
        at' (x + 4) =
          e.readWrite.toNat + 2 * e.prefetch.toNat + 4 * e.own.isSome.toNat + 8 * (e.own.getD 0).toNat) ∧
    ∀ i : ReadIndex,
      let e := readAt i s
      let x := 0x8400 + 16 * i.toNat
      at' x =
        (match e.state with | .free => 0 | .waiting => 1 | .ready => 2 | .issued => 3 | .complete => 4) +
        8 * e.prefetch.toNat + 16 * e.delivered.toNat + 32 * e.overtaken.toNat + 256 * e.dest.toNat ∧
      at' (x + 2) = e.addr.toNat % 65536 ∧ at' (x + 4) = e.addr.toNat / 65536 + 256 * e.length ∧
      at' (x + 6) = e.incarnation.toNat + 256 * e.attempts ∧
      at' (x + 8) =
        (match e.outcome with
         | some (.fault r) => (reasonCode r).toNat
         | _ => 0) + (if e.state = .waiting then 256 * e.ahead else 0) ∧
      at' (x + 10) = (e.barrier.getD 0).toNat ∧
      (i ∉ s.reads.order → at' (x + 12) = e.barrier.isSome.toNat) ∧
      (∀ older newer, s.reads.order = older ++ i :: newer →
        at' (x + 12) = e.barrier.isSome.toNat + 256 * older.length) ∧
      at' (x + 14) = 0

/-- REGISTER_WRITE_FAULT, UNCLAIMED_ACCESS, BOTH_STROBES_CYCLE and NO_BYTE_ENABLE_CYCLE: the response, and nothing changes but the
cycle in progress. During the power-on clear every cycle that any row begins, CYCLE_DURING_CLEAR among them, is answered RETRY with no
effect, whatever its address, direction and byte enables. That this wins over the FAULT of both strobes, which rule wins where two
others meet, and what D15-D0 carry where the spec drives nothing, are the model's choices (log entry 12). And no cycle that any row begins is taken while the host holds a strobe, when
nothing changes, or while nRST is low, when the strobe is held and nothing else changes. -/
def Obligations.CyclesThatReachNoBlock : Prop :=
  (∀ s a be,
    (portReady s → someByte be = true → refusesWrites (areaOf a) = true →
      exec (.registerWriteFault a be) s = .next (withCycle .write a be .fault none s)) ∧
    (portReady s → someByte be = true → areaOf a = .unclaimed →
      exec (.unclaimedAccess .read a be) s = .next (withCycle .read a be .fault (some 0) s) ∧
      exec (.unclaimedAccess .write a be) s = .next (withCycle .write a be .fault none s)) ∧
    (portReady s → exec (.bothStrobesCycle a be) s = .next (withCycle .both a be .fault none s)) ∧
    (portReady s →
      exec (.noByteEnableCycle .read a) s = .next (withCycle .read a { lo := false, hi := false } .ok (some 0) s) ∧
      exec (.noByteEnableCycle .write a) s = .next (withCycle .write a { lo := false, hi := false } .ok none s)) ∧
    (s.port.strobeHeld = false → s.port.resetLow = false → s.port.clearing = true →
      exec (.cycleDuringClear .read a be) s = .next (withCycle .read a be .retry (some 0) s) ∧
      exec (.cycleDuringClear .write a be) s = .next (withCycle .write a be .retry none s))) ∧
  (∀ s c dir a be, c.wellFormed = true → cycleOf c = some (dir, a, be) → s.port.strobeHeld = false →
    s.port.resetLow = false → s.port.clearing = true →
    exec c s = .next (withCycle dir a be .retry (if dir = .read then some 0 else none) s)) ∧
  ∀ s c, c.wellFormed = true → beginsCycle s c = true →
    (s.port.strobeHeld = true → exec c s = .next s) ∧
    (s.port.strobeHeld = false → s.port.resetLow = true →
      exec c s = .next { s with port := { s.port with strobeHeld := true } })

/-! ## What every step keeps -/

/-- Sizes, capacities and the canonical form of shared RAM (the form is the model's, log entry 9); no request is sent more than
RETRY_LIMIT + 1 times, no timer has more than its length to go and no time since last heard passes its limit, and what is held has
its shape. -/
def Obligations.StepKeepsSizesAndBounds : Prop :=
  ∀ s t, WellKept s → step s = .next t →
    fullSized t ∧ withinCapacity t ∧ ramCanonical t ∧ attemptsBounded t ∧ timersBounded t ∧ wellShaped t

/-- The configuration judged outside OFFLINE, the stop cause exactly in STOPPED, and what each span state leaves empty. -/
def Obligations.StepKeepsSpanStatesRight : Prop :=
  ∀ s t, WellKept s → step s = .next t → configJudged t ∧ stopCauseRight t ∧ emptyWhereItMust t

/-- No frame on the line off the span; the marks, the timers and the receiver where their rules put them, the own frame's bytes with
the receiver; the LEAVE mark set once the drain condition holds. -/
def Obligations.StepKeepsSilenceAndMarks : Prop :=
  ∀ s t, WellKept s → step s = .next t →
    silentOffSpan t ∧ marksRight t ∧ receiverRight t ∧ ownFrameRight t ∧ drainSettled t

/-- The directory in order with no overlap, and the own regions as the configuration and the statuses say; no entry, no fetching read
and no posted write of an ABSENT station; the own record unused. -/
def Obligations.StepKeepsTheDirectoryAndPeers : Prop :=
  ∀ s t, WellKept s → step s = .next t →
    directoryOrdered t ∧ ownRegionsRight t ∧ ownRecordUnused t ∧ ownersHeard t ∧ requestsHeard t

/-- The Delayed Read Table: live reads apart, ranks and timers right, barriers right. -/
def Obligations.StepKeepsTheReadTable : Prop :=
  ∀ s t, WellKept s → step s = .next t → liveReadsApart t ∧ ranksRight t ∧ timersRight t ∧ barriersRight t

/-- The Posted Write Queue, the ready list and the Response Queue: only the head moves, the list holds what is ready, once, and each
answer is an entry of its own, none before the one on the line (its serial is the model's form, log entry 26). -/
def Obligations.StepKeepsTheQueueAndReadyList : Prop :=
  ∀ s t, WellKept s → step s = .next t → onlyHeadMoves t ∧ readyListRight t ∧ answersApart t

/-! ## Rules over all commands -/

/-- Shared RAM changes only in a reset's clear, in a host write and in the event that appends a WRITE_ACK (whose serial is the model's
form, log entry 26). -/
def Obligations.WhatChangesSharedRam : Prop :=
  ∀ c s t, exec c s = .next t → t.ram ≠ s.ram →
    c = .powerOnReset ∨ c = .powerOnClearEnd ∨ (∃ w be d, c = .hostRamWrite w be d) ∨
    (∃ notice w be d, c = .apertureWrite notice w be d) ∨
    ∃ bytes f, c = .write bytes ∧ checkFrameOf .write bytes = some f ∧
      t.resp.responses = s.resp.responses ++ [{ dest := f.src, tag := f.tag, answer := .writeAck, serial := s.resp.appended }] ∧
      (peerOf f.src s).lastApplied ≠ some f.tag

/-- A valid fault record keeps its contents until CLEAR_FAULT or a reset, and a later fault sets only its overflow mark; a flag
stays set until a write of EVENT_FLAGS or a reset; no counter falls but by CLEAR_COUNTERS or a reset. -/
def Obligations.EventsAreKept : Prop :=
  ∀ c s t, exec c s = .next t → c ≠ .powerOnReset → c ≠ .pinReset →
    ((∀ hi, c ≠ .clearFault hi) → ∀ r, s.ev.fault = some r →
      t.ev.fault = some r ∨ t.ev.fault = some { r with overflow := true }) ∧
    ((∀ be d, c ≠ .eventFlagsWrite be d) → flagsOf t.ev.flags = flagsOf t.ev.flags ||| flagsOf s.ev.flags) ∧
    ((∀ hi, c ≠ .clearCounters hi) → ∀ k, (counterOf s.ev.counters k).toNat ≤ (counterOf t.ev.counters k).toNat)

/-- The span state moves only as Table 8.3 lists, with SPAN set; the configuration changes only in OFFLINE. -/
def Obligations.SpanStateMoves : Prop :=
  ∀ c s t, WellKept s → exec c s = .next t → c ≠ .powerOnReset → c ≠ .pinReset →
    (s.ctl.span ≠ .offline → t.ctl.config = s.ctl.config) ∧
    (t.ctl.span ≠ s.ctl.span →
      t.ev.flags.span = true ∧
      match s.ctl.span, t.ctl.span with
      | .offline, .listening => ∃ hi, c = .join hi
      | .listening, .announcing => c = .listenTimerExpiry
      | .announcing, .online => c = .attemptSent
      | .online, .leaving => ∃ hi, c = .leave hi
      | .leaving, .offline => c = .attemptSent ∨ ∃ hi, c = .restart hi
      | .listening, .offline => ∃ hi, c = .leave hi ∨ c = .restart hi
      | .announcing, .offline => ∃ hi, c = .leave hi ∨ c = .restart hi
      | .online, .offline => ∃ hi, c = .restart hi
      | .stopped, .offline => ∃ hi, c = .restart hi
      | .listening, .stopped => t.ctl.stopCause = some .clash
      | .announcing, .stopped => c = .breakEnd ∧ t.ctl.stopCause = some .txFailures ∨ t.ctl.stopCause = some .clash
      | .online, .stopped => c = .breakEnd ∧ t.ctl.stopCause = some .txFailures ∨ t.ctl.stopCause = some .clash
      | .leaving, .stopped => c = .breakEnd ∧ t.ctl.stopCause = some .txFailures ∨ t.ctl.stopCause = some .clash
      | _, _ => False)

/-- The generation rises by 1, with DIRECTORY set, exactly in an event that changes the directory's content; a record whose
state changes gets its changed mark, with PEER set. -/
def Obligations.ChangesAreMarked : Prop :=
  ∀ c s t, WellKept s → exec c s = .next t → c ≠ .powerOnReset → c ≠ .pinReset →
    (if t.dir.entries = s.dir.entries then t.dir.generation = s.dir.generation
     else t.dir.generation = s.dir.generation + 1 ∧ t.ev.flags.directory = true) ∧
    ∀ n, (peerOf n t).presence ≠ (peerOf n s).presence → (peerOf n t).changed = true ∧ t.ev.flags.peer = true
end

