-- ==== Sys2Proof/Laws/State.lean ====
section
/-! SUPPORT. One lemma per field per block update of State, each true by rfl, so that no proof unfolds an update; and an
update of a block that was just updated keeps the later value. -/

namespace Sys2Proof.Machine

variable (s : State)

/-! ### setIface -/

@[simp] theorem State.setIface_iface (x : SpanInterface) : (s.setIface x).iface = x := rfl
@[simp] theorem State.setIface_sel (x : SpanInterface) : (s.setIface x).sel = s.sel := rfl
@[simp] theorem State.setIface_dir (x : SpanInterface) : (s.setIface x).dir = s.dir := rfl
@[simp] theorem State.setIface_peers (x : SpanInterface) : (s.setIface x).peers = s.peers := rfl
@[simp] theorem State.setIface_reads (x : SpanInterface) : (s.setIface x).reads = s.reads := rfl
@[simp] theorem State.setIface_writes (x : SpanInterface) : (s.setIface x).writes = s.writes := rfl
@[simp] theorem State.setIface_resp (x : SpanInterface) : (s.setIface x).resp = s.resp := rfl
@[simp] theorem State.setIface_ram (x : SpanInterface) : (s.setIface x).ram = s.ram := rfl
@[simp] theorem State.setIface_ctl (x : SpanInterface) : (s.setIface x).ctl = s.ctl := rfl
@[simp] theorem State.setIface_port (x : SpanInterface) : (s.setIface x).port = s.port := rfl
@[simp] theorem State.setIface_ev (x : SpanInterface) : (s.setIface x).ev = s.ev := rfl
@[simp] theorem State.setIface_choice (x : SpanInterface) : (s.setIface x).choice = s.choice := rfl
@[simp] theorem State.setIface_pending (x : SpanInterface) : (s.setIface x).pending = s.pending := rfl
@[simp] theorem State.setIface_setIface (x y : SpanInterface) : (s.setIface x).setIface y = s.setIface y := rfl
@[simp] theorem State.setIface_self : s.setIface s.iface = s := rfl

/-! ### setSel -/

@[simp] theorem State.setSel_iface (x : Selector) : (s.setSel x).iface = s.iface := rfl
@[simp] theorem State.setSel_sel (x : Selector) : (s.setSel x).sel = x := rfl
@[simp] theorem State.setSel_dir (x : Selector) : (s.setSel x).dir = s.dir := rfl
@[simp] theorem State.setSel_peers (x : Selector) : (s.setSel x).peers = s.peers := rfl
@[simp] theorem State.setSel_reads (x : Selector) : (s.setSel x).reads = s.reads := rfl
@[simp] theorem State.setSel_writes (x : Selector) : (s.setSel x).writes = s.writes := rfl
@[simp] theorem State.setSel_resp (x : Selector) : (s.setSel x).resp = s.resp := rfl
@[simp] theorem State.setSel_ram (x : Selector) : (s.setSel x).ram = s.ram := rfl
@[simp] theorem State.setSel_ctl (x : Selector) : (s.setSel x).ctl = s.ctl := rfl
@[simp] theorem State.setSel_port (x : Selector) : (s.setSel x).port = s.port := rfl
@[simp] theorem State.setSel_ev (x : Selector) : (s.setSel x).ev = s.ev := rfl
@[simp] theorem State.setSel_choice (x : Selector) : (s.setSel x).choice = s.choice := rfl
@[simp] theorem State.setSel_pending (x : Selector) : (s.setSel x).pending = s.pending := rfl
@[simp] theorem State.setSel_setSel (x y : Selector) : (s.setSel x).setSel y = s.setSel y := rfl
@[simp] theorem State.setSel_self : s.setSel s.sel = s := rfl

/-! ### setDir -/

@[simp] theorem State.setDir_iface (x : Directory) : (s.setDir x).iface = s.iface := rfl
@[simp] theorem State.setDir_sel (x : Directory) : (s.setDir x).sel = s.sel := rfl
@[simp] theorem State.setDir_dir (x : Directory) : (s.setDir x).dir = x := rfl
@[simp] theorem State.setDir_peers (x : Directory) : (s.setDir x).peers = s.peers := rfl
@[simp] theorem State.setDir_reads (x : Directory) : (s.setDir x).reads = s.reads := rfl
@[simp] theorem State.setDir_writes (x : Directory) : (s.setDir x).writes = s.writes := rfl
@[simp] theorem State.setDir_resp (x : Directory) : (s.setDir x).resp = s.resp := rfl
@[simp] theorem State.setDir_ram (x : Directory) : (s.setDir x).ram = s.ram := rfl
@[simp] theorem State.setDir_ctl (x : Directory) : (s.setDir x).ctl = s.ctl := rfl
@[simp] theorem State.setDir_port (x : Directory) : (s.setDir x).port = s.port := rfl
@[simp] theorem State.setDir_ev (x : Directory) : (s.setDir x).ev = s.ev := rfl
@[simp] theorem State.setDir_choice (x : Directory) : (s.setDir x).choice = s.choice := rfl
@[simp] theorem State.setDir_pending (x : Directory) : (s.setDir x).pending = s.pending := rfl
@[simp] theorem State.setDir_setDir (x y : Directory) : (s.setDir x).setDir y = s.setDir y := rfl
@[simp] theorem State.setDir_self : s.setDir s.dir = s := rfl

/-! ### setPeers -/

@[simp] theorem State.setPeers_iface (x : List PeerRecord) : (s.setPeers x).iface = s.iface := rfl
@[simp] theorem State.setPeers_sel (x : List PeerRecord) : (s.setPeers x).sel = s.sel := rfl
@[simp] theorem State.setPeers_dir (x : List PeerRecord) : (s.setPeers x).dir = s.dir := rfl
@[simp] theorem State.setPeers_peers (x : List PeerRecord) : (s.setPeers x).peers = x := rfl
@[simp] theorem State.setPeers_reads (x : List PeerRecord) : (s.setPeers x).reads = s.reads := rfl
@[simp] theorem State.setPeers_writes (x : List PeerRecord) : (s.setPeers x).writes = s.writes := rfl
@[simp] theorem State.setPeers_resp (x : List PeerRecord) : (s.setPeers x).resp = s.resp := rfl
@[simp] theorem State.setPeers_ram (x : List PeerRecord) : (s.setPeers x).ram = s.ram := rfl
@[simp] theorem State.setPeers_ctl (x : List PeerRecord) : (s.setPeers x).ctl = s.ctl := rfl
@[simp] theorem State.setPeers_port (x : List PeerRecord) : (s.setPeers x).port = s.port := rfl
@[simp] theorem State.setPeers_ev (x : List PeerRecord) : (s.setPeers x).ev = s.ev := rfl
@[simp] theorem State.setPeers_choice (x : List PeerRecord) : (s.setPeers x).choice = s.choice := rfl
@[simp] theorem State.setPeers_pending (x : List PeerRecord) : (s.setPeers x).pending = s.pending := rfl
@[simp] theorem State.setPeers_setPeers (x y : List PeerRecord) : (s.setPeers x).setPeers y = s.setPeers y := rfl
@[simp] theorem State.setPeers_self : s.setPeers s.peers = s := rfl

/-! ### setReads -/

@[simp] theorem State.setReads_iface (x : ReadAgent) : (s.setReads x).iface = s.iface := rfl
@[simp] theorem State.setReads_sel (x : ReadAgent) : (s.setReads x).sel = s.sel := rfl
@[simp] theorem State.setReads_dir (x : ReadAgent) : (s.setReads x).dir = s.dir := rfl
@[simp] theorem State.setReads_peers (x : ReadAgent) : (s.setReads x).peers = s.peers := rfl
@[simp] theorem State.setReads_reads (x : ReadAgent) : (s.setReads x).reads = x := rfl
@[simp] theorem State.setReads_writes (x : ReadAgent) : (s.setReads x).writes = s.writes := rfl
@[simp] theorem State.setReads_resp (x : ReadAgent) : (s.setReads x).resp = s.resp := rfl
@[simp] theorem State.setReads_ram (x : ReadAgent) : (s.setReads x).ram = s.ram := rfl
@[simp] theorem State.setReads_ctl (x : ReadAgent) : (s.setReads x).ctl = s.ctl := rfl
@[simp] theorem State.setReads_port (x : ReadAgent) : (s.setReads x).port = s.port := rfl
@[simp] theorem State.setReads_ev (x : ReadAgent) : (s.setReads x).ev = s.ev := rfl
@[simp] theorem State.setReads_choice (x : ReadAgent) : (s.setReads x).choice = s.choice := rfl
@[simp] theorem State.setReads_pending (x : ReadAgent) : (s.setReads x).pending = s.pending := rfl
@[simp] theorem State.setReads_setReads (x y : ReadAgent) : (s.setReads x).setReads y = s.setReads y := rfl
@[simp] theorem State.setReads_self : s.setReads s.reads = s := rfl

/-! ### setWrites -/

@[simp] theorem State.setWrites_iface (x : WriteAgent) : (s.setWrites x).iface = s.iface := rfl
@[simp] theorem State.setWrites_sel (x : WriteAgent) : (s.setWrites x).sel = s.sel := rfl
@[simp] theorem State.setWrites_dir (x : WriteAgent) : (s.setWrites x).dir = s.dir := rfl
@[simp] theorem State.setWrites_peers (x : WriteAgent) : (s.setWrites x).peers = s.peers := rfl
@[simp] theorem State.setWrites_reads (x : WriteAgent) : (s.setWrites x).reads = s.reads := rfl
@[simp] theorem State.setWrites_writes (x : WriteAgent) : (s.setWrites x).writes = x := rfl
@[simp] theorem State.setWrites_resp (x : WriteAgent) : (s.setWrites x).resp = s.resp := rfl
@[simp] theorem State.setWrites_ram (x : WriteAgent) : (s.setWrites x).ram = s.ram := rfl
@[simp] theorem State.setWrites_ctl (x : WriteAgent) : (s.setWrites x).ctl = s.ctl := rfl
@[simp] theorem State.setWrites_port (x : WriteAgent) : (s.setWrites x).port = s.port := rfl
@[simp] theorem State.setWrites_ev (x : WriteAgent) : (s.setWrites x).ev = s.ev := rfl
@[simp] theorem State.setWrites_choice (x : WriteAgent) : (s.setWrites x).choice = s.choice := rfl
@[simp] theorem State.setWrites_pending (x : WriteAgent) : (s.setWrites x).pending = s.pending := rfl
@[simp] theorem State.setWrites_setWrites (x y : WriteAgent) : (s.setWrites x).setWrites y = s.setWrites y := rfl
@[simp] theorem State.setWrites_self : s.setWrites s.writes = s := rfl

/-! ### setResp -/

@[simp] theorem State.setResp_iface (x : Responder) : (s.setResp x).iface = s.iface := rfl
@[simp] theorem State.setResp_sel (x : Responder) : (s.setResp x).sel = s.sel := rfl
@[simp] theorem State.setResp_dir (x : Responder) : (s.setResp x).dir = s.dir := rfl
@[simp] theorem State.setResp_peers (x : Responder) : (s.setResp x).peers = s.peers := rfl
@[simp] theorem State.setResp_reads (x : Responder) : (s.setResp x).reads = s.reads := rfl
@[simp] theorem State.setResp_writes (x : Responder) : (s.setResp x).writes = s.writes := rfl
@[simp] theorem State.setResp_resp (x : Responder) : (s.setResp x).resp = x := rfl
@[simp] theorem State.setResp_ram (x : Responder) : (s.setResp x).ram = s.ram := rfl
@[simp] theorem State.setResp_ctl (x : Responder) : (s.setResp x).ctl = s.ctl := rfl
@[simp] theorem State.setResp_port (x : Responder) : (s.setResp x).port = s.port := rfl
@[simp] theorem State.setResp_ev (x : Responder) : (s.setResp x).ev = s.ev := rfl
@[simp] theorem State.setResp_choice (x : Responder) : (s.setResp x).choice = s.choice := rfl
@[simp] theorem State.setResp_pending (x : Responder) : (s.setResp x).pending = s.pending := rfl
@[simp] theorem State.setResp_setResp (x y : Responder) : (s.setResp x).setResp y = s.setResp y := rfl
@[simp] theorem State.setResp_self : s.setResp s.resp = s := rfl

/-! ### setRam -/

@[simp] theorem State.setRam_iface (x : List Host.Cell) : (s.setRam x).iface = s.iface := rfl
@[simp] theorem State.setRam_sel (x : List Host.Cell) : (s.setRam x).sel = s.sel := rfl
@[simp] theorem State.setRam_dir (x : List Host.Cell) : (s.setRam x).dir = s.dir := rfl
@[simp] theorem State.setRam_peers (x : List Host.Cell) : (s.setRam x).peers = s.peers := rfl
@[simp] theorem State.setRam_reads (x : List Host.Cell) : (s.setRam x).reads = s.reads := rfl
@[simp] theorem State.setRam_writes (x : List Host.Cell) : (s.setRam x).writes = s.writes := rfl
@[simp] theorem State.setRam_resp (x : List Host.Cell) : (s.setRam x).resp = s.resp := rfl
@[simp] theorem State.setRam_ram (x : List Host.Cell) : (s.setRam x).ram = x := rfl
@[simp] theorem State.setRam_ctl (x : List Host.Cell) : (s.setRam x).ctl = s.ctl := rfl
@[simp] theorem State.setRam_port (x : List Host.Cell) : (s.setRam x).port = s.port := rfl
@[simp] theorem State.setRam_ev (x : List Host.Cell) : (s.setRam x).ev = s.ev := rfl
@[simp] theorem State.setRam_choice (x : List Host.Cell) : (s.setRam x).choice = s.choice := rfl
@[simp] theorem State.setRam_pending (x : List Host.Cell) : (s.setRam x).pending = s.pending := rfl
@[simp] theorem State.setRam_setRam (x y : List Host.Cell) : (s.setRam x).setRam y = s.setRam y := rfl
@[simp] theorem State.setRam_self : s.setRam s.ram = s := rfl

/-! ### setCtl -/

@[simp] theorem State.setCtl_iface (x : StationControl) : (s.setCtl x).iface = s.iface := rfl
@[simp] theorem State.setCtl_sel (x : StationControl) : (s.setCtl x).sel = s.sel := rfl
@[simp] theorem State.setCtl_dir (x : StationControl) : (s.setCtl x).dir = s.dir := rfl
@[simp] theorem State.setCtl_peers (x : StationControl) : (s.setCtl x).peers = s.peers := rfl
@[simp] theorem State.setCtl_reads (x : StationControl) : (s.setCtl x).reads = s.reads := rfl
@[simp] theorem State.setCtl_writes (x : StationControl) : (s.setCtl x).writes = s.writes := rfl
@[simp] theorem State.setCtl_resp (x : StationControl) : (s.setCtl x).resp = s.resp := rfl
@[simp] theorem State.setCtl_ram (x : StationControl) : (s.setCtl x).ram = s.ram := rfl
@[simp] theorem State.setCtl_ctl (x : StationControl) : (s.setCtl x).ctl = x := rfl
@[simp] theorem State.setCtl_port (x : StationControl) : (s.setCtl x).port = s.port := rfl
@[simp] theorem State.setCtl_ev (x : StationControl) : (s.setCtl x).ev = s.ev := rfl
@[simp] theorem State.setCtl_choice (x : StationControl) : (s.setCtl x).choice = s.choice := rfl
@[simp] theorem State.setCtl_pending (x : StationControl) : (s.setCtl x).pending = s.pending := rfl
@[simp] theorem State.setCtl_setCtl (x y : StationControl) : (s.setCtl x).setCtl y = s.setCtl y := rfl
@[simp] theorem State.setCtl_self : s.setCtl s.ctl = s := rfl

/-! ### setPort -/

@[simp] theorem State.setPort_iface (x : HostPort) : (s.setPort x).iface = s.iface := rfl
@[simp] theorem State.setPort_sel (x : HostPort) : (s.setPort x).sel = s.sel := rfl
@[simp] theorem State.setPort_dir (x : HostPort) : (s.setPort x).dir = s.dir := rfl
@[simp] theorem State.setPort_peers (x : HostPort) : (s.setPort x).peers = s.peers := rfl
@[simp] theorem State.setPort_reads (x : HostPort) : (s.setPort x).reads = s.reads := rfl
@[simp] theorem State.setPort_writes (x : HostPort) : (s.setPort x).writes = s.writes := rfl
@[simp] theorem State.setPort_resp (x : HostPort) : (s.setPort x).resp = s.resp := rfl
@[simp] theorem State.setPort_ram (x : HostPort) : (s.setPort x).ram = s.ram := rfl
@[simp] theorem State.setPort_ctl (x : HostPort) : (s.setPort x).ctl = s.ctl := rfl
@[simp] theorem State.setPort_port (x : HostPort) : (s.setPort x).port = x := rfl
@[simp] theorem State.setPort_ev (x : HostPort) : (s.setPort x).ev = s.ev := rfl
@[simp] theorem State.setPort_choice (x : HostPort) : (s.setPort x).choice = s.choice := rfl
@[simp] theorem State.setPort_pending (x : HostPort) : (s.setPort x).pending = s.pending := rfl
@[simp] theorem State.setPort_setPort (x y : HostPort) : (s.setPort x).setPort y = s.setPort y := rfl
@[simp] theorem State.setPort_self : s.setPort s.port = s := rfl

/-! ### setEv -/

@[simp] theorem State.setEv_iface (x : EventUnit) : (s.setEv x).iface = s.iface := rfl
@[simp] theorem State.setEv_sel (x : EventUnit) : (s.setEv x).sel = s.sel := rfl
@[simp] theorem State.setEv_dir (x : EventUnit) : (s.setEv x).dir = s.dir := rfl
@[simp] theorem State.setEv_peers (x : EventUnit) : (s.setEv x).peers = s.peers := rfl
@[simp] theorem State.setEv_reads (x : EventUnit) : (s.setEv x).reads = s.reads := rfl
@[simp] theorem State.setEv_writes (x : EventUnit) : (s.setEv x).writes = s.writes := rfl
@[simp] theorem State.setEv_resp (x : EventUnit) : (s.setEv x).resp = s.resp := rfl
@[simp] theorem State.setEv_ram (x : EventUnit) : (s.setEv x).ram = s.ram := rfl
@[simp] theorem State.setEv_ctl (x : EventUnit) : (s.setEv x).ctl = s.ctl := rfl
@[simp] theorem State.setEv_port (x : EventUnit) : (s.setEv x).port = s.port := rfl
@[simp] theorem State.setEv_ev (x : EventUnit) : (s.setEv x).ev = x := rfl
@[simp] theorem State.setEv_choice (x : EventUnit) : (s.setEv x).choice = s.choice := rfl
@[simp] theorem State.setEv_pending (x : EventUnit) : (s.setEv x).pending = s.pending := rfl
@[simp] theorem State.setEv_setEv (x y : EventUnit) : (s.setEv x).setEv y = s.setEv y := rfl
@[simp] theorem State.setEv_self : s.setEv s.ev = s := rfl

/-! ### setChoice -/

@[simp] theorem State.setChoice_iface (x : Nat) : (s.setChoice x).iface = s.iface := rfl
@[simp] theorem State.setChoice_sel (x : Nat) : (s.setChoice x).sel = s.sel := rfl
@[simp] theorem State.setChoice_dir (x : Nat) : (s.setChoice x).dir = s.dir := rfl
@[simp] theorem State.setChoice_peers (x : Nat) : (s.setChoice x).peers = s.peers := rfl
@[simp] theorem State.setChoice_reads (x : Nat) : (s.setChoice x).reads = s.reads := rfl
@[simp] theorem State.setChoice_writes (x : Nat) : (s.setChoice x).writes = s.writes := rfl
@[simp] theorem State.setChoice_resp (x : Nat) : (s.setChoice x).resp = s.resp := rfl
@[simp] theorem State.setChoice_ram (x : Nat) : (s.setChoice x).ram = s.ram := rfl
@[simp] theorem State.setChoice_ctl (x : Nat) : (s.setChoice x).ctl = s.ctl := rfl
@[simp] theorem State.setChoice_port (x : Nat) : (s.setChoice x).port = s.port := rfl
@[simp] theorem State.setChoice_ev (x : Nat) : (s.setChoice x).ev = s.ev := rfl
@[simp] theorem State.setChoice_choice (x : Nat) : (s.setChoice x).choice = x := rfl
@[simp] theorem State.setChoice_pending (x : Nat) : (s.setChoice x).pending = s.pending := rfl
@[simp] theorem State.setChoice_setChoice (x y : Nat) : (s.setChoice x).setChoice y = s.setChoice y := rfl
@[simp] theorem State.setChoice_self : s.setChoice s.choice = s := rfl

/-! ### setPending -/

@[simp] theorem State.setPending_iface (x : List Instr) : (s.setPending x).iface = s.iface := rfl
@[simp] theorem State.setPending_sel (x : List Instr) : (s.setPending x).sel = s.sel := rfl
@[simp] theorem State.setPending_dir (x : List Instr) : (s.setPending x).dir = s.dir := rfl
@[simp] theorem State.setPending_peers (x : List Instr) : (s.setPending x).peers = s.peers := rfl
@[simp] theorem State.setPending_reads (x : List Instr) : (s.setPending x).reads = s.reads := rfl
@[simp] theorem State.setPending_writes (x : List Instr) : (s.setPending x).writes = s.writes := rfl
@[simp] theorem State.setPending_resp (x : List Instr) : (s.setPending x).resp = s.resp := rfl
@[simp] theorem State.setPending_ram (x : List Instr) : (s.setPending x).ram = s.ram := rfl
@[simp] theorem State.setPending_ctl (x : List Instr) : (s.setPending x).ctl = s.ctl := rfl
@[simp] theorem State.setPending_port (x : List Instr) : (s.setPending x).port = s.port := rfl
@[simp] theorem State.setPending_ev (x : List Instr) : (s.setPending x).ev = s.ev := rfl
@[simp] theorem State.setPending_choice (x : List Instr) : (s.setPending x).choice = s.choice := rfl
@[simp] theorem State.setPending_pending (x : List Instr) : (s.setPending x).pending = x := rfl
@[simp] theorem State.setPending_setPending (x y : List Instr) : (s.setPending x).setPending y = s.setPending y := rfl
@[simp] theorem State.setPending_self : s.setPending s.pending = s := rfl

end Sys2Proof.Machine
end

