-- ==== Sys2Proof/Laws/Ops.lean ====
section
/-! SUPPORT. What each operation of Machine/Ops.lean and Machine/Flags.lean leaves unchanged, and what a peer record, a
Delayed Read Table entry and a host cycle read after an update. -/

namespace Sys2Proof.Machine

/-- What every step of a fold keeps, the fold keeps. -/
theorem foldl_keeps {α β : Type} (f : State → α → State) (p : State → β) (h : ∀ s a, p (f s a) = p s) :
    ∀ (l : List α) (s : State), p (l.foldl f s) = p s
  | [], _ => rfl
  | a :: l, s => (foldl_keeps f p h l (f s a)).trans (h s a)

/-! ## Frames -/

@[simp] theorem raise_frame (f : EventFlag) (s : State) :
    (raise f s).iface = s.iface ∧ (raise f s).sel = s.sel ∧ (raise f s).dir = s.dir ∧ (raise f s).peers = s.peers ∧
    (raise f s).reads = s.reads ∧ (raise f s).writes = s.writes ∧ (raise f s).resp = s.resp ∧
    (raise f s).ram = s.ram ∧ (raise f s).ctl = s.ctl ∧ (raise f s).port = s.port ∧ (raise f s).choice = s.choice ∧
    (raise f s).pending = s.pending := by
  simp [raise]

@[simp] theorem handOn_frame (r : FaultReport) (s : State) :
    (handOn r s).iface = s.iface ∧ (handOn r s).sel = s.sel ∧ (handOn r s).dir = s.dir ∧
    (handOn r s).peers = s.peers ∧ (handOn r s).reads = s.reads ∧ (handOn r s).writes = s.writes ∧
    (handOn r s).resp = s.resp ∧ (handOn r s).ram = s.ram ∧ (handOn r s).ctl = s.ctl ∧ (handOn r s).port = s.port ∧
    (handOn r s).choice = s.choice ∧ (handOn r s).pending = s.pending := by
  simp [handOn]

@[simp] theorem count_frame (k : Counter) (n : Nat) (s : State) :
    (count k n s).iface = s.iface ∧ (count k n s).sel = s.sel ∧ (count k n s).dir = s.dir ∧
    (count k n s).peers = s.peers ∧ (count k n s).reads = s.reads ∧ (count k n s).writes = s.writes ∧
    (count k n s).resp = s.resp ∧ (count k n s).ram = s.ram ∧ (count k n s).ctl = s.ctl ∧
    (count k n s).port = s.port ∧ (count k n s).choice = s.choice ∧ (count k n s).pending = s.pending := by
  simp [count]

@[simp] theorem setSpan_frame (x : SpanState) (s : State) :
    (setSpan x s).iface = s.iface ∧ (setSpan x s).sel = s.sel ∧ (setSpan x s).dir = s.dir ∧
    (setSpan x s).peers = s.peers ∧ (setSpan x s).reads = s.reads ∧ (setSpan x s).writes = s.writes ∧
    (setSpan x s).resp = s.resp ∧ (setSpan x s).ram = s.ram ∧ (setSpan x s).port = s.port ∧
    (setSpan x s).choice = s.choice ∧ (setSpan x s).pending = s.pending := by
  unfold setSpan; split <;> simp

@[simp] theorem setPeer_frame (n : Station) (r : PeerRecord) (s : State) :
    (setPeer n r s).iface = s.iface ∧ (setPeer n r s).sel = s.sel ∧ (setPeer n r s).dir = s.dir ∧
    (setPeer n r s).reads = s.reads ∧ (setPeer n r s).writes = s.writes ∧ (setPeer n r s).resp = s.resp ∧
    (setPeer n r s).ram = s.ram ∧ (setPeer n r s).ctl = s.ctl ∧ (setPeer n r s).port = s.port ∧
    (setPeer n r s).ev = s.ev ∧ (setPeer n r s).choice = s.choice ∧ (setPeer n r s).pending = s.pending := by
  unfold setPeer; split <;> simp

@[simp] theorem appendReady_frame (x : ReadyItem) (s : State) :
    (appendReady x s).iface = s.iface ∧ (appendReady x s).dir = s.dir ∧ (appendReady x s).peers = s.peers ∧
    (appendReady x s).reads = s.reads ∧ (appendReady x s).writes = s.writes ∧ (appendReady x s).resp = s.resp ∧
    (appendReady x s).ram = s.ram ∧ (appendReady x s).ctl = s.ctl ∧ (appendReady x s).port = s.port ∧
    (appendReady x s).ev = s.ev ∧ (appendReady x s).choice = s.choice ∧ (appendReady x s).pending = s.pending := by
  simp [appendReady]

@[simp] theorem unreadyRead_frame (i : ReadIndex) (s : State) :
    (unreadyRead i s).iface = s.iface ∧ (unreadyRead i s).dir = s.dir ∧ (unreadyRead i s).peers = s.peers ∧
    (unreadyRead i s).reads = s.reads ∧ (unreadyRead i s).writes = s.writes ∧ (unreadyRead i s).resp = s.resp ∧
    (unreadyRead i s).ram = s.ram ∧ (unreadyRead i s).ctl = s.ctl ∧ (unreadyRead i s).port = s.port ∧
    (unreadyRead i s).ev = s.ev ∧ (unreadyRead i s).choice = s.choice ∧ (unreadyRead i s).pending = s.pending := by
  simp [unreadyRead]

@[simp] theorem unreadyWrite_frame (s : State) :
    (unreadyWrite s).iface = s.iface ∧ (unreadyWrite s).dir = s.dir ∧ (unreadyWrite s).peers = s.peers ∧
    (unreadyWrite s).reads = s.reads ∧ (unreadyWrite s).writes = s.writes ∧ (unreadyWrite s).resp = s.resp ∧
    (unreadyWrite s).ram = s.ram ∧ (unreadyWrite s).ctl = s.ctl ∧ (unreadyWrite s).port = s.port ∧
    (unreadyWrite s).ev = s.ev ∧ (unreadyWrite s).choice = s.choice ∧ (unreadyWrite s).pending = s.pending := by
  simp [unreadyWrite]

@[simp] theorem requestAnnounce_frame (s : State) :
    (requestAnnounce s).iface = s.iface ∧ (requestAnnounce s).dir = s.dir ∧ (requestAnnounce s).peers = s.peers ∧
    (requestAnnounce s).reads = s.reads ∧ (requestAnnounce s).writes = s.writes ∧ (requestAnnounce s).resp = s.resp ∧
    (requestAnnounce s).ram = s.ram ∧ (requestAnnounce s).ctl = s.ctl ∧ (requestAnnounce s).port = s.port ∧
    (requestAnnounce s).ev = s.ev ∧ (requestAnnounce s).choice = s.choice ∧ (requestAnnounce s).pending = s.pending := by
  unfold requestAnnounce; split <;> simp

@[simp] theorem setRead_frame (i : ReadIndex) (e : ReadEntry) (s : State) :
    (setRead i e s).iface = s.iface ∧ (setRead i e s).sel = s.sel ∧ (setRead i e s).dir = s.dir ∧
    (setRead i e s).peers = s.peers ∧ (setRead i e s).writes = s.writes ∧ (setRead i e s).resp = s.resp ∧
    (setRead i e s).ram = s.ram ∧ (setRead i e s).ctl = s.ctl ∧ (setRead i e s).port = s.port ∧
    (setRead i e s).ev = s.ev ∧ (setRead i e s).choice = s.choice ∧ (setRead i e s).pending = s.pending := by
  simp [setRead]

@[simp] theorem ramWrite_frame (a : Nat) (bytes : List Byte) (s : State) :
    (ramWrite a bytes s).iface = s.iface ∧ (ramWrite a bytes s).sel = s.sel ∧ (ramWrite a bytes s).dir = s.dir ∧
    (ramWrite a bytes s).peers = s.peers ∧ (ramWrite a bytes s).reads = s.reads ∧
    (ramWrite a bytes s).writes = s.writes ∧ (ramWrite a bytes s).resp = s.resp ∧ (ramWrite a bytes s).ctl = s.ctl ∧
    (ramWrite a bytes s).port = s.port ∧ (ramWrite a bytes s).ev = s.ev ∧ (ramWrite a bytes s).choice = s.choice ∧
    (ramWrite a bytes s).pending = s.pending := by
  simp [ramWrite]


end Sys2Proof.Machine
end

