-- ==== Sys2Proof/Laws/Directory.lean ====
section
/-! SUPPORT. What each operation of Machine/Directory.lean leaves unchanged. -/

namespace Sys2Proof.Machine

@[simp] theorem setStatus_frame (n : RegionIndex) (x : OwnStatus) (s : State) :
    (setStatus n x s).iface = s.iface ∧ (setStatus n x s).sel = s.sel ∧ (setStatus n x s).peers = s.peers ∧
    (setStatus n x s).reads = s.reads ∧ (setStatus n x s).writes = s.writes ∧ (setStatus n x s).resp = s.resp ∧
    (setStatus n x s).ram = s.ram ∧ (setStatus n x s).ctl = s.ctl ∧ (setStatus n x s).port = s.port ∧
    (setStatus n x s).ev = s.ev ∧ (setStatus n x s).choice = s.choice ∧ (setStatus n x s).pending = s.pending := by
  simp [setStatus]

@[simp] theorem eclipse_frame (n : RegionIndex) (s : State) :
    (eclipse n s).iface = s.iface ∧ (eclipse n s).sel = s.sel ∧ (eclipse n s).peers = s.peers ∧
    (eclipse n s).reads = s.reads ∧ (eclipse n s).writes = s.writes ∧ (eclipse n s).resp = s.resp ∧
    (eclipse n s).ram = s.ram ∧ (eclipse n s).ctl = s.ctl ∧ (eclipse n s).port = s.port ∧
    (eclipse n s).choice = s.choice ∧ (eclipse n s).pending = s.pending := by
  simp [eclipse]

@[simp] theorem insertEntry_frame (e : DirEntry) (s : State) :
    (insertEntry e s).iface = s.iface ∧ (insertEntry e s).sel = s.sel ∧ (insertEntry e s).peers = s.peers ∧
    (insertEntry e s).reads = s.reads ∧ (insertEntry e s).writes = s.writes ∧ (insertEntry e s).resp = s.resp ∧
    (insertEntry e s).ram = s.ram ∧ (insertEntry e s).ctl = s.ctl ∧ (insertEntry e s).port = s.port ∧
    (insertEntry e s).ev = s.ev ∧ (insertEntry e s).choice = s.choice ∧ (insertEntry e s).pending = s.pending := by
  simp [insertEntry]

@[simp] theorem refuseConflict_frame (s : State) :
    (refuseConflict s).iface = s.iface ∧ (refuseConflict s).sel = s.sel ∧ (refuseConflict s).dir = s.dir ∧
    (refuseConflict s).peers = s.peers ∧ (refuseConflict s).reads = s.reads ∧ (refuseConflict s).writes = s.writes ∧
    (refuseConflict s).resp = s.resp ∧ (refuseConflict s).ram = s.ram ∧ (refuseConflict s).ctl = s.ctl ∧
    (refuseConflict s).port = s.port ∧ (refuseConflict s).choice = s.choice ∧ (refuseConflict s).pending = s.pending := by
  simp [refuseConflict]

@[simp] theorem refuseCapacity_frame (s : State) :
    (refuseCapacity s).iface = s.iface ∧ (refuseCapacity s).sel = s.sel ∧ (refuseCapacity s).dir = s.dir ∧
    (refuseCapacity s).peers = s.peers ∧ (refuseCapacity s).reads = s.reads ∧ (refuseCapacity s).writes = s.writes ∧
    (refuseCapacity s).resp = s.resp ∧ (refuseCapacity s).ram = s.ram ∧ (refuseCapacity s).ctl = s.ctl ∧
    (refuseCapacity s).port = s.port ∧ (refuseCapacity s).choice = s.choice ∧ (refuseCapacity s).pending = s.pending := by
  simp [refuseCapacity]

@[simp] theorem eclipseEvicted_frame (e : DirEntry) (s : State) :
    (eclipseEvicted s e).iface = s.iface ∧ (eclipseEvicted s e).sel = s.sel ∧ (eclipseEvicted s e).peers = s.peers ∧
    (eclipseEvicted s e).reads = s.reads ∧ (eclipseEvicted s e).writes = s.writes ∧
    (eclipseEvicted s e).resp = s.resp ∧ (eclipseEvicted s e).ram = s.ram ∧ (eclipseEvicted s e).ctl = s.ctl ∧
    (eclipseEvicted s e).port = s.port ∧ (eclipseEvicted s e).choice = s.choice ∧
    (eclipseEvicted s e).pending = s.pending := by
  unfold eclipseEvicted; split <;> simp

@[simp] theorem evictFor_frame (e : DirEntry) (s : State) :
    (evictFor e s).iface = s.iface ∧ (evictFor e s).sel = s.sel ∧ (evictFor e s).peers = s.peers ∧
    (evictFor e s).reads = s.reads ∧ (evictFor e s).writes = s.writes ∧ (evictFor e s).resp = s.resp ∧
    (evictFor e s).ram = s.ram ∧ (evictFor e s).ctl = s.ctl ∧ (evictFor e s).port = s.port ∧
    (evictFor e s).choice = s.choice ∧ (evictFor e s).pending = s.pending := by
  have h := foldl_keeps eclipseEvicted (fun t => (t.iface, t.sel, t.peers, t.reads, t.writes, t.resp, t.ram, t.ctl, t.port, t.choice, t.pending))
    (by intro t x; simp) (s.dir.entries.filter (dirOverlaps e)) (raise .conflict (s.setDir { s.dir with entries := s.dir.entries.filter (fun g => !dirOverlaps e g) }))
  simp only [Prod.mk.injEq] at h
  simpa [evictFor] using h

@[simp] theorem place_frame (e : DirEntry) (s : State) :
    (place e s).iface = s.iface ∧ (place e s).sel = s.sel ∧ (place e s).peers = s.peers ∧
    (place e s).reads = s.reads ∧ (place e s).writes = s.writes ∧ (place e s).resp = s.resp ∧
    (place e s).ram = s.ram ∧ (place e s).ctl = s.ctl ∧ (place e s).port = s.port ∧ (place e s).choice = s.choice ∧
    (place e s).pending = s.pending := by
  unfold place; split <;> simp

@[simp] theorem placeOwn_frame (n : RegionIndex) (s : State) :
    (placeOwn s n).iface = s.iface ∧ (placeOwn s n).sel = s.sel ∧ (placeOwn s n).peers = s.peers ∧
    (placeOwn s n).reads = s.reads ∧ (placeOwn s n).writes = s.writes ∧ (placeOwn s n).resp = s.resp ∧
    (placeOwn s n).ram = s.ram ∧ (placeOwn s n).ctl = s.ctl ∧ (placeOwn s n).port = s.port ∧
    (placeOwn s n).choice = s.choice ∧ (placeOwn s n).pending = s.pending := by
  unfold placeOwn
  split
  · split <;> simp
  · simp

@[simp] theorem placeOwnRegions_frame (s : State) :
    (placeOwnRegions s).iface = s.iface ∧ (placeOwnRegions s).sel = s.sel ∧ (placeOwnRegions s).peers = s.peers ∧
    (placeOwnRegions s).reads = s.reads ∧ (placeOwnRegions s).writes = s.writes ∧ (placeOwnRegions s).resp = s.resp ∧
    (placeOwnRegions s).ram = s.ram ∧ (placeOwnRegions s).ctl = s.ctl ∧ (placeOwnRegions s).port = s.port ∧
    (placeOwnRegions s).choice = s.choice ∧ (placeOwnRegions s).pending = s.pending := by
  have h := foldl_keeps placeOwn (fun t => (t.iface, t.sel, t.peers, t.reads, t.writes, t.resp, t.ram, t.ctl, t.port, t.choice, t.pending))
    (by intro t x; simp) allRegionIndexes s
  simp only [Prod.mk.injEq] at h
  simpa [placeOwnRegions] using h

@[simp] theorem returnRegion_frame (n : RegionIndex) (s : State) :
    (returnRegion s n).iface = s.iface ∧ (returnRegion s n).sel = s.sel ∧ (returnRegion s n).peers = s.peers ∧
    (returnRegion s n).reads = s.reads ∧ (returnRegion s n).writes = s.writes ∧ (returnRegion s n).resp = s.resp ∧
    (returnRegion s n).ram = s.ram ∧ (returnRegion s n).ctl = s.ctl ∧ (returnRegion s n).port = s.port ∧
    (returnRegion s n).choice = s.choice ∧ (returnRegion s n).pending = s.pending := by
  unfold returnRegion; split <;> simp

@[simp] theorem requestIfReturned_frame (l : List OwnStatus) (s : State) :
    (requestIfReturned l s).iface = s.iface ∧ (requestIfReturned l s).dir = s.dir ∧
    (requestIfReturned l s).peers = s.peers ∧ (requestIfReturned l s).reads = s.reads ∧
    (requestIfReturned l s).writes = s.writes ∧ (requestIfReturned l s).resp = s.resp ∧
    (requestIfReturned l s).ram = s.ram ∧ (requestIfReturned l s).ctl = s.ctl ∧
    (requestIfReturned l s).port = s.port ∧ (requestIfReturned l s).ev = s.ev ∧
    (requestIfReturned l s).choice = s.choice ∧ (requestIfReturned l s).pending = s.pending := by
  unfold requestIfReturned; split <;> simp

@[simp] theorem returnRule_frame (s : State) :
    (returnRule s).iface = s.iface ∧ (returnRule s).peers = s.peers ∧ (returnRule s).reads = s.reads ∧
    (returnRule s).writes = s.writes ∧ (returnRule s).resp = s.resp ∧ (returnRule s).ram = s.ram ∧
    (returnRule s).ctl = s.ctl ∧ (returnRule s).port = s.port ∧ (returnRule s).choice = s.choice ∧
    (returnRule s).pending = s.pending := by
  unfold returnRule
  split
  · have h := foldl_keeps returnRegion (fun t => (t.iface, t.peers, t.reads, t.writes, t.resp, t.ram, t.ctl, t.port, t.choice, t.pending))
      (by intro t x; simp) allRegionIndexes s
    simp only [Prod.mk.injEq] at h
    simpa [requestIfReturned_frame] using h
  · simp

@[simp] theorem removeOwner_frame (n : Station) (s : State) :
    (removeOwner n s).iface = s.iface ∧ (removeOwner n s).sel = s.sel ∧ (removeOwner n s).peers = s.peers ∧
    (removeOwner n s).reads = s.reads ∧ (removeOwner n s).writes = s.writes ∧ (removeOwner n s).resp = s.resp ∧
    (removeOwner n s).ram = s.ram ∧ (removeOwner n s).ctl = s.ctl ∧ (removeOwner n s).port = s.port ∧
    (removeOwner n s).ev = s.ev ∧ (removeOwner n s).choice = s.choice ∧ (removeOwner n s).pending = s.pending := by
  simp [removeOwner]

@[simp] theorem directoryLoses_frame (n : Station) (s : State) :
    (directoryLoses n s).iface = s.iface ∧ (directoryLoses n s).peers = s.peers ∧
    (directoryLoses n s).reads = s.reads ∧ (directoryLoses n s).writes = s.writes ∧
    (directoryLoses n s).resp = s.resp ∧ (directoryLoses n s).ram = s.ram ∧ (directoryLoses n s).ctl = s.ctl ∧
    (directoryLoses n s).port = s.port ∧ (directoryLoses n s).choice = s.choice ∧
    (directoryLoses n s).pending = s.pending := by
  simp [directoryLoses]

@[simp] theorem emptyDirectory_frame (s : State) :
    (emptyDirectory s).iface = s.iface ∧ (emptyDirectory s).sel = s.sel ∧ (emptyDirectory s).peers = s.peers ∧
    (emptyDirectory s).reads = s.reads ∧ (emptyDirectory s).writes = s.writes ∧ (emptyDirectory s).resp = s.resp ∧
    (emptyDirectory s).ram = s.ram ∧ (emptyDirectory s).ctl = s.ctl ∧ (emptyDirectory s).port = s.port ∧
    (emptyDirectory s).choice = s.choice ∧ (emptyDirectory s).pending = s.pending := by
  simp only [emptyDirectory]
  split <;> simp

@[simp] theorem placeListed_frame (n : Station) (gs : List RegionGroup) (l : List DirEntry) (s : State) :
    (placeListed n gs l s).iface = s.iface ∧ (placeListed n gs l s).sel = s.sel ∧
    (placeListed n gs l s).peers = s.peers ∧ (placeListed n gs l s).reads = s.reads ∧
    (placeListed n gs l s).writes = s.writes ∧ (placeListed n gs l s).resp = s.resp ∧
    (placeListed n gs l s).ram = s.ram ∧ (placeListed n gs l s).ctl = s.ctl ∧ (placeListed n gs l s).port = s.port ∧
    (placeListed n gs l s).choice = s.choice ∧ (placeListed n gs l s).pending = s.pending := by
  induction gs generalizing l s with
  | nil => simp [placeListed]
  | cons g rest ih =>
    unfold placeListed
    split
    · simpa using ih (peerEntry n g :: l) (refuseConflict s)
    · simpa using ih (peerEntry n g :: l) (place (peerEntry n g) s)

@[simp] theorem takeRegions_frame (n : Station) (gs : List RegionGroup) (s : State) :
    (takeRegions n gs s).iface = s.iface ∧ (takeRegions n gs s).peers = s.peers ∧
    (takeRegions n gs s).reads = s.reads ∧ (takeRegions n gs s).writes = s.writes ∧
    (takeRegions n gs s).resp = s.resp ∧ (takeRegions n gs s).ram = s.ram ∧ (takeRegions n gs s).ctl = s.ctl ∧
    (takeRegions n gs s).port = s.port ∧ (takeRegions n gs s).choice = s.choice ∧
    (takeRegions n gs s).pending = s.pending := by
  unfold takeRegions; split <;> simp

@[simp] theorem directoryEventEnd_frame (l : List DirEntry) (s : State) :
    (directoryEventEnd l s).iface = s.iface ∧ (directoryEventEnd l s).sel = s.sel ∧
    (directoryEventEnd l s).peers = s.peers ∧ (directoryEventEnd l s).reads = s.reads ∧
    (directoryEventEnd l s).writes = s.writes ∧ (directoryEventEnd l s).resp = s.resp ∧
    (directoryEventEnd l s).ram = s.ram ∧ (directoryEventEnd l s).ctl = s.ctl ∧
    (directoryEventEnd l s).port = s.port ∧ (directoryEventEnd l s).choice = s.choice ∧
    (directoryEventEnd l s).pending = s.pending := by
  unfold directoryEventEnd; split <;> simp


/-! ## Lookup and insertion -/

/-- A lookup that answers gives an entry of the directory that contains the address. -/
theorem lookup_eq_some (a : GlobalAddr) (s : State) (e : DirEntry) (h : lookup a s = some e) :
    e ∈ s.dir.entries ∧ dirStart e ≤ a.toNat ∧ a.toNat < dirEnd e := by
  have h1 := List.find?_some h
  have h2 := List.mem_of_find?_eq_some h
  simp only [dirContains, Bool.and_eq_true, decide_eq_true_eq] at h1
  exact ⟨h2, h1.1, h1.2⟩

/-- A lookup that answers nothing: no entry contains the address. -/
theorem lookup_eq_none (a : GlobalAddr) (s : State) (h : lookup a s = none) :
    ∀ e ∈ s.dir.entries, ¬(dirStart e ≤ a.toNat ∧ a.toNat < dirEnd e) := by
  intro e he hc
  have h1 := List.find?_eq_none.mp h e he
  simp [dirContains, hc.1, hc.2] at h1

theorem insertByBase_perm (e : DirEntry) : ∀ l : List DirEntry, (insertByBase e l).Perm (e :: l)
  | [] => List.Perm.refl _
  | f :: rest => by
    unfold insertByBase
    split
    · exact List.Perm.refl _
    · exact ((insertByBase_perm e rest).cons f).trans (List.Perm.swap e f rest)

end Sys2Proof.Machine
end

