-- ==== Sys2Proof/Laws/Agents.lean ====
section
/-! SUPPORT. What each operation of the read agent, the write agent, the responder and the peer table leaves unchanged. -/

namespace Sys2Proof.Machine

@[simp] theorem freeRead_frame (i : ReadIndex) (s : State) :
    (freeRead i s).iface = s.iface ∧ (freeRead i s).dir = s.dir ∧ (freeRead i s).peers = s.peers ∧
    (freeRead i s).writes = s.writes ∧ (freeRead i s).resp = s.resp ∧ (freeRead i s).ram = s.ram ∧
    (freeRead i s).ctl = s.ctl ∧ (freeRead i s).port = s.port ∧ (freeRead i s).ev = s.ev ∧
    (freeRead i s).choice = s.choice ∧ (freeRead i s).pending = s.pending := by
  simp [freeRead]

@[simp] theorem makeReady_frame (i : ReadIndex) (s : State) :
    (makeReady i s).iface = s.iface ∧ (makeReady i s).dir = s.dir ∧ (makeReady i s).peers = s.peers ∧
    (makeReady i s).writes = s.writes ∧ (makeReady i s).resp = s.resp ∧ (makeReady i s).ram = s.ram ∧
    (makeReady i s).ctl = s.ctl ∧ (makeReady i s).port = s.port ∧ (makeReady i s).ev = s.ev ∧
    (makeReady i s).choice = s.choice ∧ (makeReady i s).pending = s.pending := by
  simp [makeReady]

@[simp] theorem completeRead_frame (i : ReadIndex) (o : ReadOutcome) (d : List Byte) (s : State) :
    (completeRead i o d s).iface = s.iface ∧ (completeRead i o d s).dir = s.dir ∧
    (completeRead i o d s).peers = s.peers ∧ (completeRead i o d s).writes = s.writes ∧
    (completeRead i o d s).resp = s.resp ∧ (completeRead i o d s).ram = s.ram ∧ (completeRead i o d s).ctl = s.ctl ∧
    (completeRead i o d s).port = s.port ∧ (completeRead i o d s).ev = s.ev ∧
    (completeRead i o d s).choice = s.choice ∧ (completeRead i o d s).pending = s.pending := by
  unfold completeRead; split <;> simp

@[simp] theorem failRead_frame (r : FaultReason) (i : ReadIndex) (s : State) :
    (failRead r s i).iface = s.iface ∧ (failRead r s i).dir = s.dir ∧ (failRead r s i).peers = s.peers ∧
    (failRead r s i).writes = s.writes ∧ (failRead r s i).resp = s.resp ∧ (failRead r s i).ram = s.ram ∧
    (failRead r s i).ctl = s.ctl ∧ (failRead r s i).port = s.port ∧ (failRead r s i).choice = s.choice ∧
    (failRead r s i).pending = s.pending := by
  unfold failRead; split <;> simp

@[simp] theorem recountAhead_frame (f : Nat → Nat) (s : State) :
    (recountAhead f s).iface = s.iface ∧ (recountAhead f s).sel = s.sel ∧ (recountAhead f s).dir = s.dir ∧
    (recountAhead f s).peers = s.peers ∧ (recountAhead f s).writes = s.writes ∧ (recountAhead f s).resp = s.resp ∧
    (recountAhead f s).ram = s.ram ∧ (recountAhead f s).ctl = s.ctl ∧ (recountAhead f s).port = s.port ∧
    (recountAhead f s).ev = s.ev ∧ (recountAhead f s).choice = s.choice ∧ (recountAhead f s).pending = s.pending := by
  simp [recountAhead]

@[simp] theorem releaseRead_frame (i : ReadIndex) (s : State) :
    (releaseRead s i).iface = s.iface ∧ (releaseRead s i).dir = s.dir ∧ (releaseRead s i).peers = s.peers ∧
    (releaseRead s i).writes = s.writes ∧ (releaseRead s i).resp = s.resp ∧ (releaseRead s i).ram = s.ram ∧
    (releaseRead s i).ctl = s.ctl ∧ (releaseRead s i).port = s.port ∧ (releaseRead s i).ev = s.ev ∧
    (releaseRead s i).choice = s.choice ∧ (releaseRead s i).pending = s.pending := by
  unfold releaseRead; split <;> simp

@[simp] theorem releaseBarriers_frame (s : State) :
    (releaseBarriers s).iface = s.iface ∧ (releaseBarriers s).dir = s.dir ∧ (releaseBarriers s).peers = s.peers ∧
    (releaseBarriers s).writes = s.writes ∧ (releaseBarriers s).resp = s.resp ∧ (releaseBarriers s).ram = s.ram ∧
    (releaseBarriers s).ctl = s.ctl ∧ (releaseBarriers s).port = s.port ∧ (releaseBarriers s).ev = s.ev ∧
    (releaseBarriers s).choice = s.choice ∧ (releaseBarriers s).pending = s.pending := by
  have h := foldl_keeps releaseRead (fun t => (t.iface, t.dir, t.peers, t.writes, t.resp, t.ram, t.ctl, t.port, t.ev, t.choice, t.pending))
    (by intro t x; simp) s.reads.order s
  simp only [Prod.mk.injEq] at h
  simpa [releaseBarriers] using h

@[simp] theorem allocateRead_frame (i : ReadIndex) (n : Station) (a : GlobalAddr) (len : Nat) (p : Bool) (s : State) :
    (allocateRead i n a len p s).iface = s.iface ∧ (allocateRead i n a len p s).dir = s.dir ∧
    (allocateRead i n a len p s).peers = s.peers ∧ (allocateRead i n a len p s).writes = s.writes ∧
    (allocateRead i n a len p s).resp = s.resp ∧ (allocateRead i n a len p s).ram = s.ram ∧
    (allocateRead i n a len p s).ctl = s.ctl ∧ (allocateRead i n a len p s).port = s.port ∧
    (allocateRead i n a len p s).ev = s.ev ∧ (allocateRead i n a len p s).choice = s.choice ∧
    (allocateRead i n a len p s).pending = s.pending := by
  simp only [allocateRead]
  split <;> simp

@[simp] theorem readSent_frame (i : ReadIndex) (inc : Incarnation) (s : State) :
    (readSent i inc s).iface = s.iface ∧ (readSent i inc s).sel = s.sel ∧ (readSent i inc s).dir = s.dir ∧
    (readSent i inc s).peers = s.peers ∧ (readSent i inc s).writes = s.writes ∧ (readSent i inc s).resp = s.resp ∧
    (readSent i inc s).ram = s.ram ∧ (readSent i inc s).ctl = s.ctl ∧ (readSent i inc s).port = s.port ∧
    (readSent i inc s).ev = s.ev ∧ (readSent i inc s).choice = s.choice ∧ (readSent i inc s).pending = s.pending := by
  simp only [readSent]
  split <;> simp

@[simp] theorem overtakeRead_frame (a n : Nat) (i : ReadIndex) (s : State) :
    (overtakeRead a n s i).iface = s.iface ∧ (overtakeRead a n s i).dir = s.dir ∧
    (overtakeRead a n s i).peers = s.peers ∧ (overtakeRead a n s i).writes = s.writes ∧
    (overtakeRead a n s i).resp = s.resp ∧ (overtakeRead a n s i).ram = s.ram ∧ (overtakeRead a n s i).ctl = s.ctl ∧
    (overtakeRead a n s i).port = s.port ∧ (overtakeRead a n s i).ev = s.ev ∧
    (overtakeRead a n s i).choice = s.choice ∧ (overtakeRead a n s i).pending = s.pending := by
  simp only [overtakeRead]
  split
  · split <;> simp
  · simp

@[simp] theorem overtake_frame (a n : Nat) (s : State) :
    (overtake a n s).iface = s.iface ∧ (overtake a n s).dir = s.dir ∧ (overtake a n s).peers = s.peers ∧
    (overtake a n s).writes = s.writes ∧ (overtake a n s).resp = s.resp ∧ (overtake a n s).ram = s.ram ∧
    (overtake a n s).ctl = s.ctl ∧ (overtake a n s).port = s.port ∧ (overtake a n s).ev = s.ev ∧
    (overtake a n s).choice = s.choice ∧ (overtake a n s).pending = s.pending := by
  have h := foldl_keeps (overtakeRead a n) (fun t => (t.iface, t.dir, t.peers, t.writes, t.resp, t.ram, t.ctl, t.port, t.ev, t.choice, t.pending))
    (by intro t x; simp) allReadIndexes s
  simp only [Prod.mk.injEq] at h
  simpa [overtake] using h

@[simp] theorem purgeReads_frame (n : Station) (k : Nat) (s : State) :
    (purgeReads n k s).iface = s.iface ∧ (purgeReads n k s).dir = s.dir ∧ (purgeReads n k s).peers = s.peers ∧
    (purgeReads n k s).writes = s.writes ∧ (purgeReads n k s).resp = s.resp ∧ (purgeReads n k s).ram = s.ram ∧
    (purgeReads n k s).ctl = s.ctl ∧ (purgeReads n k s).port = s.port ∧ (purgeReads n k s).choice = s.choice ∧
    (purgeReads n k s).pending = s.pending := by
  have h := foldl_keeps (failRead .peerLost) (fun t => (t.iface, t.dir, t.peers, t.writes, t.resp, t.ram, t.ctl, t.port, t.choice, t.pending))
    (by intro t x; simp) (leadWith k (fetchingReads (fun e => e.dest == n) s)) s
  simp only [Prod.mk.injEq] at h
  simpa [purgeReads] using h

@[simp] theorem drainReads_frame (s : State) :
    (drainReads s).iface = s.iface ∧ (drainReads s).dir = s.dir ∧ (drainReads s).peers = s.peers ∧
    (drainReads s).writes = s.writes ∧ (drainReads s).resp = s.resp ∧ (drainReads s).ram = s.ram ∧
    (drainReads s).ctl = s.ctl ∧ (drainReads s).port = s.port ∧ (drainReads s).choice = s.choice ∧
    (drainReads s).pending = s.pending := by
  have h := foldl_keeps (failRead .leaving) (fun t => (t.iface, t.dir, t.peers, t.writes, t.resp, t.ram, t.ctl, t.port, t.choice, t.pending))
    (by intro t x; simp) (fetchingReads (fun _ => true) s) s
  simp only [Prod.mk.injEq] at h
  simpa [drainReads] using h

@[simp] theorem freeAllReads_frame (s : State) :
    (freeAllReads s).iface = s.iface ∧ (freeAllReads s).sel = s.sel ∧ (freeAllReads s).dir = s.dir ∧
    (freeAllReads s).peers = s.peers ∧ (freeAllReads s).writes = s.writes ∧ (freeAllReads s).resp = s.resp ∧
    (freeAllReads s).ram = s.ram ∧ (freeAllReads s).ctl = s.ctl ∧ (freeAllReads s).port = s.port ∧
    (freeAllReads s).ev = s.ev ∧ (freeAllReads s).choice = s.choice ∧ (freeAllReads s).pending = s.pending := by
  simp [freeAllReads]

@[simp] theorem setQueue_frame (q : List PostedWrite) (s : State) :
    (setQueue q s).iface = s.iface ∧ (setQueue q s).sel = s.sel ∧ (setQueue q s).dir = s.dir ∧
    (setQueue q s).peers = s.peers ∧ (setQueue q s).reads = s.reads ∧ (setQueue q s).resp = s.resp ∧
    (setQueue q s).ram = s.ram ∧ (setQueue q s).ctl = s.ctl ∧ (setQueue q s).port = s.port ∧
    (setQueue q s).ev = s.ev ∧ (setQueue q s).choice = s.choice ∧ (setQueue q s).pending = s.pending := by
  simp [setQueue]

@[simp] theorem setHead_frame (w : PostedWrite) (s : State) :
    (setHead w s).iface = s.iface ∧ (setHead w s).sel = s.sel ∧ (setHead w s).dir = s.dir ∧
    (setHead w s).peers = s.peers ∧ (setHead w s).reads = s.reads ∧ (setHead w s).resp = s.resp ∧
    (setHead w s).ram = s.ram ∧ (setHead w s).ctl = s.ctl ∧ (setHead w s).port = s.port ∧ (setHead w s).ev = s.ev ∧
    (setHead w s).choice = s.choice ∧ (setHead w s).pending = s.pending := by
  simp [setHead]

@[simp] theorem readyHead_frame (w : PostedWrite) (s : State) :
    (readyHead w s).iface = s.iface ∧ (readyHead w s).dir = s.dir ∧ (readyHead w s).peers = s.peers ∧
    (readyHead w s).reads = s.reads ∧ (readyHead w s).resp = s.resp ∧ (readyHead w s).ram = s.ram ∧
    (readyHead w s).ctl = s.ctl ∧ (readyHead w s).port = s.port ∧ (readyHead w s).ev = s.ev ∧
    (readyHead w s).choice = s.choice ∧ (readyHead w s).pending = s.pending := by
  simp [readyHead]

@[simp] theorem popHead_frame (s : State) :
    (popHead s).iface = s.iface ∧ (popHead s).dir = s.dir ∧ (popHead s).peers = s.peers ∧ (popHead s).resp = s.resp ∧
    (popHead s).ram = s.ram ∧ (popHead s).ctl = s.ctl ∧ (popHead s).port = s.port ∧ (popHead s).ev = s.ev ∧
    (popHead s).choice = s.choice ∧ (popHead s).pending = s.pending := by
  simp [popHead]

@[simp] theorem dropHead_frame (w : PostedWrite) (r : FaultReason) (s : State) :
    (dropHead w r s).iface = s.iface ∧ (dropHead w r s).dir = s.dir ∧ (dropHead w r s).peers = s.peers ∧
    (dropHead w r s).resp = s.resp ∧ (dropHead w r s).ram = s.ram ∧ (dropHead w r s).ctl = s.ctl ∧
    (dropHead w r s).port = s.port ∧ (dropHead w r s).choice = s.choice ∧ (dropHead w r s).pending = s.pending := by
  simp [dropHead]

@[simp] theorem judgeHeads_frame (l : List PostedWrite) (s : State) :
    (judgeHeads l s).iface = s.iface ∧ (judgeHeads l s).dir = s.dir ∧ (judgeHeads l s).peers = s.peers ∧
    (judgeHeads l s).resp = s.resp ∧ (judgeHeads l s).ram = s.ram ∧ (judgeHeads l s).ctl = s.ctl ∧
    (judgeHeads l s).port = s.port ∧ (judgeHeads l s).choice = s.choice ∧ (judgeHeads l s).pending = s.pending := by
  induction l generalizing s with
  | nil => simp [judgeHeads]
  | cons w rest ih =>
    unfold judgeHeads
    split
    · simp
    · have h := ih (dropHead w .unreachable s)
      simpa using h

@[simp] theorem headGone_frame (s : State) :
    (headGone s).iface = s.iface ∧ (headGone s).dir = s.dir ∧ (headGone s).peers = s.peers ∧
    (headGone s).resp = s.resp ∧ (headGone s).ram = s.ram ∧ (headGone s).ctl = s.ctl ∧ (headGone s).port = s.port ∧
    (headGone s).choice = s.choice ∧ (headGone s).pending = s.pending := by
  simp [headGone]

@[simp] theorem enqueueWrite_frame (n : Station) (a : GlobalAddr) (d : List Byte) (x : Bool) (s : State) :
    (enqueueWrite n a d x s).iface = s.iface ∧ (enqueueWrite n a d x s).sel = s.sel ∧
    (enqueueWrite n a d x s).dir = s.dir ∧ (enqueueWrite n a d x s).reads = s.reads ∧
    (enqueueWrite n a d x s).resp = s.resp ∧ (enqueueWrite n a d x s).ram = s.ram ∧
    (enqueueWrite n a d x s).ctl = s.ctl ∧ (enqueueWrite n a d x s).port = s.port ∧
    (enqueueWrite n a d x s).ev = s.ev ∧ (enqueueWrite n a d x s).choice = s.choice ∧
    (enqueueWrite n a d x s).pending = s.pending := by
  simp [enqueueWrite]

@[simp] theorem admit_frame (n : Station) (a : GlobalAddr) (d : List Byte) (x : Bool) (s : State) :
    (admitWrite n a d x s).iface = s.iface ∧ (admitWrite n a d x s).dir = s.dir ∧ (admitWrite n a d x s).resp = s.resp ∧
    (admitWrite n a d x s).ram = s.ram ∧ (admitWrite n a d x s).ctl = s.ctl ∧ (admitWrite n a d x s).port = s.port ∧
    (admitWrite n a d x s).ev = s.ev ∧ (admitWrite n a d x s).choice = s.choice ∧ (admitWrite n a d x s).pending = s.pending := by
  simp only [admitWrite]
  split <;> simp

@[simp] theorem appendNotice_frame (x : Notice) (s : State) :
    (appendNotice x s).iface = s.iface ∧ (appendNotice x s).sel = s.sel ∧ (appendNotice x s).dir = s.dir ∧
    (appendNotice x s).peers = s.peers ∧ (appendNotice x s).reads = s.reads ∧ (appendNotice x s).writes = s.writes ∧
    (appendNotice x s).ram = s.ram ∧ (appendNotice x s).ctl = s.ctl ∧ (appendNotice x s).port = s.port ∧
    (appendNotice x s).ev = s.ev ∧ (appendNotice x s).choice = s.choice ∧ (appendNotice x s).pending = s.pending := by
  simp [appendNotice]

@[simp] theorem writeSent_frame (k : Word) (s : State) :
    (writeSent k s).iface = s.iface ∧ (writeSent k s).sel = s.sel ∧ (writeSent k s).dir = s.dir ∧
    (writeSent k s).peers = s.peers ∧ (writeSent k s).reads = s.reads ∧ (writeSent k s).resp = s.resp ∧
    (writeSent k s).ram = s.ram ∧ (writeSent k s).ctl = s.ctl ∧ (writeSent k s).port = s.port ∧
    (writeSent k s).ev = s.ev ∧ (writeSent k s).choice = s.choice ∧ (writeSent k s).pending = s.pending := by
  unfold writeSent
  split
  · simp
  · split <;> simp

@[simp] theorem takeWriteAck_frame (n : Station) (tag : Byte) (s : State) :
    (takeWriteAck n tag s).iface = s.iface ∧ (takeWriteAck n tag s).dir = s.dir ∧
    (takeWriteAck n tag s).peers = s.peers ∧ (takeWriteAck n tag s).resp = s.resp ∧
    (takeWriteAck n tag s).ram = s.ram ∧ (takeWriteAck n tag s).ctl = s.ctl ∧ (takeWriteAck n tag s).port = s.port ∧
    (takeWriteAck n tag s).choice = s.choice ∧ (takeWriteAck n tag s).pending = s.pending := by
  unfold takeWriteAck
  split
  · simp
  · split <;> simp

@[simp] theorem holdHead_frame (w : PostedWrite) (s : State) :
    (holdHead w s).iface = s.iface ∧ (holdHead w s).dir = s.dir ∧ (holdHead w s).peers = s.peers ∧
    (holdHead w s).reads = s.reads ∧ (holdHead w s).resp = s.resp ∧ (holdHead w s).ram = s.ram ∧
    (holdHead w s).ctl = s.ctl ∧ (holdHead w s).port = s.port ∧ (holdHead w s).ev = s.ev ∧
    (holdHead w s).choice = s.choice ∧ (holdHead w s).pending = s.pending := by
  simp [holdHead]

@[simp] theorem takeWriteNack_frame (n : Station) (tag : Byte) (r : NackReason) (s : State) :
    (takeWriteNack n tag r s).iface = s.iface ∧ (takeWriteNack n tag r s).dir = s.dir ∧
    (takeWriteNack n tag r s).peers = s.peers ∧ (takeWriteNack n tag r s).resp = s.resp ∧
    (takeWriteNack n tag r s).ram = s.ram ∧ (takeWriteNack n tag r s).ctl = s.ctl ∧
    (takeWriteNack n tag r s).port = s.port ∧ (takeWriteNack n tag r s).choice = s.choice ∧
    (takeWriteNack n tag r s).pending = s.pending := by
  unfold takeWriteNack
  split
  · simp
  · split
    · split <;> simp
    · simp

@[simp] theorem removeWrites_frame (p : PostedWrite → Bool) (s : State) :
    (removeWrites p s).iface = s.iface ∧ (removeWrites p s).dir = s.dir ∧ (removeWrites p s).peers = s.peers ∧
    (removeWrites p s).resp = s.resp ∧ (removeWrites p s).ram = s.ram ∧ (removeWrites p s).ctl = s.ctl ∧
    (removeWrites p s).port = s.port ∧ (removeWrites p s).ev = s.ev ∧ (removeWrites p s).choice = s.choice ∧
    (removeWrites p s).pending = s.pending := by
  simp only [removeWrites]
  split <;> simp

@[simp] theorem purgeWrites_frame (p : PostedWrite → Bool) (r : FaultReason) (s : State) :
    (purgeWrites p r s).iface = s.iface ∧ (purgeWrites p r s).dir = s.dir ∧ (purgeWrites p r s).peers = s.peers ∧
    (purgeWrites p r s).resp = s.resp ∧ (purgeWrites p r s).ram = s.ram ∧ (purgeWrites p r s).ctl = s.ctl ∧
    (purgeWrites p r s).port = s.port ∧ (purgeWrites p r s).choice = s.choice ∧
    (purgeWrites p r s).pending = s.pending := by
  simp only [purgeWrites]
  split
  · simp
  · split <;> simp

@[simp] theorem emptyWrites_frame (s : State) :
    (emptyWrites s).iface = s.iface ∧ (emptyWrites s).sel = s.sel ∧ (emptyWrites s).dir = s.dir ∧
    (emptyWrites s).peers = s.peers ∧ (emptyWrites s).reads = s.reads ∧ (emptyWrites s).resp = s.resp ∧
    (emptyWrites s).ram = s.ram ∧ (emptyWrites s).ctl = s.ctl ∧ (emptyWrites s).port = s.port ∧
    (emptyWrites s).ev = s.ev ∧ (emptyWrites s).choice = s.choice ∧ (emptyWrites s).pending = s.pending := by
  simp [emptyWrites]

@[simp] theorem takeReadRsp_frame (n : Station) (tag : Byte) (d : List Byte) (s : State) :
    (takeReadRsp n tag d s).iface = s.iface ∧ (takeReadRsp n tag d s).dir = s.dir ∧
    (takeReadRsp n tag d s).peers = s.peers ∧ (takeReadRsp n tag d s).writes = s.writes ∧
    (takeReadRsp n tag d s).resp = s.resp ∧ (takeReadRsp n tag d s).ram = s.ram ∧
    (takeReadRsp n tag d s).ctl = s.ctl ∧ (takeReadRsp n tag d s).port = s.port ∧
    (takeReadRsp n tag d s).choice = s.choice ∧ (takeReadRsp n tag d s).pending = s.pending := by
  unfold takeReadRsp; split <;> simp

@[simp] theorem takeReadNack_frame (n : Station) (tag : Byte) (r : NackReason) (s : State) :
    (takeReadNack n tag r s).iface = s.iface ∧ (takeReadNack n tag r s).dir = s.dir ∧
    (takeReadNack n tag r s).peers = s.peers ∧ (takeReadNack n tag r s).writes = s.writes ∧
    (takeReadNack n tag r s).resp = s.resp ∧ (takeReadNack n tag r s).ram = s.ram ∧
    (takeReadNack n tag r s).ctl = s.ctl ∧ (takeReadNack n tag r s).port = s.port ∧
    (takeReadNack n tag r s).choice = s.choice ∧ (takeReadNack n tag r s).pending = s.pending := by
  unfold takeReadNack; split <;> simp

@[simp] theorem respond_frame (n : Station) (tag : Byte) (x : Answer) (s : State) :
    (respond n tag x s).iface = s.iface ∧ (respond n tag x s).sel = s.sel ∧ (respond n tag x s).dir = s.dir ∧
    (respond n tag x s).peers = s.peers ∧ (respond n tag x s).reads = s.reads ∧ (respond n tag x s).writes = s.writes ∧
    (respond n tag x s).ram = s.ram ∧ (respond n tag x s).ctl = s.ctl ∧ (respond n tag x s).port = s.port ∧
    (respond n tag x s).ev = s.ev ∧ (respond n tag x s).choice = s.choice ∧ (respond n tag x s).pending = s.pending := by
  simp [respond]

@[simp] theorem dropRequest_frame (s : State) :
    (dropRequest s).iface = s.iface ∧ (dropRequest s).sel = s.sel ∧ (dropRequest s).dir = s.dir ∧
    (dropRequest s).peers = s.peers ∧ (dropRequest s).reads = s.reads ∧ (dropRequest s).writes = s.writes ∧
    (dropRequest s).resp = s.resp ∧ (dropRequest s).ram = s.ram ∧ (dropRequest s).ctl = s.ctl ∧
    (dropRequest s).port = s.port ∧ (dropRequest s).choice = s.choice ∧ (dropRequest s).pending = s.pending := by
  simp [dropRequest]

@[simp] theorem takeReadReq_frame (n : Station) (tag : Byte) (a : GlobalAddr) (len : Nat) (s : State) :
    (takeReadReq n tag a len s).iface = s.iface ∧ (takeReadReq n tag a len s).sel = s.sel ∧
    (takeReadReq n tag a len s).dir = s.dir ∧ (takeReadReq n tag a len s).peers = s.peers ∧
    (takeReadReq n tag a len s).reads = s.reads ∧ (takeReadReq n tag a len s).writes = s.writes ∧
    (takeReadReq n tag a len s).ram = s.ram ∧ (takeReadReq n tag a len s).ctl = s.ctl ∧
    (takeReadReq n tag a len s).port = s.port ∧ (takeReadReq n tag a len s).choice = s.choice ∧
    (takeReadReq n tag a len s).pending = s.pending := by
  unfold takeReadReq
  split
  · simp
  · split
    · simp
    · split <;> simp

@[simp] theorem applyWrite_frame (n : Station) (q : Byte) (a : GlobalAddr) (d : List Byte) (x : Bool) (l : Nat) (s : State) :
    (applyWrite n q a d x l s).iface = s.iface ∧ (applyWrite n q a d x l s).sel = s.sel ∧
    (applyWrite n q a d x l s).dir = s.dir ∧ (applyWrite n q a d x l s).reads = s.reads ∧
    (applyWrite n q a d x l s).writes = s.writes ∧ (applyWrite n q a d x l s).ctl = s.ctl ∧
    (applyWrite n q a d x l s).port = s.port ∧ (applyWrite n q a d x l s).ev = s.ev ∧
    (applyWrite n q a d x l s).choice = s.choice ∧ (applyWrite n q a d x l s).pending = s.pending := by
  simp only [applyWrite]
  split <;> simp

@[simp] theorem takeWrite_frame (n : Station) (q : Byte) (a : GlobalAddr) (d : List Byte) (x : Bool) (s : State) :
    (takeWrite n q a d x s).iface = s.iface ∧ (takeWrite n q a d x s).sel = s.sel ∧
    (takeWrite n q a d x s).dir = s.dir ∧ (takeWrite n q a d x s).reads = s.reads ∧
    (takeWrite n q a d x s).writes = s.writes ∧ (takeWrite n q a d x s).ctl = s.ctl ∧
    (takeWrite n q a d x s).port = s.port ∧ (takeWrite n q a d x s).choice = s.choice ∧
    (takeWrite n q a d x s).pending = s.pending := by
  unfold takeWrite
  repeat' split
  all_goals simp

@[simp] theorem responseSent_frame (r : Response) (s : State) :
    (responseSent r s).iface = s.iface ∧ (responseSent r s).sel = s.sel ∧ (responseSent r s).dir = s.dir ∧
    (responseSent r s).peers = s.peers ∧ (responseSent r s).reads = s.reads ∧ (responseSent r s).writes = s.writes ∧
    (responseSent r s).ram = s.ram ∧ (responseSent r s).ctl = s.ctl ∧ (responseSent r s).port = s.port ∧
    (responseSent r s).ev = s.ev ∧ (responseSent r s).choice = s.choice ∧ (responseSent r s).pending = s.pending := by
  unfold responseSent; split <;> simp

@[simp] theorem purgeResponses_frame (n : Station) (s : State) :
    (purgeResponses n s).iface = s.iface ∧ (purgeResponses n s).sel = s.sel ∧ (purgeResponses n s).dir = s.dir ∧
    (purgeResponses n s).peers = s.peers ∧ (purgeResponses n s).reads = s.reads ∧
    (purgeResponses n s).writes = s.writes ∧ (purgeResponses n s).ram = s.ram ∧ (purgeResponses n s).ctl = s.ctl ∧
    (purgeResponses n s).port = s.port ∧ (purgeResponses n s).ev = s.ev ∧ (purgeResponses n s).choice = s.choice ∧
    (purgeResponses n s).pending = s.pending := by
  simp [purgeResponses]

@[simp] theorem emptyResponses_frame (s : State) :
    (emptyResponses s).iface = s.iface ∧ (emptyResponses s).sel = s.sel ∧ (emptyResponses s).dir = s.dir ∧
    (emptyResponses s).peers = s.peers ∧ (emptyResponses s).reads = s.reads ∧ (emptyResponses s).writes = s.writes ∧
    (emptyResponses s).ram = s.ram ∧ (emptyResponses s).ctl = s.ctl ∧ (emptyResponses s).port = s.port ∧
    (emptyResponses s).ev = s.ev ∧ (emptyResponses s).choice = s.choice ∧ (emptyResponses s).pending = s.pending := by
  simp [emptyResponses]

@[simp] theorem hear_frame (n : Station) (s : State) :
    (hear n s).iface = s.iface ∧ (hear n s).sel = s.sel ∧ (hear n s).dir = s.dir ∧ (hear n s).reads = s.reads ∧
    (hear n s).writes = s.writes ∧ (hear n s).resp = s.resp ∧ (hear n s).ram = s.ram ∧ (hear n s).ctl = s.ctl ∧
    (hear n s).port = s.port ∧ (hear n s).ev = s.ev ∧ (hear n s).choice = s.choice ∧ (hear n s).pending = s.pending := by
  unfold hear; split <;> simp

@[simp] theorem takeInterval_frame (n : Station) (x : Byte) (s : State) :
    (takeInterval n x s).iface = s.iface ∧ (takeInterval n x s).sel = s.sel ∧ (takeInterval n x s).dir = s.dir ∧
    (takeInterval n x s).reads = s.reads ∧ (takeInterval n x s).writes = s.writes ∧
    (takeInterval n x s).resp = s.resp ∧ (takeInterval n x s).ram = s.ram ∧ (takeInterval n x s).ctl = s.ctl ∧
    (takeInterval n x s).port = s.port ∧ (takeInterval n x s).ev = s.ev ∧ (takeInterval n x s).choice = s.choice ∧
    (takeInterval n x s).pending = s.pending := by
  unfold takeInterval; split <;> simp

@[simp] theorem takeFresh_frame (n : Station) (s : State) :
    (takeFresh n s).iface = s.iface ∧ (takeFresh n s).sel = s.sel ∧ (takeFresh n s).dir = s.dir ∧
    (takeFresh n s).reads = s.reads ∧ (takeFresh n s).writes = s.writes ∧ (takeFresh n s).resp = s.resp ∧
    (takeFresh n s).ram = s.ram ∧ (takeFresh n s).ctl = s.ctl ∧ (takeFresh n s).port = s.port ∧
    (takeFresh n s).ev = s.ev ∧ (takeFresh n s).choice = s.choice ∧ (takeFresh n s).pending = s.pending := by
  unfold takeFresh; split <;> simp

@[simp] theorem markSilent_frame (n : Station) (s : State) :
    (markSilent n s).iface = s.iface ∧ (markSilent n s).sel = s.sel ∧ (markSilent n s).dir = s.dir ∧
    (markSilent n s).reads = s.reads ∧ (markSilent n s).writes = s.writes ∧ (markSilent n s).resp = s.resp ∧
    (markSilent n s).ram = s.ram ∧ (markSilent n s).ctl = s.ctl ∧ (markSilent n s).port = s.port ∧
    (markSilent n s).ev = s.ev ∧ (markSilent n s).choice = s.choice ∧ (markSilent n s).pending = s.pending := by
  unfold markSilent; split <;> simp

@[simp] theorem agentsLose_frame (n : Station) (s : State) :
    (agentsLose n s).iface = s.iface ∧ (agentsLose n s).dir = s.dir ∧ (agentsLose n s).peers = s.peers ∧
    (agentsLose n s).resp = s.resp ∧ (agentsLose n s).ram = s.ram ∧ (agentsLose n s).ctl = s.ctl ∧
    (agentsLose n s).port = s.port ∧ (agentsLose n s).pending = s.pending := by
  simp only [agentsLose]
  split <;> simp

@[simp] theorem losePeer_frame (n : Station) (s : State) :
    (losePeer n s).iface = s.iface ∧ (losePeer n s).ram = s.ram ∧ (losePeer n s).ctl = s.ctl ∧
    (losePeer n s).port = s.port ∧ (losePeer n s).pending = s.pending := by
  simp [losePeer]

@[simp] theorem takeLeave_frame (n : Station) (s : State) :
    (takeLeave n s).iface = s.iface ∧ (takeLeave n s).ram = s.ram ∧ (takeLeave n s).ctl = s.ctl ∧
    (takeLeave n s).port = s.port ∧ (takeLeave n s).pending = s.pending := by
  unfold takeLeave; split <;> simp

@[simp] theorem clearPeers_frame (s : State) :
    (clearPeers s).iface = s.iface ∧ (clearPeers s).sel = s.sel ∧ (clearPeers s).dir = s.dir ∧
    (clearPeers s).reads = s.reads ∧ (clearPeers s).writes = s.writes ∧ (clearPeers s).resp = s.resp ∧
    (clearPeers s).ram = s.ram ∧ (clearPeers s).ctl = s.ctl ∧ (clearPeers s).port = s.port ∧
    (clearPeers s).ev = s.ev ∧ (clearPeers s).choice = s.choice ∧ (clearPeers s).pending = s.pending := by
  simp [clearPeers]

@[simp] theorem peerEventEnd_frame (l : List PeerRecord) (s : State) :
    (peerEventEnd l s).iface = s.iface ∧ (peerEventEnd l s).sel = s.sel ∧ (peerEventEnd l s).dir = s.dir ∧
    (peerEventEnd l s).reads = s.reads ∧ (peerEventEnd l s).writes = s.writes ∧ (peerEventEnd l s).resp = s.resp ∧
    (peerEventEnd l s).ram = s.ram ∧ (peerEventEnd l s).ctl = s.ctl ∧ (peerEventEnd l s).port = s.port ∧
    (peerEventEnd l s).choice = s.choice ∧ (peerEventEnd l s).pending = s.pending := by
  unfold peerEventEnd; split <;> simp


end Sys2Proof.Machine
end

