-- ==== Sys2Proof/Laws/Control.lean ====
section
/-! SUPPORT. What each operation of station control and the selector leaves unchanged, and what the end of an event can
change. -/

namespace Sys2Proof.Machine

@[simp] theorem clearSelector_frame (s : State) :
    (clearSelector s).iface = s.iface ∧ (clearSelector s).dir = s.dir ∧ (clearSelector s).peers = s.peers ∧
    (clearSelector s).reads = s.reads ∧ (clearSelector s).writes = s.writes ∧ (clearSelector s).resp = s.resp ∧
    (clearSelector s).ram = s.ram ∧ (clearSelector s).ctl = s.ctl ∧ (clearSelector s).port = s.port ∧
    (clearSelector s).ev = s.ev ∧ (clearSelector s).choice = s.choice ∧ (clearSelector s).pending = s.pending := by
  simp [clearSelector]

@[simp] theorem clearConsecutive_frame (s : State) :
    (clearConsecutive s).sel = s.sel ∧ (clearConsecutive s).dir = s.dir ∧ (clearConsecutive s).peers = s.peers ∧
    (clearConsecutive s).reads = s.reads ∧ (clearConsecutive s).writes = s.writes ∧
    (clearConsecutive s).resp = s.resp ∧ (clearConsecutive s).ram = s.ram ∧ (clearConsecutive s).ctl = s.ctl ∧
    (clearConsecutive s).port = s.port ∧ (clearConsecutive s).ev = s.ev ∧ (clearConsecutive s).choice = s.choice ∧
    (clearConsecutive s).pending = s.pending := by
  simp [clearConsecutive]

@[simp] theorem stopControlTimers_frame (s : State) :
    (stopControlTimers s).iface = s.iface ∧ (stopControlTimers s).sel = s.sel ∧ (stopControlTimers s).dir = s.dir ∧
    (stopControlTimers s).peers = s.peers ∧ (stopControlTimers s).reads = s.reads ∧
    (stopControlTimers s).writes = s.writes ∧ (stopControlTimers s).resp = s.resp ∧
    (stopControlTimers s).ram = s.ram ∧ (stopControlTimers s).port = s.port ∧ (stopControlTimers s).ev = s.ev ∧
    (stopControlTimers s).choice = s.choice ∧ (stopControlTimers s).pending = s.pending := by
  simp [stopControlTimers]

@[simp] theorem purgeAll_frame (s : State) :
    (purgeAll s).ram = s.ram ∧ (purgeAll s).port = s.port ∧ (purgeAll s).choice = s.choice ∧
    (purgeAll s).pending = s.pending := by
  simp [purgeAll]

@[simp] theorem cut_frame (s : State) :
    (cut s).sel = s.sel ∧ (cut s).dir = s.dir ∧ (cut s).peers = s.peers ∧ (cut s).reads = s.reads ∧
    (cut s).writes = s.writes ∧ (cut s).resp = s.resp ∧ (cut s).ram = s.ram ∧ (cut s).ctl = s.ctl ∧
    (cut s).port = s.port ∧ (cut s).ev = s.ev ∧ (cut s).choice = s.choice ∧ (cut s).pending = s.pending := by
  simp [cut]

@[simp] theorem setStopCause_frame (x : Option StopCause) (s : State) :
    (setStopCause x s).iface = s.iface ∧ (setStopCause x s).sel = s.sel ∧ (setStopCause x s).dir = s.dir ∧
    (setStopCause x s).peers = s.peers ∧ (setStopCause x s).reads = s.reads ∧ (setStopCause x s).writes = s.writes ∧
    (setStopCause x s).resp = s.resp ∧ (setStopCause x s).ram = s.ram ∧ (setStopCause x s).port = s.port ∧
    (setStopCause x s).ev = s.ev ∧ (setStopCause x s).choice = s.choice ∧ (setStopCause x s).pending = s.pending := by
  simp [setStopCause]

@[simp] theorem enterOffline_frame (s : State) :
    (enterOffline s).ram = s.ram ∧ (enterOffline s).port = s.port ∧ (enterOffline s).choice = s.choice ∧
    (enterOffline s).pending = s.pending := by
  unfold enterOffline; split <;> simp

@[simp] theorem enterStopped_frame (x : StopCause) (s : State) :
    (enterStopped x s).ram = s.ram ∧ (enterStopped x s).port = s.port ∧ (enterStopped x s).choice = s.choice ∧
    (enterStopped x s).pending = s.pending := by
  simp [enterStopped]

@[simp] theorem takeClash_frame (s : State) :
    (takeClash s).ram = s.ram ∧ (takeClash s).port = s.port ∧ (takeClash s).choice = s.choice ∧
    (takeClash s).pending = s.pending := by
  unfold takeClash; split <;> simp

@[simp] theorem drainCheck_frame (s : State) :
    (drainCheck s).iface = s.iface ∧ (drainCheck s).dir = s.dir ∧ (drainCheck s).peers = s.peers ∧
    (drainCheck s).reads = s.reads ∧ (drainCheck s).writes = s.writes ∧ (drainCheck s).resp = s.resp ∧
    (drainCheck s).ram = s.ram ∧ (drainCheck s).port = s.port ∧ (drainCheck s).ev = s.ev ∧
    (drainCheck s).choice = s.choice ∧ (drainCheck s).pending = s.pending := by
  unfold drainCheck; split <;> simp

@[simp] theorem eventEnd_frame (b : State) (s : State) :
    (eventEnd b s).iface = s.iface ∧ (eventEnd b s).reads = s.reads ∧ (eventEnd b s).writes = s.writes ∧
    (eventEnd b s).resp = s.resp ∧ (eventEnd b s).ram = s.ram ∧ (eventEnd b s).port = s.port ∧
    (eventEnd b s).choice = s.choice ∧ (eventEnd b s).pending = s.pending := by
  simp [eventEnd]

@[simp] theorem setCommandStatus_frame (c : Byte) (r : RefusalCode) (s : State) :
    (setCommandStatus c r s).iface = s.iface ∧ (setCommandStatus c r s).sel = s.sel ∧
    (setCommandStatus c r s).dir = s.dir ∧ (setCommandStatus c r s).peers = s.peers ∧
    (setCommandStatus c r s).reads = s.reads ∧ (setCommandStatus c r s).writes = s.writes ∧
    (setCommandStatus c r s).resp = s.resp ∧ (setCommandStatus c r s).ram = s.ram ∧
    (setCommandStatus c r s).port = s.port ∧ (setCommandStatus c r s).ev = s.ev ∧
    (setCommandStatus c r s).choice = s.choice ∧ (setCommandStatus c r s).pending = s.pending := by
  simp [setCommandStatus]

@[simp] theorem heartbeatSent_frame (s : State) :
    (heartbeatSent s).iface = s.iface ∧ (heartbeatSent s).dir = s.dir ∧ (heartbeatSent s).peers = s.peers ∧
    (heartbeatSent s).reads = s.reads ∧ (heartbeatSent s).writes = s.writes ∧ (heartbeatSent s).resp = s.resp ∧
    (heartbeatSent s).ram = s.ram ∧ (heartbeatSent s).ctl = s.ctl ∧ (heartbeatSent s).port = s.port ∧
    (heartbeatSent s).ev = s.ev ∧ (heartbeatSent s).choice = s.choice ∧ (heartbeatSent s).pending = s.pending := by
  simp [heartbeatSent]

@[simp] theorem unreadyItem_frame (x : ReadyItem) (s : State) :
    (unreadyItem x s).iface = s.iface ∧ (unreadyItem x s).dir = s.dir ∧ (unreadyItem x s).peers = s.peers ∧
    (unreadyItem x s).reads = s.reads ∧ (unreadyItem x s).writes = s.writes ∧ (unreadyItem x s).resp = s.resp ∧
    (unreadyItem x s).ram = s.ram ∧ (unreadyItem x s).ctl = s.ctl ∧ (unreadyItem x s).port = s.port ∧
    (unreadyItem x s).ev = s.ev ∧ (unreadyItem x s).choice = s.choice ∧ (unreadyItem x s).pending = s.pending := by
  simp [unreadyItem]

@[simp] theorem startHeartbeat_frame (s : State) :
    (startHeartbeat s).iface = s.iface ∧ (startHeartbeat s).dir = s.dir ∧ (startHeartbeat s).peers = s.peers ∧
    (startHeartbeat s).reads = s.reads ∧ (startHeartbeat s).writes = s.writes ∧ (startHeartbeat s).resp = s.resp ∧
    (startHeartbeat s).ram = s.ram ∧ (startHeartbeat s).ctl = s.ctl ∧ (startHeartbeat s).port = s.port ∧
    (startHeartbeat s).ev = s.ev ∧ (startHeartbeat s).choice = s.choice ∧ (startHeartbeat s).pending = s.pending := by
  simp [startHeartbeat]

@[simp] theorem freshSent_frame (s : State) :
    (freshSent s).iface = s.iface ∧ (freshSent s).dir = s.dir ∧ (freshSent s).peers = s.peers ∧
    (freshSent s).reads = s.reads ∧ (freshSent s).writes = s.writes ∧ (freshSent s).resp = s.resp ∧
    (freshSent s).ram = s.ram ∧ (freshSent s).port = s.port ∧ (freshSent s).choice = s.choice ∧
    (freshSent s).pending = s.pending := by
  unfold freshSent; split <;> simp

@[simp] theorem renewAnnounce_frame (l : List RegionGroup) (s : State) :
    (renewAnnounce l s).iface = s.iface ∧ (renewAnnounce l s).dir = s.dir ∧ (renewAnnounce l s).peers = s.peers ∧
    (renewAnnounce l s).reads = s.reads ∧ (renewAnnounce l s).writes = s.writes ∧ (renewAnnounce l s).resp = s.resp ∧
    (renewAnnounce l s).ram = s.ram ∧ (renewAnnounce l s).ctl = s.ctl ∧ (renewAnnounce l s).port = s.port ∧
    (renewAnnounce l s).ev = s.ev ∧ (renewAnnounce l s).choice = s.choice ∧ (renewAnnounce l s).pending = s.pending := by
  simp [renewAnnounce]

@[simp] theorem announceSent_frame (x : Bool) (l : List RegionGroup) (s : State) :
    (announceSent x l s).iface = s.iface ∧ (announceSent x l s).dir = s.dir ∧ (announceSent x l s).peers = s.peers ∧
    (announceSent x l s).reads = s.reads ∧ (announceSent x l s).writes = s.writes ∧
    (announceSent x l s).resp = s.resp ∧ (announceSent x l s).ram = s.ram ∧ (announceSent x l s).port = s.port ∧
    (announceSent x l s).choice = s.choice ∧ (announceSent x l s).pending = s.pending := by
  unfold announceSent
  split <;> simp

@[simp] theorem leaveSent_frame (s : State) :
    (leaveSent s).ram = s.ram ∧ (leaveSent s).port = s.port ∧ (leaveSent s).choice = s.choice ∧
    (leaveSent s).pending = s.pending := by
  simp [leaveSent]

@[simp] theorem itemSent_frame (x : Offered) (s : State) :
    (itemSent x s).ram = s.ram ∧ (itemSent x s).port = s.port ∧ (itemSent x s).choice = s.choice ∧
    (itemSent x s).pending = s.pending := by
  unfold itemSent
  repeat' split
  all_goals simp

@[simp] theorem setTx_frame (t : Option Transmission) (s : State) :
    (setTx t s).sel = s.sel ∧ (setTx t s).dir = s.dir ∧ (setTx t s).peers = s.peers ∧ (setTx t s).reads = s.reads ∧
    (setTx t s).writes = s.writes ∧ (setTx t s).resp = s.resp ∧ (setTx t s).ram = s.ram ∧ (setTx t s).ctl = s.ctl ∧
    (setTx t s).port = s.port ∧ (setTx t s).ev = s.ev ∧ (setTx t s).choice = s.choice ∧
    (setTx t s).pending = s.pending := by
  simp [setTx]

@[simp] theorem receiverLost_frame (s : State) :
    (receiverLost s).sel = s.sel ∧ (receiverLost s).dir = s.dir ∧ (receiverLost s).peers = s.peers ∧
    (receiverLost s).reads = s.reads ∧ (receiverLost s).writes = s.writes ∧ (receiverLost s).resp = s.resp ∧
    (receiverLost s).ram = s.ram ∧ (receiverLost s).ctl = s.ctl ∧ (receiverLost s).port = s.port ∧
    (receiverLost s).ev = s.ev ∧ (receiverLost s).choice = s.choice ∧ (receiverLost s).pending = s.pending := by
  simp [receiverLost]

@[simp] theorem startReceiving_frame (x : Bool) (s : State) :
    (startReceiving x s).sel = s.sel ∧ (startReceiving x s).dir = s.dir ∧ (startReceiving x s).peers = s.peers ∧
    (startReceiving x s).reads = s.reads ∧ (startReceiving x s).writes = s.writes ∧
    (startReceiving x s).resp = s.resp ∧ (startReceiving x s).ram = s.ram ∧ (startReceiving x s).ctl = s.ctl ∧
    (startReceiving x s).port = s.port ∧ (startReceiving x s).ev = s.ev ∧ (startReceiving x s).choice = s.choice ∧
    (startReceiving x s).pending = s.pending := by
  simp [startReceiving]


end Sys2Proof.Machine
end

