-- ==== Sys2Proof/Laws/Kept.lean ====
section
/-! SUPPORT. Every invariant of Safety.lean can be decided for a given state, so that a test can show a state well kept. -/

namespace Sys2Proof.Machine

def decRequestsEmpty (s : State) : Decidable (requestsEmpty s) := by unfold requestsEmpty; infer_instance

def decStationEmpty (s : State) : Decidable (stationEmpty s) := by unfold stationEmpty; infer_instance

def decEntryShape (e : DirEntry) : Decidable (entryShape e) := by unfold entryShape; infer_instance

def decAnswerShape (x : Answer) : Decidable (answerShape x) := by cases x <;> (unfold answerShape; infer_instance)

def decFullSized (s : State) : Decidable (fullSized s) := by unfold fullSized; infer_instance

def decWithinCapacity (s : State) : Decidable (withinCapacity s) := by unfold withinCapacity; infer_instance

def decRamCanonical (s : State) : Decidable (ramCanonical s) := by unfold ramCanonical; infer_instance

def decConfigJudged (s : State) : Decidable (configJudged s) := by unfold configJudged; infer_instance

def decStopCauseRight (s : State) : Decidable (stopCauseRight s) := by unfold stopCauseRight; infer_instance

def decEmptyWhereItMust (s : State) : Decidable (emptyWhereItMust s) := by have := decRequestsEmpty s; have := decStationEmpty s; unfold emptyWhereItMust; infer_instance

def decSilentOffSpan (s : State) : Decidable (silentOffSpan s) := by unfold silentOffSpan; infer_instance

def decDrainSettled (s : State) : Decidable (drainSettled s) := by unfold drainSettled; infer_instance

def decMarksRight (s : State) : Decidable (marksRight s) := by unfold marksRight; infer_instance

def decReceiverRight (s : State) : Decidable (receiverRight s) := by unfold receiverRight; infer_instance

def decOwnFrameRight (s : State) : Decidable (ownFrameRight s) := by unfold ownFrameRight; infer_instance

def decDirectoryOrdered (s : State) : Decidable (directoryOrdered s) := by have := decEntryShape; unfold directoryOrdered; infer_instance

def decOwnRegionsRight (s : State) : Decidable (ownRegionsRight s) := by unfold ownRegionsRight; infer_instance

def decOwnRecordUnused (s : State) : Decidable (ownRecordUnused s) := by unfold ownRecordUnused; infer_instance

def decOwnersHeard (s : State) : Decidable (ownersHeard s) := by unfold ownersHeard; infer_instance

def decRequestsHeard (s : State) : Decidable (requestsHeard s) := by unfold requestsHeard; infer_instance

def decLiveReadsApart (s : State) : Decidable (liveReadsApart s) := by unfold liveReadsApart; infer_instance

def decRanksRight (s : State) : Decidable (ranksRight s) := by unfold ranksRight; infer_instance

def decTimersRight (s : State) : Decidable (timersRight s) := by unfold timersRight; infer_instance

def decBarriersRight (s : State) : Decidable (barriersRight s) := by unfold barriersRight; infer_instance

def decOnlyHeadMoves (s : State) : Decidable (onlyHeadMoves s) := by unfold onlyHeadMoves; infer_instance

def decReadyListRight (s : State) : Decidable (readyListRight s) := by unfold readyListRight; infer_instance

def decAttemptsBounded (s : State) : Decidable (attemptsBounded s) := by unfold attemptsBounded; infer_instance

def decEachWithin (t : Option Nat) (n : Nat) : Decidable (∀ k, t = some k → k ≤ n) :=
  match t with
  | none => isTrue (fun _ h => nomatch h)
  | some k => decidable_of_iff (k ≤ n) ⟨fun h _ e => (Option.some.inj e) ▸ h, fun h => h k rfl⟩

def decTimersBounded (s : State) : Decidable (timersBounded s) := by have := decEachWithin; unfold timersBounded; infer_instance

def decAnswersApart (s : State) : Decidable (answersApart s) := by unfold answersApart; infer_instance

def decWellShaped (s : State) : Decidable (wellShaped s) := by have := decAnswerShape; unfold wellShaped; infer_instance

/-- Every invariant holds. -/
def keptCheck (s : State) : Bool :=
  (decFullSized s).decide &&
  (decWithinCapacity s).decide &&
  (decRamCanonical s).decide &&
  (decConfigJudged s).decide &&
  (decStopCauseRight s).decide &&
  (decEmptyWhereItMust s).decide &&
  (decSilentOffSpan s).decide &&
  (decDrainSettled s).decide &&
  (decMarksRight s).decide &&
  (decReceiverRight s).decide &&
  (decOwnFrameRight s).decide &&
  (decDirectoryOrdered s).decide &&
  (decOwnRegionsRight s).decide &&
  (decOwnRecordUnused s).decide &&
  (decOwnersHeard s).decide &&
  (decRequestsHeard s).decide &&
  (decLiveReadsApart s).decide &&
  (decRanksRight s).decide &&
  (decTimersRight s).decide &&
  (decBarriersRight s).decide &&
  (decOnlyHeadMoves s).decide &&
  (decReadyListRight s).decide &&
  (decAttemptsBounded s).decide &&
  (decTimersBounded s).decide &&
  (decAnswersApart s).decide &&
  (decWellShaped s).decide

theorem wellKept_of_check (s : State) (h : keptCheck s = true) : WellKept s := by
  simp only [keptCheck, Bool.and_eq_true] at h
  obtain ⟨⟨⟨⟨⟨⟨⟨⟨⟨⟨⟨⟨⟨⟨⟨⟨⟨⟨⟨⟨⟨⟨⟨⟨⟨h1, h2⟩, h3⟩, h4⟩, h5⟩, h6⟩, h7⟩, h8⟩, h9⟩, h10⟩, h11⟩, h12⟩, h13⟩, h14⟩, h15⟩, h16⟩, h17⟩, h18⟩, h19⟩, h20⟩, h21⟩, h22⟩, h23⟩, h24⟩, h25⟩, h26⟩ := h
  exact
    { sized := @of_decide_eq_true _ (decFullSized s) h1
      capacity := @of_decide_eq_true _ (decWithinCapacity s) h2
      ram := @of_decide_eq_true _ (decRamCanonical s) h3
      config := @of_decide_eq_true _ (decConfigJudged s) h4
      stopCause := @of_decide_eq_true _ (decStopCauseRight s) h5
      empty := @of_decide_eq_true _ (decEmptyWhereItMust s) h6
      silent := @of_decide_eq_true _ (decSilentOffSpan s) h7
      drain := @of_decide_eq_true _ (decDrainSettled s) h8
      marks := @of_decide_eq_true _ (decMarksRight s) h9
      receiver := @of_decide_eq_true _ (decReceiverRight s) h10
      ownFrame := @of_decide_eq_true _ (decOwnFrameRight s) h11
      directory := @of_decide_eq_true _ (decDirectoryOrdered s) h12
      ownRegions := @of_decide_eq_true _ (decOwnRegionsRight s) h13
      ownRecord := @of_decide_eq_true _ (decOwnRecordUnused s) h14
      owners := @of_decide_eq_true _ (decOwnersHeard s) h15
      requests := @of_decide_eq_true _ (decRequestsHeard s) h16
      apart := @of_decide_eq_true _ (decLiveReadsApart s) h17
      ranks := @of_decide_eq_true _ (decRanksRight s) h18
      timers := @of_decide_eq_true _ (decTimersRight s) h19
      barriers := @of_decide_eq_true _ (decBarriersRight s) h20
      head := @of_decide_eq_true _ (decOnlyHeadMoves s) h21
      ready := @of_decide_eq_true _ (decReadyListRight s) h22
      attempts := @of_decide_eq_true _ (decAttemptsBounded s) h23
      bounded := @of_decide_eq_true _ (decTimersBounded s) h24
      answers := @of_decide_eq_true _ (decAnswersApart s) h25
      shapes := @of_decide_eq_true _ (decWellShaped s) h26 }

end Sys2Proof.Machine
end

