-- ==== Sys2Proof/Laws/Memory.lean ====
section
/-! SUPPORT. Shared RAM as a list of bytes: what a write does to every read, and that every write keeps the canonical form. -/

namespace Sys2Proof.Machine

theorem memRead_below : ∀ (m : List (Nat × Byte)) (lo a : Nat), memWfFrom lo m = true → a < lo → memRead m a = clearByte
  | [], _, _, _, _ => rfl
  | (k, v) :: rest, lo, a, h, hlt => by
    simp only [memWfFrom, Bool.and_eq_true, decide_eq_true_eq] at h
    have hk : k ≠ a := by omega
    simpa [memRead, hk] using memRead_below rest (k + 1) a h.2 (by omega)

/-- A byte reads as written; every other byte reads as before. -/
theorem memRead_memWrite :
    ∀ (m : List (Nat × Byte)) (lo a x : Nat) (b : Byte), memWfFrom lo m = true →
      memRead (memWrite m a b) x = if x = a then b else memRead m x
  | [], _, a, x, b, _ => by
    by_cases hb : b = clearByte <;> by_cases hx : x = a
    · simp [memWrite, memRead, hb, hx]
    · simp [memWrite, memRead, hb, hx]
    · simp [memWrite, memRead, hb, hx]
    · simp [memWrite, memRead, hb, hx, Ne.symm hx]
  | (k, v) :: rest, lo, a, x, b, h => by
    simp only [memWfFrom, Bool.and_eq_true, decide_eq_true_eq] at h
    have below : ∀ y, y ≤ k → memRead rest y = clearByte := fun y hy => memRead_below rest (k + 1) y h.2 (by omega)
    by_cases h1 : a < k
    · have hak : a ≠ k := by omega
      by_cases hb : b = clearByte <;> by_cases hx : x = a
      · subst hx
        simp [memWrite, memRead, h1, hb, hak.symm, below x (by omega)]
      · simp [memWrite, memRead, h1, hb, hx]
      · simp [memWrite, memRead, h1, hb, hx]
      · simp [memWrite, memRead, h1, hb, hx, Ne.symm hx]
    · by_cases h2 : a = k
      · subst h2
        by_cases hb : b = clearByte <;> by_cases hx : x = a
        · subst hx
          simp [memWrite, hb, below x (by omega)]
        · simp [memWrite, memRead, hb, hx, Ne.symm hx]
        · simp [memWrite, memRead, hb, hx]
        · simp [memWrite, memRead, hb, hx, Ne.symm hx]
      · have ih := memRead_memWrite rest (k + 1) a x b h.2
        by_cases hx : x = a
        · subst hx
          simp [memWrite, memRead, h1, h2, Ne.symm h2, ih]
        · simp [memWrite, memRead, h1, h2, hx, ih]

/-- A write inside shared RAM keeps the canonical form. -/
theorem memWfFrom_memWrite :
    ∀ (m : List (Nat × Byte)) (lo a : Nat) (b : Byte), memWfFrom lo m = true → lo ≤ a → a < Config.ramSize →
      memWfFrom lo (memWrite m a b) = true
  | [], _, a, b, _, h1, h2 => by
    by_cases hb : b = clearByte
    · simp [memWrite, hb, memWfFrom]
    · simp [memWrite, hb, memWfFrom, h1, h2]
  | (k, v) :: rest, lo, a, b, h, h1, h2 => by
    have h' := h
    simp only [memWfFrom, Bool.and_eq_true, decide_eq_true_eq] at h
    by_cases h3 : a < k
    · by_cases hb : b = clearByte
      · simpa [memWrite, h3, hb] using h'
      · simp [memWrite, h3, hb, memWfFrom, h1, h2, h.1.1.2, h.1.2, h.2]
    · by_cases h4 : a = k
      · subst h4
        by_cases hb : b = clearByte
        · simp only [memWrite, hb, Nat.lt_irrefl, if_false, if_true]
          exact weaken rest (a + 1) lo h.2 (by omega)
        · simp [memWrite, hb, memWfFrom, h1, h2, h.2]
      · have ih := memWfFrom_memWrite rest (k + 1) a b h.2 (by omega) h2
        simp [memWrite, h3, h4, memWfFrom, ih, h.1.1.1, h.1.1.2, h.1.2]
where
  weaken : ∀ (m : List (Nat × Byte)) (hi lo : Nat), memWfFrom hi m = true → lo ≤ hi → memWfFrom lo m = true
    | [], _, _, _, _ => rfl
    | (k, v) :: rest, hi, lo, h, hl => by
      simp only [memWfFrom, Bool.and_eq_true, decide_eq_true_eq] at h ⊢
      exact ⟨⟨⟨by omega, h.1.1.2⟩, h.1.2⟩, h.2⟩

theorem memWf_memWriteBytes (bytes : List Byte) :
    ∀ (m : List (Nat × Byte)) (a : Nat), memWf m = true → a + bytes.length ≤ Config.ramSize →
      memWf (memWriteBytes m a bytes) = true := by
  induction bytes with
  | nil => intro m a h _; exact h
  | cons b rest ih =>
    intro m a h hl
    simp only [List.length_cons] at hl
    exact ih _ _ (memWfFrom_memWrite m 0 a b h (by omega) (by omega)) (by omega)

/-- The bytes written read back, each at its place; every other byte reads as before. -/
theorem memRead_memWriteBytes (bytes : List Byte) :
    ∀ (m : List (Nat × Byte)) (a x : Nat), memWf m = true → a + bytes.length ≤ Config.ramSize →
      memRead (memWriteBytes m a bytes) x =
        if a ≤ x ∧ x < a + bytes.length then bytes.getD (x - a) 0 else memRead m x := by
  induction bytes with
  | nil =>
    intro m a x _ _
    have h : ¬(a ≤ x ∧ x < a + 0) := by omega
    simp only [memWriteBytes, List.length_nil, h, if_false]
  | cons b rest ih =>
    intro m a x h hl
    simp only [List.length_cons] at hl
    have hw := memWfFrom_memWrite m 0 a b h (by omega) (by omega)
    rw [memWriteBytes, ih _ _ _ hw (by omega), memRead_memWrite m 0 a x b h]
    by_cases h1 : x = a
    · have h2 : ¬(a + 1 ≤ x ∧ x < a + 1 + rest.length) := by omega
      have h3 : a ≤ x ∧ x < a + (rest.length + 1) := by omega
      simp [h1]
    · by_cases h2 : a + 1 ≤ x ∧ x < a + 1 + rest.length
      · have h3 : a ≤ x ∧ x < a + (rest.length + 1) := by omega
        have h4 : x - a = (x - (a + 1)) + 1 := by omega
        simp only [h2, List.length_cons, h3, h4, and_self, if_true, List.getD_cons_succ]
      · have h3 : ¬(a ≤ x ∧ x < a + (rest.length + 1)) := by omega
        simp only [h2, List.length_cons, h3, h1, if_false]

/-- Cleared shared RAM is in canonical form. -/
theorem memWf_nil : memWf [] = true := rfl

end Sys2Proof.Machine
end

