-- ==== Sys2Proof/Laws/Results.lean ====
section
/-! SUPPORT. Each shared operation as the next state it gives, in the shapes of Safety.lean; what an event and a host cycle can
do, once each. -/

namespace Sys2Proof.Machine

variable (s : State)

/-! ## The event unit -/

theorem raise_eq (f : EventFlag) : raise f s = withFlag f s := rfl

theorem count_eq (k : Counter) (n : Nat) : count k n s = withCount k n s := rfl

theorem handOn_readFault_eq (e : ReadEntry) (r : FaultReason) :
    handOn (readFault e r) s = withFault .read r e.addr e.dest s := rfl

theorem handOn_writeFault_eq (w : PostedWrite) (r : FaultReason) :
    handOn (writeFault w r) s = withFault .write r w.addr w.dest s := rfl

theorem refuseAccess_eq (op : FaultOp) (r : FaultReason) (a : GlobalAddr) (n : Station) :
    refuseAccess op r a n s = { reply := .fault, data := 0, next := withFault op r a n s } := rfl

/-- The fault record after a fault: filled if it was empty, otherwise the same with its overflow mark. -/
theorem recordFault_eq (x : FaultReport) (r : Option FaultRecord) :
    recordFault x r = some (r.elim { report := x, overflow := false } (fun old => { old with overflow := true })) := by
  cases r <;> rfl

/-! ## The ready list, the tables and the queues -/

theorem appendReady_eq (x : ReadyItem) : appendReady x s = withReady (s.sel.ready ++ [x]) s := rfl

theorem unreadyRead_eq (i : ReadIndex) :
    unreadyRead i s = withReady (s.sel.ready.filter (fun x => !isReadItem i x)) s := rfl

theorem unreadyWrite_eq : unreadyWrite s = withReady (s.sel.ready.filter (fun x => !isWriteItem x)) s := rfl

theorem setRead_eq (i : ReadIndex) (e : ReadEntry) : setRead i e s = withRead i e s := rfl

theorem freeRead_eq (i : ReadIndex) : freeRead i s = withFree i s := rfl

theorem completeRead_eq (i : ReadIndex) (o : ReadOutcome) (data : List Byte) :
    completeRead i o data s = if (readAt i s).overtaken = true then withFree i s else withComplete i o data s := rfl

theorem failRead_eq (i : ReadIndex) (r : FaultReason) :
    failRead r s i =
      if (readAt i s).overtaken = true then withFree i s
      else withFault .read r (readAt i s).addr (readAt i s).dest (withComplete i (.fault r) [] s) := by
  unfold failRead completeRead
  split
  · rfl
  · rfl

theorem setQueue_eq (q : List PostedWrite) : setQueue q s = withQueue q s := rfl

theorem respond_eq (n : Station) (tag : Byte) (x : Answer) :
    respond n tag x s = withResponse n tag x s := rfl

/-- A sent response takes the very entry that was offered, and leaves the queue as it was where that one has gone. -/
theorem responseSent_eq (r : Response) :
    responseSent r s =
      if s.resp.responses.head? = some r then { s with resp := { s.resp with responses := s.resp.responses.tail } } else s := rfl

/-- An answer appended keeps the entries told apart. -/
theorem answersApart_respond (n : Station) (tag : Byte) (x : Answer) (h : answersApart s) : answersApart (respond n tag x s) := by
  obtain ⟨hp, hb, ht⟩ := h
  refine ⟨List.pairwise_append.mpr ⟨hp, List.pairwise_singleton _ _, ?_⟩, ?_, ?_⟩
  · intro q hq r hr
    rw [List.mem_singleton.mp hr]
    exact hb q hq
  · intro q hq
    obtain hq | hq := List.mem_append.mp hq
    · exact Nat.lt_succ_of_lt (hb q hq)
    · rw [List.mem_singleton.mp hq]
      exact Nat.lt_succ_self _
  · intro t htx r hr
    obtain ⟨hr', hq'⟩ := ht t htx r hr
    refine ⟨Nat.lt_succ_of_lt hr', fun q hq => ?_⟩
    obtain hq | hq := List.mem_append.mp hq
    · exact hq' q hq
    · rw [List.mem_singleton.mp hq]
      exact ⟨Nat.le_of_lt hr', fun e => absurd e (Nat.ne_of_gt hr')⟩

/-- A purge of answers keeps the entries left told apart. -/
theorem answersApart_purge (n : Station) (h : answersApart s) : answersApart (purgeResponses n s) := by
  obtain ⟨hp, hb, ht⟩ := h
  refine ⟨hp.filter _, fun q hq => hb q (List.mem_filter.mp hq).1, fun t htx r hr => ?_⟩
  obtain ⟨hr', hq'⟩ := ht t htx r hr
  exact ⟨hr', fun q hq => hq' q (List.mem_filter.mp hq).1⟩

/-! ## Reading back what was set -/

theorem readAt_setRead_self (i : ReadIndex) (e : ReadEntry) (h : s.reads.entries.length = Config.readEntries) :
    readAt i (setRead i e s) = e := by
  have hi : i.toNat < s.reads.entries.length := by rw [h]; exact i.isLt
  simp [readAt, setRead, hi]

theorem readAt_setRead_other (i j : ReadIndex) (e : ReadEntry) (h : j ≠ i) : readAt j (setRead i e s) = readAt j s := by
  have hn : i.toNat ≠ j.toNat := fun hh => h (BitVec.eq_of_toNat_eq hh.symm)
  simp [readAt, setRead, List.getElem?_set_ne hn]

theorem peerOf_setPeer_self (n : Station) (r : PeerRecord) (hv : validStation n = true)
    (h : s.peers.length = Config.peerRecords) : peerOf n (setPeer n r s) = r := by
  have hn : n.toNat - 1 < s.peers.length := by
    have h0 : n ≠ 0 ∧ n ≠ 31 := by simpa [validStation, and_comm] using hv
    have h1 : n.toNat ≠ 31 := fun hh => h0.2 (BitVec.eq_of_toNat_eq hh)
    have := n.isLt
    rw [h]
    show n.toNat - 1 < 30
    omega
  simp [peerOf, setPeer, hv, hn]

theorem peerOf_setPeer_other (m n : Station) (r : PeerRecord) (hmn : m ≠ n) : peerOf m (setPeer n r s) = peerOf m s := by
  by_cases hm : validStation m = true <;> by_cases hv : validStation n = true
  · have h0 : m ≠ 0 := fun hh => by subst hh; simp [validStation] at hm
    have h1 : n ≠ 0 := fun hh => by subst hh; simp [validStation] at hv
    have h2 : m.toNat ≠ 0 := fun hh => h0 (BitVec.eq_of_toNat_eq hh)
    have h3 : n.toNat ≠ 0 := fun hh => h1 (BitVec.eq_of_toNat_eq hh)
    have h4 : n.toNat ≠ m.toNat := fun hh => hmn (BitVec.eq_of_toNat_eq hh.symm)
    have hne : n.toNat - 1 ≠ m.toNat - 1 := by omega
    simp [peerOf, setPeer, hm, hv, List.getElem?_set_ne hne]
  · simp [peerOf, setPeer, hv]
  · simp [peerOf, hm]
  · simp [peerOf, hm]

/-! ## Events -/

/-- An event of the station: it takes place exactly while nRST is high and it arises; otherwise nothing changes. -/
theorem stationEvent_eq (arises : State → Bool) (f : State → State) :
    stationEvent arises f s =
      .next (if s.port.resetLow = false ∧ arises s = true then event f s else s) := by
  unfold stationEvent
  cases s.port.resetLow <;> simp

/-- An event of the line: it waits for a frame that has ended to be taken. -/
theorem lineEvent_eq (arises : State → Bool) (f : State → State) :
    lineEvent arises f s =
      .next (if s.port.resetLow = false ∧ s.iface.untaken = false ∧ arises s = true then event f s else s) := by
  unfold lineEvent
  rw [stationEvent_eq]
  cases s.iface.untaken <;> simp

/-- Taking a frame changes the interface alone. -/
theorem frameTaken_eq (bytes : List Byte) : frameTaken bytes s = withFrame bytes s := by
  unfold frameTaken withFrame
  cases h : s.iface.tx <;> simp [h, State.setIface, Config.frameBufferSize]

/-- An idle step changes the interface alone, and nothing while nRST is low, while a frame waits to be taken, and while the station
sends nothing. -/
theorem idleStep_eq :
    ∃ x, idleStep s = s.setIface x ∧
      (s.port.resetLow = true ∨ s.iface.untaken = true ∨ s.iface.tx = none → x = s.iface) := by
  unfold idleStep
  split
  · exact ⟨s.iface, rfl, fun _ => rfl⟩
  · next h =>
    split
    · next tr ht =>
      refine ⟨_, rfl, fun hx => ?_⟩
      rcases hx with hx | hx | hx <;> simp_all
    · exact ⟨s.iface, rfl, fun _ => rfl⟩

/-- The end-of-event comparison of the directory (R20). -/
theorem directoryEventEnd_eq (before : List DirEntry) : directoryEventEnd before s = withContentMarked before s := rfl

theorem refuseConflict_eq : refuseConflict s = withConflict s := rfl

theorem requestAnnounce_eq : requestAnnounce s = withAnnounceAsked s := by
  unfold requestAnnounce withAnnounceAsked State.setSel
  split <;> simp_all

theorem peerEventEnd_of_same (l : List PeerRecord) (t : State) (h : t.peers.map (·.presence) = l.map (·.presence)) :
    peerEventEnd l t = t := by
  have same : ∀ (x y : List PeerRecord), y.map (·.presence) = x.map (·.presence) →
      (List.zipWith presenceMoved x y).any id = false := by
    intro x
    induction x with
    | nil => intro y _; simp
    | cons a x ih =>
      intro y hy
      cases y with
      | nil => simp
      | cons b y =>
        simp only [List.map_cons, List.cons.injEq] at hy
        simp [presenceMoved, hy.1, ih y hy.2]
  simp [peerEventEnd, same l t.peers h]

theorem drainCheck_of_settled (t : State) (h : drainSettled t) : drainCheck t = t := by
  unfold drainCheck
  split
  · next hc =>
    simp only [Bool.and_eq_true, decide_eq_true_eq] at hc
    have h' := h (by simpa using hc.1) hc.2
    rcases t with ⟨_, ⟨_, _, _, _, _⟩, _, _, _, _, _, _, ⟨_, _, _, _, _, _, _⟩, _, _, _, _⟩
    simp only at h'
    simp [State.setCtl, State.setSel, h'.1, h'.2]
  · rfl

/-- An event that moves no presence, leaves the directory's entries and the drain settled is its effect and nothing more. -/
theorem event_eq_of_quiet (f : State → State) (hp : (f s).peers.map (·.presence) = s.peers.map (·.presence))
    (hd : (f s).dir.entries = s.dir.entries) (hs : drainSettled (f s)) : event f s = f s := by
  have h1 := peerEventEnd_of_same s.peers (f s) hp
  simp [event, eventEnd, h1, directoryEventEnd, hd, drainCheck_of_settled _ hs]

/-- The end of an event changes only changed marks, the generation, flags, and the marks of the drain. -/
theorem eventEnd_kept (b t : State) :
    (eventEnd b t).dir.entries = t.dir.entries ∧ (eventEnd b t).dir.statuses = t.dir.statuses ∧
    (eventEnd b t).ev.fault = t.ev.fault ∧ (eventEnd b t).ev.counters = t.ev.counters ∧
    (eventEnd b t).ev.enables = t.ev.enables ∧ (eventEnd b t).ctl.span = t.ctl.span ∧
    (eventEnd b t).ctl.config = t.ctl.config ∧ (eventEnd b t).sel.ready = t.sel.ready := by
  unfold eventEnd drainCheck directoryEventEnd peerEventEnd raise
  repeat' split
  all_goals simp

/-! ## Host cycles -/

/-- A cycle that is taken: what the owner of the address made of it, with the cycle in progress. -/
theorem hostCycle_taken (dir : Strobe) (a : BitVec 15) (be : Enables) (owner : State → Taken) (h : portReady s)
    (hd : dir ≠ .both) (hb : someByte be = true) :
    hostCycle dir a be owner s =
      withCycle dir a be (owner s).reply
        (if dir = .read then some (if (owner s).reply = .ok then (owner s).data else 0) else none) (owner s).next := by
  obtain ⟨h1, h2, h3⟩ := h
  simp [hostCycle, h1, h2, h3, hd, hb, answerCycle, latchCycle, withCycle, State.setPort]

/-- While a strobe is held no cycle begins. -/
theorem hostCycle_held (dir : Strobe) (a : BitVec 15) (be : Enables) (owner : State → Taken)
    (h : s.port.strobeHeld = true) : hostCycle dir a be owner s = s := by
  simp [hostCycle, h]

/-- While nRST is low the strobe is held and nothing else changes. -/
theorem hostCycle_low (dir : Strobe) (a : BitVec 15) (be : Enables) (owner : State → Taken)
    (h : s.port.strobeHeld = false) (hl : s.port.resetLow = true) :
    hostCycle dir a be owner s = s.setPort { s.port with strobeHeld := true } := by
  simp [hostCycle, h, hl]

/-- During the clear every cycle is answered RETRY. -/
theorem hostCycle_clearing (dir : Strobe) (a : BitVec 15) (be : Enables) (owner : State → Taken)
    (h : s.port.strobeHeld = false) (hl : s.port.resetLow = false) (hc : s.port.clearing = true) :
    hostCycle dir a be owner s =
      withCycle dir a be .retry (if dir = .read then some 0 else none) s := by
  simp [hostCycle, h, hl, hc, answerCycle, answerOnly, latchCycle, withCycle, State.setPort]

/-- A command of COMMAND, taken. -/
theorem commandTaken_eq (hi : Bool) (owner : State → Taken) (h : portReady s) :
    hostCycle .write (regWordAddr .command) { lo := true, hi := hi } owner s =
      withCycle .write (regWordAddr .command) { lo := true, hi := hi } (owner s).reply none (owner s).next := by
  rw [hostCycle_taken _ _ _ _ _ h (by simp) (by simp [someByte])]
  simp

end Sys2Proof.Machine
end

