-- ==== Sys2Proof/Tests/Slice0.lean ====
section
/-! SUPPORT. The author's own tests: the well-formedness checks, the spec's worked examples, and for every obligation with
hypotheses a state and operands that meet them. -/

namespace Sys2Proof.Tests

open Sys2Proof.Machine

/- One theorem after another: each waits for the kernel's word on all before it, and a hundred that wait at once take a
thread each. -/
set_option Elab.async false

/-! ## Helpers: frames and states -/

def frame (src dest : Station) (notice fresh : Bool) (tag : Byte) (b : Body) : List Byte :=
  encodeFrame { cls := 2, src := src, notice := notice, fresh := fresh, dest := dest, tag := tag, body := b }

def heartbeatOf (n : Station) : List Byte := frame n 31 false false 0 .heartbeat

def region (enable readWrite : Bool) (len : BitVec 7) (loc : BitVec 6) (base : BitVec 16) : RegionConfig :=
  { enable := enable, readWrite := readWrite, prefetch := false, length := len, localOffset := loc, globalBase := base }

/-- Station 3 with region 0 (read and write, 0000h on) and region 1 (read only, 0100h on). -/
def config : ConfigRecord :=
  { ConfigRecord.reset with
    station := 3
    regions := [region true true 1 0 0, region true false 1 1 1, RegionConfig.reset, RegionConfig.reset] }

def peerRecord (p : Presence) (heardAgo : Nat) : PeerRecord :=
  { presence := p, interval := some 10, heardAgo := heardAgo, outbound := 4, lastApplied := some 9, changed := false }

/-- Station 5 just heard, station 6 at its silence limit, station 7 SILENT and at its absence limit. -/
def peers : List PeerRecord :=
  List.replicate 4 PeerRecord.reset ++
    [peerRecord .present 0, peerRecord .present 30000, peerRecord .silent 80000] ++
    List.replicate 23 PeerRecord.reset

def entryOf (n : Station) (base : BitVec 16) (readWrite prefetch : Bool) : DirEntry :=
  { base := base, length := 1, owner := n, readWrite := readWrite, prefetch := prefetch, own := none }

def peerEntries : List DirEntry :=
  [entryOf 5 0x10 true false, entryOf 5 0x11 true true, entryOf 7 0x12 true false, entryOf 5 0x13 false false]

def ownEntries : List DirEntry :=
  [{ entryOf 3 0 true false with own := some 0 }, { entryOf 3 1 false false with own := some 1 }]

/-- OFFLINE, the clear ended. -/
def off : State :=
  { State.reset with
    dir := { Directory.reset with statuses := [.notPublished, .notPublished, .disabled, .disabled] }
    ctl := { StationControl.reset with config := config }
    port := { State.reset.port with clearing := false } }

/-- The listen period at its end. -/
def lis : State :=
  { off with
    peers := peers
    dir := { off.dir with entries := peerEntries }
    ctl := { off.ctl with span := .listening, listenTimer := some 0 } }

def onSpanDir : Directory :=
  { entries := ownEntries ++ peerEntries, generation := 2, statuses := [.entered, .entered, .disabled, .disabled] }

def ann : State :=
  { lis with
    dir := onSpanDir
    sel := { Selector.reset with announceMark := .pendingFresh }
    ctl := { off.ctl with span := .announcing } }

def readOf (i : ReadState) (a : GlobalAddr) (len : Nat) : ReadEntry :=
  { ReadEntry.free 1 with state := i, dest := 5, addr := a, length := len }

def posted (k : Word) (q : Byte) : PostedWrite :=
  { admission := k, dest := 5, addr := 0x1060, data := [7], notice := true, sequence := q, attempts := 0, inFlight := false,
    held := false, timer := none }

def reads : ReadAgent :=
  { entries :=
      [{ readOf .issued 0x1000 2 with attempts := 1, responseTimer := some 0 },
       { readOf .complete 0x1010 2 with attempts := 1, outcome := some .ok, data := [1, 2], discardTimer := some 0 },
       { readOf .complete 0x1020 1 with attempts := 1, outcome := some (.fault .notMine), discardTimer := some 5 },
       { readOf .complete 0x1100 32 with
         attempts := 1, prefetch := true, outcome := some .ok, data := List.replicate 32 6, delivered := true,
         discardTimer := some 0 },
       readOf .ready 0x1030 1,
       { readOf .waiting 0x1040 1 with barrier := some 0, ahead := 1 },
       { readOf .issued 0x1050 1 with attempts := 4, overtaken := true, responseTimer := some 0 },
       ReadEntry.free 0]
    order := [0, 1, 2, 3, 4, 5, 6] }

def sentHead : PostedWrite := { posted 0 3 with attempts := 1, inFlight := true, timer := some 0 }

/-- ONLINE with work of every kind in flight. -/
def onl : State :=
  { ann with
    sel := { Selector.reset with ready := [.read 4 1], heartbeatTimer := some 0 }
    reads := reads
    writes := { queue := [sentHead, posted 1 4], admission := 2 }
    ctl := { off.ctl with span := .online } }

/-- LEAVING at the end of its drain timer. -/
def lea : State := { onl with ctl := { onl.ctl with span := .leaving, drainTimer := some 0 } }

/-- LEAVING with the drain done. -/
def gone : State :=
  { onl with
    reads := ReadAgent.reset
    writes := { queue := [], admission := 2 }
    sel := { Selector.reset with leaveMark := true, heartbeatTimer := some 5 }
    ctl := { onl.ctl with span := .leaving } }

def stp : State := { off with ctl := { off.ctl with span := .stopped, stopCause := some .clash } }

/-- The state after some commands, one after the other. -/
def after (l : List Instr) (s : State) : State := l.foldl (fun u c => match exec c u with | .next v => v | _ => u) s

/-- The same state with the receiver in IDLE. -/
def idle (s : State) : State := { s with iface := { s.iface with receiver := .idle } }

/-- The same state receiving a frame of another station. -/
def hears (s : State) : State := { s with iface := { s.iface with receiver := .receiving } }

/-- The same state with a transmission in progress. -/
def sends (x : Offered) (p : TxPhase) (s : State) : State :=
  { s with
    iface :=
      { s.iface with
        receiver := .receiving, rxOwn := true
        tx := some
          { image := encodeFrame (offerFrame x s), item := x, phase := p, bitsSent := if p = .sending then 9 else 0
            breakLength := 0 } } }

/-- The same state with a frame of another station that has ended and has still to be taken. -/
def waits (s : State) : State := { s with iface := { s.iface with untaken := true } }

/-- ONLINE, a frame of another station waiting to be taken while the station's own HEARTBEAT is on the line. -/
def late : State := waits (sends .heartbeat .arbitrating onl)

/-- ONLINE, with a break for the n + 1st consecutive failure on the line. -/
def failing (n : Nat) : State :=
  let s := sends .heartbeat (.breaking .failure) onl
  { s with iface := { s.iface with failCount := n } }

/-- The head ready for retransmission. -/
def headAgain : State :=
  { onl with
    sel := { onl.sel with ready := [.read 4 1, .write 0] }
    writes := { onl.writes with queue := [{ posted 0 3 with attempts := 1 }, posted 1 4] } }

def heldHead : PostedWrite := { posted 0 3 with attempts := 3, held := true, timer := some 0 }

def headHeld : State := { onl with writes := { onl.writes with queue := [heldHead, posted 1 4] } }

/-- Every entry of the Delayed Read Table taken. -/
def fullTable : State :=
  { onl with
    reads :=
      { entries := reads.entries.set 7 { readOf .complete 0x1080 1 with outcome := some .ok, data := [0], discardTimer := some 1 }
        order := [0, 1, 2, 3, 4, 5, 6, 7] } }

def notice : Notice := { source := 5, addr := 0, value := [1] }

/-- Sixteen posted writes and eight notices. -/
def queueFull : State :=
  { onl with
    writes := { queue := sentHead :: List.replicate 15 (posted 1 4), admission := 2 }
    resp := { onl.resp with notices := List.replicate 8 notice } }

/-- Fifteen posted writes and seven notices. -/
def nearlyFull : State :=
  { onl with
    writes := { queue := sentHead :: List.replicate 14 (posted 1 4), admission := 2 }
    resp := { onl.resp with notices := List.replicate 7 notice } }

/-- No posted write, and nothing waiting for one. -/
def emptyQueue : State :=
  { onl with
    reads := { entries := reads.entries.set 5 (ReadEntry.free 1), order := [0, 1, 2, 3, 4, 6] }
    writes := { onl.writes with queue := [] } }

/-- LEAVING with the drain done, its peers heard just now and its heartbeat timer running: nothing is due. -/
def calm : State := { gone with peers := peers.map (fun r => { r with heardAgo := 0 }) }

/-- ONLINE with own region 0 ECLIPSED and its range clear, and own region 1 ECLIPSED behind an entry of station 5. -/
def eclipsed : State :=
  { onl with
    dir := { onl.dir with entries := entryOf 5 1 true false :: peerEntries, statuses := [.eclipsed, .eclipsed, .disabled, .disabled] } }

/-! ## Well-formedness: every check refuses an ill-formed term -/

theorem test_wellFormed_frameFormatError : (Instr.frameFormatError (heartbeatOf 5)).wellFormed = false := by decide +kernel
theorem test_wellFormed_clashReport : (Instr.clashReport [0, 1, 2]).wellFormed = false := by decide +kernel
theorem test_wellFormed_readRsp : (Instr.readRsp (heartbeatOf 5)).wellFormed = false := by decide +kernel
theorem test_wellFormed_nack : (Instr.nack (heartbeatOf 5)).wellFormed = false := by decide +kernel
theorem test_wellFormed_writeAck : (Instr.writeAck (heartbeatOf 5)).wellFormed = false := by decide +kernel
theorem test_wellFormed_readReq : (Instr.readReq (heartbeatOf 5)).wellFormed = false := by decide +kernel
theorem test_wellFormed_write : (Instr.write (heartbeatOf 5)).wellFormed = false := by decide +kernel
theorem test_wellFormed_heartbeat : (Instr.heartbeat (frame 5 3 false false 0 .writeAck)).wellFormed = false := by decide +kernel
theorem test_wellFormed_announce : (Instr.announce (heartbeatOf 5)).wellFormed = false := by decide +kernel
theorem test_wellFormed_leaveFrame : (Instr.leaveFrame (heartbeatOf 5)).wellFormed = false := by decide +kernel
theorem test_wellFormed_silenceLimit : (Instr.silenceLimit 0).wellFormed = false := by decide +kernel
theorem test_wellFormed_absenceLimit : (Instr.absenceLimit 31).wellFormed = false := by decide +kernel
theorem test_wellFormed_unknownCommand :
    (Instr.unknownCommand { lo := true, hi := false } 0x0103).wellFormed = false := by decide +kernel
theorem test_wellFormed_viewRead :
    (Instr.peerViewFirstWordRead 0x4003 { lo := true, hi := true }).wellFormed = true ∧
      (Instr.peerViewFirstWordRead 0x40F8 { lo := true, hi := true }).wellFormed = false := by decide +kernel
theorem test_wellFormed_registerWriteFault :
    (Instr.registerWriteFault 0x4000 { lo := true, hi := true }).wellFormed = true ∧
      (Instr.registerWriteFault 0x4004 { lo := true, hi := true }).wellFormed = false := by decide +kernel
theorem test_wellFormed_unclaimedAccess :
    (Instr.unclaimedAccess .read 0x4240 { lo := true, hi := true }).wellFormed = true ∧
      (Instr.unclaimedAccess .both 0x4240 { lo := true, hi := true }).wellFormed = false ∧
      (Instr.unclaimedAccess .read 0x423F { lo := true, hi := true }).wellFormed = false := by decide +kernel
theorem test_wellFormed_noByteEnable : (Instr.noByteEnableCycle .both 0).wellFormed = false := by decide +kernel

/-- An ill-formed row is refused. -/
theorem test_illFormed_refused : exec (.silenceLimit 0) onl = .refused .illFormed := rfl

/-- No row of the table gives bits, so no word spells a command. -/
theorem test_no_word : decodeTableWord 8 0 = none := rfl

/-! ## The spec's worked examples -/

/-- The published check value of the CRC that R18 describes. -/
theorem test_crc_check_value : crc16 [0x31, 0x32, 0x33, 0x34, 0x35, 0x36, 0x37, 0x38, 0x39] = 0x29B1 := by decide +kernel

/-- Figure 1.1: station 9 in class 2 has key 93h, station 6 in class 2 key 8Dh, station 14 in class 0 key 1Dh. -/
theorem test_keys : keyByte 2 9 = 0x93 ∧ keyByte 2 6 = 0x8D ∧ keyByte 0 14 = 0x1D := by decide +kernel

/-- Figure 1.2: a WRITE of 2 bytes is 12 bytes long; Table 1.9: a READ_RSP of 32 bytes is 39, an empty ANNOUNCE 8. -/
theorem test_frame_sizes :
    (frame 6 21 false false 0 (.write 0 [1, 2])).length = 12 ∧
      (frame 6 21 false false 0 (.readRsp (List.replicate 32 0))).length = 39 ∧
      (frame 6 31 false false 0 (.announce 10 [])).length = 8 := by decide +kernel

def table22 : State :=
  { off with
    dir :=
      { onSpanDir with
        entries :=
          [{ base := 0x1000, length := 8, owner := 3, readWrite := true, prefetch := false, own := some 0 },
           { base := 0x1008, length := 1, owner := 3, readWrite := true, prefetch := false, own := some 2 }] } }

/-- Table 2.2, row by row. -/
theorem test_range_lookups :
    regionCheck 0x1007E0 32 table22 = .inRegion true 0x7E0 ∧ regionCheck 0x1007F0 32 table22 = .outOfRange ∧
      regionCheck 0x100800 2 table22 = .inRegion true 0 ∧ regionCheck 0x0FFFF0 32 table22 = .notMine ∧
      regionCheck 0x100900 1 table22 = .notMine := by decide +kernel

/-- Table 10.4: the ends of the areas. -/
theorem test_areas :
    areaOf 0x1FFF = .sharedRam ∧ areaOf 0x2000 = .aperture ∧ areaOf 0x3FFF = .aperture ∧
      areaOf 0x4000 = .register .spanState ∧ areaOf 0x4007 = .unclaimed ∧ areaOf 0x4080 = .peerView 0 0 ∧
      areaOf 0x40F7 = .peerView 29 3 ∧ areaOf 0x40F8 = .unclaimed ∧ areaOf 0x4100 = .dirView 0 0 ∧
      areaOf 0x41FF = .dirView 63 3 ∧ areaOf 0x4207 = .readView 0 7 ∧ areaOf 0x423F = .readView 7 7 ∧
      areaOf 0x4240 = .unclaimed := by decide +kernel

/-- Table 9.2: the reset values of TICK_DIV, BIT_DIV and HB_INTERVAL as their words read them. -/
theorem test_reset_words :
    readReg State.reset .tickDiv = 20 ∧ readReg State.reset .bitDiv = 4 ∧
      readReg State.reset (.config .hbInterval) = 10 := by decide +kernel

/-- R158: an 8-bit read drives the lane of the disabled byte as 0. -/
theorem test_lanes :
    driveLanes { lo := true, hi := false } [0x12] = 0x0012 ∧ driveLanes { lo := false, hi := true } [0x12] = 0x1200 ∧
      driveLanes { lo := true, hi := true } [0x12, 0x34] = 0x3412 := by decide +kernel

/-- R170: an increase that would pass FFFFh leaves the counter at FFFFh. -/
theorem test_counter_saturates : satAdd 0xFFFE 3 = 0xFFFF ∧ satAdd 0xFFFE 1 = 0xFFFF := by decide +kernel

/-- R143: LEAVE in ONLINE with nothing queued sets the LEAVE mark at once. -/
theorem test_leave_when_drained :
    (match exec (.leave true) { gone with sel := { gone.sel with leaveMark := false }, ctl := off.ctl } with
     | .next t => t.ctl.status.refusal
     | _ => .none) = .wrongState ∧
    (match exec (.leave true)
        { gone with
          sel := { gone.sel with leaveMark := false }, ctl := { gone.ctl with span := .online } } with
     | .next t => (t.ctl.span, t.sel.leaveMark, t.ctl.drainTimer)
     | _ => (.offline, false, none)) = (.leaving, true, none) := by decide +kernel

/-! ## Well-kept states -/

theorem kept_off : WellKept off := wellKept_of_check _ (by decide +kernel)
theorem kept_lis : WellKept lis := wellKept_of_check _ (by decide +kernel)
theorem kept_ann : WellKept ann := wellKept_of_check _ (by decide +kernel)
theorem kept_onl : WellKept onl := wellKept_of_check _ (by decide +kernel)
theorem kept_lea : WellKept lea := wellKept_of_check _ (by decide +kernel)
theorem kept_gone : WellKept gone := wellKept_of_check _ (by decide +kernel)
theorem kept_stp : WellKept stp := wellKept_of_check _ (by decide +kernel)
theorem kept_idle : WellKept (idle onl) := wellKept_of_check _ (by decide +kernel)
theorem kept_hears : WellKept (hears onl) := wellKept_of_check _ (by decide +kernel)
theorem kept_waits : WellKept (waits (idle onl)) := wellKept_of_check _ (by decide +kernel)
theorem kept_late : WellKept late := wellKept_of_check _ (by decide +kernel)
theorem kept_calm : WellKept calm := wellKept_of_check _ (by decide +kernel)
theorem kept_eclipsed : WellKept eclipsed := wellKept_of_check _ (by decide +kernel)

/-! ## Witnesses: hypotheses of the obligations, met together -/

abbrev both : Enables := { lo := true, hi := true }

/-- The key's first bit and its stop bit on the line, a break, a frame that waits, and the line silent. -/
theorem witness_StepRunsFrontCommand :
    (∀ p, (sends .heartbeat p onl).pending = [] ∧ (sends .heartbeat p onl).port.resetLow = false ∧
      (sends .heartbeat p onl).iface.untaken = false ∧ (sends .heartbeat p onl).iface.tx.isSome = true) ∧
      late.pending = [] ∧ late.iface.untaken = true ∧ onl.pending = [] ∧ onl.iface.tx = none :=
  ⟨fun _ => ⟨rfl, rfl, rfl, rfl⟩, rfl, rfl, rfl, rfl⟩

/-- R3: the ten bits of byte 93h, the key of Figure 1.1's station 9. -/
theorem test_byte_levels :
    byteLevels 0x93 =
      [.dominant, .recessive, .dominant, .dominant, .recessive, .dominant, .dominant, .recessive, .recessive, .recessive] := by
  decide +kernel

/-- R4, R5: with the key's last data bit on the line, the next bit time ends the key: SENDING, and at the next start bit the key is
in the receive frame buffer. -/
theorem test_idle_step :
    let s := sends .heartbeat .arbitrating onl
    let at' := fun (k : Nat) =>
      idleStep { s with iface := { s.iface with tx := s.iface.tx.map (fun t => { t with bitsSent := k }) } }
    ((at' 7).iface.tx.map (·.phase) = some .arbitrating ∧ (at' 7).iface.rxBuffer = []) ∧
      ((at' 8).iface.tx.map (·.phase) = some .sending ∧ (at' 8).iface.rxBuffer = []) ∧
      (at' 9).iface.tx.map (·.bitsSent) = some 10 ∧ (at' 9).iface.rxBuffer = [0xC7] := by decide +kernel

/-- R98, Table 6.3: a READ_REQ that has ended as the LEAVE's attempt begins is still served, and its answer is lost when the LEAVE is
sent. -/
theorem test_request_behind_leave :
    let s := hears gone
    let t := after [.idleFound, .attemptBegin, .readReq (frame 5 3 false false 7 (.readReq 0 1))] s
    t.iface.tx.map (·.item) = some .leave ∧ t.resp.responses.length = 1 ∧ (after [.attemptSent] t).ctl.span = .offline ∧
      (after [.attemptSent] t).resp.responses = [] := by
  decide +kernel

/-- R97, R107, Table 5.8: the WRITE_ACK on the line has been purged with its requester's record, and the equal one appended for the
WRITE that waited stays when the attempt is reported sent. -/
theorem test_purged_answer :
    let r : Response := { dest := 5, tag := 1, answer := .writeAck, serial := 0 }
    let s := waits (sends (.response r) .arbitrating { onl with resp := { onl.resp with appended := 1 } })
    let u := after [.write (frame 5 3 false false 1 (.write 0 [1]))] s
    u.resp.responses = [{ r with serial := 1 }] ∧ (after [.attemptSent] u).resp.responses = [{ r with serial := 1 }] ∧
      (after [.attemptSent] u).iface.tx = none := by decide +kernel

/-- R14: a frame that ends in STOPPED waits for no check: the next start bit is taken, and nothing is counted for it after
RESTART. -/
theorem test_frame_in_stopped :
    (after [.idleFound, .startBitConfirmed] (hears stp)).iface.receiver = .receiving ∧
      (after [.idleFound, .restart true, .frameFormatError [0xFF, 0]] (hears stp)).ev.counters.rxError = 0 := by
  decide +kernel

/-- A clash report that meets a JOIN in OFFLINE changes nothing, whichever is taken first, and a later frame with the own number
stops the station (Table 8.7). -/
theorem test_join_and_clash :
    (after [.idleFound, .join true, .clashReport (heartbeatOf 3)] (hears off)).ctl.span = .listening ∧
      (after [.idleFound, .clashReport (heartbeatOf 3), .join true] (hears off)).ctl.span = .listening ∧
      (after [.idleFound, .join true, .clashReport (heartbeatOf 3), .startBitConfirmed, .clashReport (heartbeatOf 3)]
        (hears off)).ctl.stopCause = some .clash := by
  decide +kernel

theorem witness_EveryWellFormedCommandCompletes :
    WellKept onl ∧ (Instr.heartbeat (heartbeatOf 5)).wellFormed = true ∧ (Instr.silenceLimit 31).wellFormed = false :=
  ⟨kept_onl, by decide +kernel⟩

theorem witness_ResetCommandsResult : State.reset.port.clearing = true := rfl

def longWrite : Frame :=
  { cls := 3, src := 30, notice := true, fresh := true, dest := 30, tag := 255, body := .write 0xFFFFFF (List.replicate 32 1) }

/-- A frame of the greatest length, an ANNOUNCE with a region that ends at 1000000h, and bytes that pass the checks. -/
theorem witness_FramesAndImagesCorrespond :
    frameShape longWrite ∧
      frameShape
        { longWrite with
          dest := 31, body := .announce 250 [{ base := 0xFFC0, length := 64, readWrite := true, prefetch := true }] } ∧
      ∃ f, checkFrame (heartbeatOf 30) = some f :=
  ⟨⟨by decide, by decide, by decide, by decide, by decide⟩,
   ⟨by decide, by decide, by decide, by decide, by decide, by decide,
    fun g hg => by rw [List.mem_singleton.mp hg]; exact ⟨by decide, by decide, by decide⟩⟩,
   Option.isSome_iff_exists.mp (by decide +kernel)⟩

/-- A cycle of each response, a frame with the first and the last bit of a byte on the line, and a break. -/
theorem witness_PinsShowTheState :
    (∀ r : Reply, ∃ c : Cycle, { onl with port := { onl.port with cycle := some c } }.port.cycle = some c ∧ c.reply = r) ∧
      (∃ x byte, (sends .heartbeat .arbitrating onl).iface.tx = some x ∧ x.phase = .arbitrating ∧ x.bitsSent % 10 = 0 ∧
        x.image[x.bitsSent / 10]? = some byte) ∧
      (∃ x byte, (sends .heartbeat .sending onl).iface.tx = some x ∧ x.phase = .sending ∧ x.bitsSent % 10 = 9 ∧
        x.image[x.bitsSent / 10]? = some byte) ∧
      ∃ x, (failing 3).iface.tx = some x ∧ x.phase = .breaking .failure :=
  ⟨fun r => ⟨{ addr := 0, dir := .read, be := { lo := true, hi := true }, reply := r, data := none }, rfl, rfl⟩,
   ⟨_, _, rfl, rfl, rfl, rfl⟩, ⟨_, _, rfl, rfl, rfl, rfl⟩, _, rfl, rfl⟩

/-! ### Attempts and the receiver -/

/-- A list of two regions; every source of the selector in turn, and no source; the last three also at a loss count of 8. -/
theorem witness_AttemptTakesTheFirstSource :
    (ownRegionsRight ann ∧ (announcedRegions ann).length = 2) ∧
    let start := fun (s : State) => s.port.resetLow = false ∧ s.iface.receiver = .idle ∧ drainSettled s
    (start (idle { onl with
      resp := { onl.resp with responses := [{ dest := 5, tag := 1, answer := .writeAck, serial := 0 }], appended := 1 } })) ∧
    (start (idle gone) ∧ gone.resp.responses = [] ∧ gone.sel.leaveMark = true) ∧
    (start (idle ann) ∧ announceDue ann.sel.announceMark = some true) ∧
    (start (idle { onl with sel := { onl.sel with heartbeatMark := true } })) ∧
    (start (idle onl) ∧ onl.sel.ready = [.read 4 1]) ∧
    (start (idle { onl with sel := { onl.sel with ready := [.write 0] } }) ∧ onl.writes.queue = [sentHead, posted 1 4]) ∧
    (start (idle { onl with sel := { onl.sel with ready := [] }, iface := { onl.iface with lossCount := 8 } })) ∧
    start (idle off) := by
  refine ⟨⟨kept_ann.ownRegions, by decide +kernel⟩, ⟨rfl, rfl, ?_⟩, ⟨⟨rfl, rfl, ?_⟩, rfl, rfl⟩, ⟨⟨rfl, rfl, ?_⟩, rfl⟩, ⟨rfl, rfl, ?_⟩,
    ⟨⟨rfl, rfl, ?_⟩, rfl⟩, ⟨⟨rfl, rfl, ?_⟩, rfl⟩, ⟨rfl, rfl, ?_⟩, ⟨rfl, rfl, ?_⟩⟩
  all_goals exact @of_decide_eq_true _ (decDrainSettled _) (by decide +kernel)

theorem witness_OfferedFramesPassEveryCheck :
    WellKept (idle onl) ∧ (idle onl).iface.tx = none ∧
      ∃ t tr, exec .attemptBegin (idle onl) = .next t ∧ t.iface.tx = some tr := by
  obtain ⟨tr, htr⟩ := Option.isSome_iff_exists.mp
    (show (event beginAttempt (idle onl)).iface.tx.isSome = true by decide +kernel)
  exact ⟨kept_idle, rfl, event beginAttempt (idle onl), tr, rfl, htr⟩

theorem witness_LostAndMismatchedAttempts :
    (sends .heartbeat .arbitrating onl).port.resetLow = false ∧ (sends .heartbeat .arbitrating onl).iface.untaken = false ∧
      drainSettled (sends .heartbeat .arbitrating onl) ∧
      ∃ x, (sends .heartbeat .arbitrating onl).iface.tx = some x ∧ x.phase = .arbitrating :=
  ⟨rfl, rfl, @of_decide_eq_true _ (decDrainSettled _) (by decide +kernel), _, rfl, rfl⟩

/-- A cut, a failure overtaken by OFFLINE, the fifteenth failure and the sixteenth. -/
theorem witness_EndOfABreak :
    WellKept (sends .heartbeat (.breaking .cut) off) ∧ WellKept (sends .heartbeat (.breaking .failureThenOffline) off) ∧
      WellKept (failing 14) ∧ WellKept (failing 15) ∧ onSpan (failing 15).ctl.span = true ∧
      (failing 15).iface.untaken = false :=
  ⟨wellKept_of_check _ (by decide +kernel), wellKept_of_check _ (by decide +kernel),
   wellKept_of_check _ (by decide +kernel), wellKept_of_check _ (by decide +kernel), rfl, rfl⟩

/-- A HEARTBEAT, a response, the READY read and the head, which is ready again. -/
theorem witness_SentResponseOrRequest :
    WellKept (sends .heartbeat .sending onl) ∧
      WellKept
        (sends (.response { dest := 5, tag := 1, answer := .writeAck, serial := 0 }) .sending
          { onl with
            resp := { onl.resp with responses := [{ dest := 5, tag := 1, answer := .writeAck, serial := 0 }], appended := 1 } }) ∧
      WellKept (sends (.request (.read 4 1)) .arbitrating onl) ∧ WellKept (sends (.request (.write 0)) .sending headAgain) ∧
      (sends .heartbeat .sending onl).iface.untaken = false :=
  ⟨wellKept_of_check _ (by decide +kernel), wellKept_of_check _ (by decide +kernel),
   wellKept_of_check _ (by decide +kernel), wellKept_of_check _ (by decide +kernel), rfl⟩

theorem witness_SentMaintenanceFrames :
    WellKept (sends (.announce true []) .sending ann) ∧ WellKept (sends (.announce false []) .sending onl) ∧
      WellKept (sends .leave .sending gone) ∧ (sends .leave .sending gone).iface.untaken = false :=
  ⟨wellKept_of_check _ (by decide +kernel), wellKept_of_check _ (by decide +kernel),
   wellKept_of_check _ (by decide +kernel), rfl⟩

/-- The line found idle from WAIT_IDLE and from RECEIVING, a start bit, the end of the own frame, a frame that waits, and bytes that
fail the checks, in ONLINE and in STOPPED. -/
theorem witness_ReceiverMovesAndDiscards :
    (drainSettled off ∧ off.iface.receiver = .waitIdle ∧ off.iface.tx = none ∧ 2 ≤ off.ctl.config.bitDiv.toNat ∧
      off.ctl.config.bitDiv.toNat ≤ 32 ∧ off.port.resetLow = false) ∧
      (drainSettled (hears onl) ∧ (hears onl).iface.receiver = .receiving ∧ (hears onl).iface.tx = none ∧
        (hears onl).iface.rxOwn = false) ∧
      (drainSettled (idle off) ∧ (idle off).iface.receiver = .idle ∧ (idle off).iface.untaken = false) ∧
      drainSettled { hears off with iface := { (hears off).iface with rxOwn := true } } ∧
      (drainSettled late ∧ late.iface.untaken = true) ∧
      checkFrame [0xFF, 0] = none ∧ receivingFrame (hears onl) ∧ receivingFrame (hears stp) ∧ drainSettled (hears stp) :=
  ⟨⟨kept_off.drain, rfl, rfl, by decide, by decide, rfl⟩, ⟨kept_hears.drain, rfl, rfl, rfl⟩,
   ⟨@of_decide_eq_true _ (decDrainSettled _) (by decide +kernel), rfl, rfl⟩,
   @of_decide_eq_true _ (decDrainSettled _) (by decide +kernel), ⟨kept_late.drain, rfl⟩, by decide +kernel,
   ⟨rfl, Or.inl ⟨rfl, rfl, rfl⟩⟩, ⟨rfl, Or.inl ⟨rfl, rfl, rfl⟩⟩,
   @of_decide_eq_true _ (decDrainSettled _) (by decide +kernel)⟩

/-- Nothing due, an expiry due, and TICK_DIV just out of range. -/
theorem witness_TickAdvancesEveryTimer :
    (calm.port.resetLow = false ∧ 8 ≤ calm.ctl.config.tickDiv.toNat ∧ calm.ctl.config.tickDiv.toNat ≤ 40 ∧
      (∀ i, ¬((readAt i calm).state = .issued ∧ (readAt i calm).responseTimer = some 0 ∨
        (readAt i calm).state = .complete ∧ (readAt i calm).discardTimer = some 0)) ∧
      calm.writes.queue = [] ∧ calm.sel.heartbeatTimer = some 5 ∧ calm.ctl.span = .leaving ∧ calm.ctl.drainTimer = none ∧
      ∀ n, ¬((peerOf n calm).presence = .present ∧ silenceTicks config (peerOf n calm) ≤ (peerOf n calm).heardAgo ∨
        (peerOf n calm).presence ≠ .absent ∧ absenceTicks config (peerOf n calm) ≤ (peerOf n calm).heardAgo)) ∧
      (onl.port.resetLow = false ∧ onl.sel.heartbeatTimer = some 0) ∧
      { off with ctl := { off.ctl with config := { config with tickDiv := 7 } } }.ctl.config.tickDiv.toNat = 7 :=
  ⟨⟨rfl, by decide, by decide, by decide +kernel, rfl, rfl, rfl, rfl, by decide +kernel⟩, ⟨rfl, rfl⟩, rfl⟩

/-! ### Frames that arrive -/

abbrev content (k : Kind) (b : List Byte) (f : Frame) (s : State) : Prop :=
  receivingFrame s ∧ checkFrameOf k b = some f ∧ s.ctl.span ≠ .stopped ∧ f.src ≠ ownStation s

/-- The fields of a frame that station 5 sends. -/
def sent (dest : Station) (notice fresh : Bool) (tag : Byte) (b : Body) : Frame :=
  { cls := 2, src := 5, notice := notice, fresh := fresh, dest := dest, tag := tag, body := b }

theorem hears_receiving : receivingFrame (hears onl) := ⟨rfl, Or.inl ⟨rfl, rfl, rfl⟩⟩

/-- A HEARTBEAT, a frame for station 4, and a HEARTBEAT that waits behind the own attempt; in OFFLINE an ANNOUNCE and a LEAVE; in STOPPED
a WRITE for this station. -/
theorem witness_HeardAndNothingElse :
    (WellKept (hears onl) ∧ content .heartbeat (heartbeatOf 5) (sent 31 false false 0 .heartbeat) (hears onl) ∧
      content .writeAck (frame 5 4 false false 3 .writeAck) (sent 4 false false 3 .writeAck) (hears onl)) ∧
      (WellKept late ∧ content .heartbeat (heartbeatOf 5) (sent 31 false false 0 .heartbeat) late) ∧
      (WellKept (hears off) ∧ (hears off).ctl.span = .offline ∧
        content .announce (frame 5 31 false true 0 (.announce 20 [])) (sent 31 false true 0 (.announce 20 [])) (hears off) ∧
        content .leave (frame 5 31 false false 0 .leave) (sent 31 false false 0 .leave) (hears off)) ∧
      WellKept (hears stp) ∧ receivingFrame (hears stp) ∧ (hears stp).ctl.span = .stopped ∧
      checkFrameOf .write (frame 5 3 false false 1 (.write 0 [1])) = some (sent 3 false false 1 (.write 0 [1])) :=
  ⟨⟨kept_hears, ⟨hears_receiving, by decide +kernel, by decide, by decide⟩,
    ⟨hears_receiving, by decide +kernel, by decide, by decide⟩⟩,
   ⟨kept_late, ⟨rfl, Or.inr rfl⟩, by decide +kernel, by decide, by decide⟩,
   ⟨wellKept_of_check _ (by decide +kernel), rfl, ⟨⟨rfl, Or.inl ⟨rfl, rfl, rfl⟩⟩, by decide +kernel, by decide, by decide⟩,
    ⟨⟨rfl, Or.inl ⟨rfl, rfl, rfl⟩⟩, by decide +kernel, by decide, by decide⟩⟩,
   wellKept_of_check _ (by decide +kernel), ⟨rfl, Or.inl ⟨rfl, rfl, rfl⟩⟩, rfl, by decide +kernel⟩

/-- A READ_RSP for the ISSUED read 0 and a NACK for the overtaken read 6, whose tags are 01h and C1h. -/
theorem witness_AnswersEndTheirRead :
    WellKept (hears onl) ∧
      (readAnswered 5 0x01 (readAt (tagIndex 0x01) (hears onl)) ∧
        arrivesHere .readRsp (frame 5 3 false false 0x01 (.readRsp [1, 2])) (sent 3 false false 0x01 (.readRsp [1, 2]))
          (hears onl) ∧ (readAt (tagIndex 0x01) (hears onl)).length = 2) ∧
      readAnswered 5 0xC1 (readAt (tagIndex 0xC1) (hears onl)) ∧
        arrivesHere .nack (frame 5 3 false false 0xC1 (.nack 0 .notMine)) (sent 3 false false 0xC1 (.nack 0 .notMine))
          (hears onl) :=
  ⟨kept_hears,
   ⟨⟨Or.inl rfl, by decide +kernel, rfl⟩,
    ⟨hears_receiving, by decide +kernel, by decide, by decide, Or.inl rfl⟩, rfl⟩,
   ⟨Or.inl rfl, by decide +kernel, rfl⟩,
   ⟨hears_receiving, by decide +kernel, by decide, by decide, Or.inl rfl⟩⟩

/-- A READ_RSP for the READY read 4, which has not been sent; one of the wrong length; a NACK and a WRITE_ACK with another
tag than the head's. -/
theorem witness_UnawaitedAnswersAreStale :
    WellKept (hears onl) ∧ ¬readAnswered 5 0x81 (readAt (tagIndex 0x81) (hears onl)) ∧
      arrivesHere .readRsp (frame 5 3 false false 0x81 (.readRsp [1])) (sent 3 false false 0x81 (.readRsp [1])) (hears onl) ∧
      arrivesHere .nack (frame 5 3 false false 0x81 (.nack 0 .notMine)) (sent 3 false false 0x81 (.nack 0 .notMine))
        (hears onl) ∧
      arrivesHere .nack (frame 5 3 true false 4 (.nack 0 .notMine)) (sent 3 true false 4 (.nack 0 .notMine)) (hears onl) ∧
      arrivesHere .writeAck (frame 5 3 false false 4 .writeAck) (sent 3 false false 4 .writeAck) (hears onl) ∧
      ¬headAnswered 5 4 sentHead :=
  ⟨kept_hears, by rintro ⟨h | h, _⟩ <;> revert h <;> decide +kernel,
   ⟨hears_receiving, by decide +kernel, by decide, by decide, Or.inl rfl⟩,
   ⟨hears_receiving, by decide +kernel, by decide, by decide, Or.inl rfl⟩,
   ⟨hears_receiving, by decide +kernel, by decide, by decide, Or.inl rfl⟩,
   ⟨hears_receiving, by decide +kernel, by decide, by decide, Or.inl rfl⟩,
   by rintro ⟨_, _, h⟩; revert h; decide⟩

theorem witness_AnswersForTheHead :
    WellKept (hears onl) ∧ (hears onl).writes.queue = [sentHead, posted 1 4] ∧ headAnswered 5 3 sentHead ∧
      arrivesHere .writeAck (frame 5 3 false false 3 .writeAck) (sent 3 false false 3 .writeAck) (hears onl) ∧
      arrivesHere .nack (frame 5 3 true false 3 (.nack 0 .noticeFull)) (sent 3 true false 3 (.nack 0 .noticeFull))
        (hears onl) :=
  ⟨kept_hears, rfl, ⟨Or.inl rfl, rfl, rfl⟩,
   ⟨hears_receiving, by decide +kernel, by decide, by decide, Or.inl rfl⟩,
   ⟨hears_receiving, by decide +kernel, by decide, by decide, Or.inl rfl⟩⟩

/-- The first and the last byte of own region 0, a byte of a peer's entry, and one of none. -/
theorem witness_LookupsFindTheEntry :
    directoryOrdered onl ∧
      (∀ a : GlobalAddr, a = 0 ∨ a = 0xFF → dirStart (ownEntry 0 onl) ≤ a.toNat ∧ a.toNat < dirEnd (ownEntry 0 onl)) ∧
      (∀ e ∈ onl.dir.entries, e.own.isSome = true → ¬(dirStart e ≤ 0x1000 ∧ 0x1000 < dirEnd e)) ∧
      ∀ e ∈ onl.dir.entries, ¬(dirStart e ≤ 0x1400 ∧ 0x1400 < dirEnd e) := by
  refine ⟨kept_onl.directory, ?_, by decide +kernel, by decide +kernel⟩
  rintro a (rfl | rfl) <;> decide +kernel

theorem witness_ReadReqIsAnswered :
    WellKept (hears onl) ∧
      arrivesHere .readReq (frame 5 3 false false 7 (.readReq 0xE0 32)) (sent 3 false false 7 (.readReq 0xE0 32)) (hears onl) :=
  ⟨kept_hears, ⟨hears_receiving, by decide +kernel, by decide, by decide, Or.inl rfl⟩⟩

/-- A WRITE to no region, past the end of one, to the READ_ONLY one, and with the sequence applied last. -/
theorem witness_WriteIsTurnedAway :
    WellKept (hears onl) ∧
      (∀ a : GlobalAddr, a = 0x1000 ∨ a = 0xFF ∨ a = 0x100 ∨ a = 0xFE →
        arrivesHere .write (frame 5 3 false false 9 (.write a [1, 2])) (sent 3 false false 9 (.write a [1, 2])) (hears onl)) ∧
      regionCheck 0x1000 2 (hears onl) = .notMine ∧ regionCheck 0xFF 2 (hears onl) = .outOfRange ∧
      regionCheck 0x100 2 (hears onl) = .inRegion false 0x100 ∧ (peerOf 5 (hears onl)).lastApplied = some 9 := by
  refine ⟨kept_hears, ?_, by decide +kernel, by decide +kernel, by decide +kernel, rfl⟩
  rintro a (rfl | rfl | rfl | rfl) <;>
    exact ⟨hears_receiving, by decide +kernel, by decide, by decide, Or.inl rfl⟩

theorem witness_WriteIsApplied :
    WellKept (hears onl) ∧
      arrivesHere .write (frame 5 3 true false 10 (.write 0xFE [1, 2])) (sent 3 true false 10 (.write 0xFE [1, 2]))
        (hears onl) ∧
      regionCheck 0xFE 2 (hears onl) = .inRegion true 0xFE ∧ (peerOf 5 (hears onl)).lastApplied ≠ some 10 ∧
      (hears onl).resp.responses.length < 4 ∧ (hears onl).resp.notices.length < 8 :=
  ⟨kept_hears, ⟨hears_receiving, by decide +kernel, by decide, by decide, Or.inl rfl⟩, by decide +kernel, by decide,
   by decide, by decide⟩

def newRegions : List RegionGroup := [{ base := 0x10, length := 2, readWrite := true, prefetch := true }]

/-- Two regions of which the second meets the first. -/
def meetingRegions : List RegionGroup := newRegions ++ [{ base := 0x11, length := 1, readWrite := true, prefetch := true }]

/-- A fresh ANNOUNCE of one region, and one of two that meet: in both what is entered meets no other station's entry. -/
theorem witness_AnnounceReplacesTheSendersRegions :
    WellKept (hears onl) ∧ hearing (hears onl).ctl.span = true ∧
      arrivesHere .announce (frame 5 31 false true 0 (.announce 20 newRegions))
        (sent 31 false true 0 (.announce 20 newRegions)) (hears onl) ∧
      arrivesHere .announce (frame 5 31 false true 0 (.announce 20 meetingRegions))
        (sent 31 false true 0 (.announce 20 meetingRegions)) (hears onl) ∧
      (let new := meetingRegions.map (peerEntry 5)
       (new.zipIdx.filter (fun x => !meetsEarlier new x.2 x.1)).map (·.1) = newRegions.map (peerEntry 5)) ∧
      (∀ e ∈ newRegions.map (peerEntry 5), ∀ g ∈ onl.dir.entries.filter (fun g => g.owner != 5), dirOverlaps e g = false) :=
  ⟨kept_hears, rfl, ⟨hears_receiving, by decide +kernel, by decide, by decide, Or.inr rfl⟩,
   ⟨hears_receiving, by decide +kernel, by decide, by decide, Or.inr rfl⟩, by decide +kernel, by decide +kernel⟩

/-- Of two ECLIPSED regions the one whose range is clear returns. -/
theorem witness_ReturnRule :
    fullSized eclipsed ∧ directoryOrdered eclipsed ∧ configJudged eclipsed ∧ ownRegionsRight eclipsed ∧
      onSpan eclipsed.ctl.span = true ∧ returning eclipsed = [0] ∧ onSpan off.ctl.span = false :=
  ⟨kept_eclipsed.sized, kept_eclipsed.directory, kept_eclipsed.config, kept_eclipsed.ownRegions, rfl, by decide +kernel, rfl⟩

/-- A candidate that meets nothing, one of a lower owner that meets a peer's entry, and one of a higher owner. -/
theorem witness_PlacingTests :
    fullSized onl ∧ directoryOrdered onl ∧
      (∀ n : Station, n = 4 ∨ n = 6 → entryShape (entryOf n 0x10 true true)) ∧ entryShape (entryOf 4 0xFFFF true true) ∧
      onl.dir.entries.filter (dirOverlaps (entryOf 4 0xFFFF true true)) = [] ∧
      onl.dir.entries.filter (dirOverlaps (entryOf 4 0x10 true true)) = [entryOf 5 0x10 true false] := by
  refine ⟨kept_onl.sized, kept_onl.directory, ?_, ⟨by decide, by decide, by decide, by decide⟩, by decide +kernel,
    by decide +kernel⟩
  rintro n (rfl | rfl) <;> exact ⟨by decide, by decide, by decide, by decide⟩

theorem witness_LossOfAPeer :
    WellKept (hears onl) ∧
      arrivesHere .leave (frame 5 31 false false 0 .leave) (sent 31 false false 0 .leave) (hears onl) ∧
      (peerOf 7 (hears onl)).presence ≠ .absent ∧ (peerOf 7 (hears onl)).heardAgo = 8 * 10 * 1000 ∧
      (hears onl).port.resetLow = false :=
  ⟨kept_hears, ⟨hears_receiving, by decide +kernel, by decide, by decide, Or.inr rfl⟩, by decide, rfl, rfl⟩

/-- The own number heard in ONLINE, in OFFLINE, in STOPPED, and while an attempt of the station's own is on the line. -/
theorem witness_ClashStopsTheStation :
    WellKept (hears onl) ∧ receivingFrame (hears onl) ∧ (hears onl).iface.tx = none ∧ WellKept (hears off) ∧
      receivingFrame (hears off) ∧ WellKept (hears stp) ∧ receivingFrame (hears stp) ∧ WellKept late ∧ late.iface.tx ≠ none ∧
      (WellKept (waits (idle off)) ∧ portReady (waits (idle off)) ∧ judgeConfig config = .none) ∧
      ∃ f, checkFrame (heartbeatOf 3) = some f ∧ f.src = ownStation (hears onl) ∧ f.src = ownStation (hears off) ∧
        f.src = ownStation late ∧ bodyKind f.body = .heartbeat :=
  ⟨kept_hears, hears_receiving, rfl, wellKept_of_check _ (by decide +kernel), ⟨rfl, Or.inl ⟨rfl, rfl, rfl⟩⟩,
   wellKept_of_check _ (by decide +kernel), ⟨rfl, Or.inl ⟨rfl, rfl, rfl⟩⟩, kept_late,
   by decide +kernel, ⟨wellKept_of_check _ (by decide +kernel), ⟨rfl, rfl, rfl⟩, by decide +kernel⟩,
   { sent 31 false false 0 .heartbeat with src := 3 }, by decide +kernel, rfl, rfl, rfl, rfl⟩

/-! ### Timers -/

/-- Read 0 with an attempt left, read 6 exhausted, read 1 undelivered and read 3 delivered at the end of their timers. -/
theorem witness_ReadTimersExpire :
    WellKept onl ∧ (readAt 0 onl).state = .issued ∧ (readAt 0 onl).responseTimer = some 0 ∧ (readAt 6 onl).attempts = 4 ∧
      (readAt 6 onl).state = .issued ∧ (readAt 6 onl).responseTimer = some 0 ∧ (readAt 1 onl).state = .complete ∧
      (readAt 1 onl).discardTimer = some 0 ∧ (readAt 3 onl).delivered = true ∧ (readAt 3 onl).discardTimer = some 0 :=
  ⟨kept_onl, rfl, rfl, rfl, rfl, rfl, rfl, rfl, rfl, rfl⟩

theorem witness_HeadTimeouts :
    (WellKept onl ∧ onl.writes.queue = [sentHead, posted 1 4] ∧ sentHead.timer = some 0 ∧ sentHead.inFlight = true) ∧
      WellKept headHeld ∧ headHeld.writes.queue = [heldHead, posted 1 4] ∧ heldHead.timer = some 0 ∧
      heldHead.held = true :=
  ⟨⟨kept_onl, rfl, rfl, rfl⟩, wellKept_of_check _ (by decide +kernel), rfl, rfl, rfl⟩

theorem witness_HeartbeatAndSilence :
    WellKept onl ∧ onl.sel.heartbeatTimer = some 0 ∧ (peerOf 6 onl).presence = .present ∧
      (peerOf 6 onl).heardAgo = 3 * 10 * 1000 :=
  ⟨kept_onl, rfl, rfl, rfl⟩

/-- The listen period at its end: region 0 meets an entry of station 2, region 1 one of station 5. -/
def lisMet : State :=
  { lis with
    peers := lis.peers.set 1 (peerRecord .present 0)
    dir := { lis.dir with entries := [entryOf 2 0 true false, entryOf 5 1 true false] } }

/-- Every region placed in room of its own; and region 0 refused by a lower owner, region 1 placed over a higher one. -/
theorem witness_ListenPeriodEnds :
    (WellKept lis ∧ lis.ctl.span = .listening ∧ lis.ctl.listenTimer = some 0) ∧
      WellKept lisMet ∧ lisMet.ctl.span = .listening ∧ lisMet.ctl.listenTimer = some 0 ∧
      ∃ t, exec .listenTimerExpiry lisMet = .next t ∧ t.dir.statuses = [.eclipsed, .entered, .disabled, .disabled] ∧
        t.dir.entries = [entryOf 2 0 true false, ownEntry 1 lisMet] :=
  ⟨⟨kept_lis, rfl, rfl⟩, wellKept_of_check _ (by decide +kernel), rfl, rfl, _, rfl, by decide +kernel, by decide +kernel⟩

/-- LEAVING with nothing left but an overtaken read, at the end of its drain timer. -/
def leaOvertaken : State :=
  { lea with
    reads := { entries := List.replicate 6 (ReadEntry.free 0) ++ reads.entries.drop 6, order := [6] }
    writes := { queue := [], admission := 2 }
    sel := { lea.sel with ready := [] } }

/-- Several faults with an empty record and with a valid one, and none at all. -/
theorem witness_DrainExpiryEndsTheWork :
    (WellKept lea ∧ lea.port.resetLow = false ∧ lea.ctl.span = .leaving ∧ lea.ctl.drainTimer = some 0 ∧ lea.ev.fault = none ∧
      lea.writes.queue ≠ []) ∧
      WellKept { lea with ev := { lea.ev with fault := some { report := readFault (readAt 2 lea) .notMine, overflow := false } } } ∧
      WellKept leaOvertaken ∧ leaOvertaken.ctl.span = .leaving ∧ leaOvertaken.ctl.drainTimer = some 0 ∧
      leaOvertaken.writes.queue = [] ∧
      leaOvertaken.reads.order.filter
        (fun i => fetching (readAt i leaOvertaken).state && !(readAt i leaOvertaken).overtaken) = [] :=
  ⟨⟨kept_lea, rfl, rfl, rfl, rfl, by decide⟩, wellKept_of_check _ (by decide +kernel), wellKept_of_check _ (by decide +kernel),
   rfl, rfl, rfl, by decide +kernel⟩

/-! ### Host cycles -/

theorem onl_ready : portReady onl := ⟨rfl, rfl, rfl⟩

theorem witness_DirectCyclesOfSharedRam : portReady onl ∧ someByte both = true ∧ ramCanonical onl :=
  ⟨onl_ready, rfl, kept_onl.ram⟩

/-- A fetching read, one that completed with a fault, one with data, and a prefetch. -/
theorem witness_MatchedReadDelivers :
    WellKept onl ∧ portReady onl ∧ readMatches (apertureAddr 0x800 both onl) 2 onl 0 = true ∧
      readMatches (apertureAddr 0x810 { lo := true, hi := false } onl) 1 onl 2 = true ∧
      readMatches (apertureAddr 0x808 both onl) 2 onl 1 = true ∧
      readMatches (apertureAddr 0x88F both onl) 2 onl 3 = true :=
  ⟨kept_onl, onl_ready, by decide +kernel, by decide +kernel, by decide +kernel, by decide +kernel⟩

/-- No entry matches at no entry, at a SILENT owner's, at the own region's, and in the other span states. -/
theorem witness_UnmatchedReadIsJudged :
    WellKept onl ∧ portReady onl ∧
      (∀ i, readMatches (apertureAddr 0xFFF both onl) 2 onl i = false) ∧ lookup (apertureAddr 0xFFF both onl) onl = none ∧
      (∀ i, readMatches (apertureAddr 0x900 both onl) 2 onl i = false) ∧
      lookup (apertureAddr 0x900 both onl) onl = some (entryOf 7 0x12 true false) ∧ (peerOf 7 onl).presence = .silent ∧
      (∀ i, readMatches (apertureAddr 0 both onl) 2 onl i = false) ∧
      lookup (apertureAddr 0 both onl) onl = some (ownEntry 0 onl) ∧ WellKept off ∧ WellKept lea ∧ WellKept stp ∧
      (∀ i, readMatches (apertureAddr 0 both lea) 2 lea i = false) :=
  ⟨kept_onl, onl_ready, by decide +kernel, by decide +kernel, by decide +kernel, by decide +kernel, rfl, by decide +kernel,
   by decide +kernel, kept_off, kept_lea, kept_stp, by decide +kernel⟩

/-- Blocked by read 4; the way clear with entry 7 FREE; and, with entry 7 taken, reclaiming read 3. -/
theorem witness_UnmatchedReadIsAllocated :
    WellKept onl ∧ portReady onl ∧ lookup (apertureAddr 0x818 both onl) onl = some (entryOf 5 0x10 true false) ∧
      (∀ i, readMatches (apertureAddr 0x818 both onl) 2 onl i = false) ∧ readOverlaps 0x1030 2 onl 4 = true ∧
      (readAt 4 onl).state = .ready ∧
      (∀ i, readMatches (apertureAddr 0x838 both onl) 2 onl i = false) ∧ (∀ i, readOverlaps 0x1070 2 onl i = false) ∧
      (readAt 7 (cleared 0x1070 2 onl)).state = .free ∧ WellKept fullTable ∧
      (∀ i, (readAt i (cleared 0x1070 2 fullTable)).state ≠ .free) ∧
      (cleared 0x1070 2 fullTable).reads.order = [0, 1, 2] ++ 3 :: [4, 5, 6, 7] ∧
      reclaimable (readAt 3 (cleared 0x1070 2 fullTable)) = true ∧
      (∀ j ∈ ([0, 1, 2] : List ReadIndex), reclaimable (readAt j (cleared 0x1070 2 fullTable)) = false) :=
  ⟨kept_onl, onl_ready, by decide +kernel, by decide +kernel, by decide +kernel, rfl, by decide +kernel, by decide +kernel,
   by decide +kernel, wellKept_of_check _ (by decide +kernel), by decide +kernel, by decide +kernel, by decide +kernel,
   by decide +kernel⟩

/-- With read 3 undelivered nothing can be reclaimed. -/
theorem witness_UnmatchedReadIsAllocated_full :
    WellKept (setRead 3 { readAt 3 fullTable with delivered := false } fullTable) ∧
      ∀ i, (readAt i (cleared 0x1070 2 (setRead 3 { readAt 3 fullTable with delivered := false } fullTable))).state ≠ .free ∧
        reclaimable (readAt i (cleared 0x1070 2 (setRead 3 { readAt 3 fullTable with delivered := false } fullTable))) =
          false :=
  ⟨wellKept_of_check _ (by decide +kernel), by decide +kernel⟩

/-- No entry, a peer's READ_ONLY region, a SILENT owner, the own READ_ONLY region, full queues. -/
theorem witness_RefusedWriteChangesNothing :
    WellKept onl ∧ portReady onl ∧ lookup (apertureAddr 0xFFF both onl) onl = none ∧
      lookup (apertureAddr 0x980 both onl) onl = some (entryOf 5 0x13 false false) ∧
      lookup (apertureAddr 0x900 both onl) onl = some (entryOf 7 0x12 true false) ∧ (peerOf 7 onl).presence = .silent ∧
      lookup (apertureAddr 0x80 both onl) onl = some (ownEntry 1 onl) ∧ WellKept queueFull ∧
      queueFull.writes.queue.length = 16 ∧ queueFull.resp.notices.length = 8 :=
  ⟨kept_onl, onl_ready, by decide +kernel, by decide +kernel, by decide +kernel, rfl, by decide +kernel,
   wellKept_of_check _ (by decide +kernel), by decide, by decide⟩

/-- A write that frees a READY read, out of both lists, and marks an ISSUED one. -/
theorem witness_HostWritesOvertakeReads :
    fullSized onl ∧ (overtake 0x1030 1 onl).reads.order = [0, 1, 2, 3, 5, 6] ∧ (overtake 0x1030 1 onl).sel.ready = [] ∧
      (readAt 0 (overtake 0x1001 2 onl)).overtaken = true :=
  ⟨kept_onl.sized, by decide +kernel, by decide +kernel, by decide +kernel⟩

/-- An own region, with seven notices held, and a PRESENT peer's, with fifteen writes queued; and one with none queued. -/
theorem witness_AcceptedWriteIsAppliedOrAdmitted :
    (WellKept emptyQueue ∧ portReady emptyQueue ∧
      lookup (apertureAddr 0x800 both emptyQueue) emptyQueue = some (entryOf 5 0x10 true false) ∧
      (peerOf 5 emptyQueue).presence = .present ∧ emptyQueue.writes.queue = []) ∧
    WellKept nearlyFull ∧ portReady nearlyFull ∧ lookup (apertureAddr 0 both nearlyFull) nearlyFull = some (ownEntry 0 onl) ∧
      nearlyFull.resp.notices.length = 7 ∧
      lookup (apertureAddr 0x800 both nearlyFull) nearlyFull = some (entryOf 5 0x10 true false) ∧
      (peerOf 5 nearlyFull).presence = .present ∧ nearlyFull.writes.queue.length = 15 :=
  ⟨⟨wellKept_of_check _ (by decide +kernel), ⟨rfl, rfl, rfl⟩, by decide +kernel, rfl, rfl⟩, wellKept_of_check _ (by decide +kernel),
   ⟨rfl, rfl, rfl⟩, by decide +kernel, by decide, by decide +kernel, rfl, by decide⟩

abbrev offWith (c : ConfigRecord) : State := { off with ctl := { off.ctl with config := c } }

/-- Each test of R136 failing at a boundary, and none. -/
theorem witness_JoinIsJudgedAndStartsListening :
    portReady onl ∧ portReady off ∧ judgeConfig config = .none ∧
      judgeConfig { config with station := 31 } = .stationUnset ∧ judgeConfig { config with tickDiv := 41 } = .timingRange ∧
      judgeConfig { config with bitDiv := 1 } = .timingRange ∧ judgeConfig { config with hbInterval := 251 } = .timingRange ∧
      judgeConfig { config with regions := [region true true 64 1 0] } = .regionRange ∧
      judgeConfig { config with regions := [region true true 2 0 0xFFFF] } = .regionRange ∧
      judgeConfig { config with regions := [region true true 2 0 0, region true true 1 0 1] } = .regionOverlap :=
  ⟨onl_ready, ⟨rfl, rfl, rfl⟩, by decide +kernel⟩

theorem witness_LeaveAndRestart :
    (WellKept off ∧ portReady off) ∧ (WellKept lis ∧ portReady lis) ∧ (WellKept ann ∧ portReady ann) ∧
      (WellKept onl ∧ portReady onl) ∧ (WellKept lea ∧ portReady lea) ∧ WellKept stp ∧ portReady stp :=
  ⟨⟨kept_off, rfl, rfl, rfl⟩, ⟨kept_lis, rfl, rfl, rfl⟩, ⟨kept_ann, rfl, rfl, rfl⟩, ⟨kept_onl, onl_ready⟩,
   ⟨kept_lea, rfl, rfl, rfl⟩, kept_stp, rfl, rfl, rfl⟩

theorem witness_NoticeAndClearCommands :
    portReady onl ∧ onl.resp.notices = [] ∧ portReady nearlyFull ∧ nearlyFull.resp.notices ≠ [] ∧
      ((7 : Word).extractLsb' 0 8).toNat = 7 :=
  ⟨onl_ready, rfl, ⟨rfl, rfl, rfl⟩, by decide, by decide⟩

theorem witness_WritableRegistersStore : portReady onl ∧ someByte { lo := false, hi := true } = true := ⟨onl_ready, rfl⟩

theorem witness_ConfigurationWordIsStored :
    WellKept off ∧ portReady off ∧ someByte both = true ∧ off.ctl.span = .offline :=
  ⟨kept_off, ⟨rfl, rfl, rfl⟩, rfl, rfl⟩

theorem witness_DividersTakeEffectAtOnce :
    portReady off ∧ off.ctl.span = .offline ∧ portReady onl ∧ onl.ctl.span ≠ .offline :=
  ⟨⟨rfl, rfl, rfl⟩, rfl, onl_ready, by decide⟩

/-- The first word of station 30's slot, and the word after it. -/
theorem witness_ReadsOfRegistersAndViews :
    fullSized onl ∧ portReady onl ∧ readsWord (areaOf 0x40F4) = true ∧
      (0x40F4 : BitVec 15).toNat * 2 = 0x8100 + 8 * ((30 : Station).toNat - 1) ∧ readsWord (areaOf 0x40F5) = true ∧
      ∀ n : Station, validStation n = true → (0x40F5 : BitVec 15).toNat * 2 ≠ 0x8100 + 8 * (n.toNat - 1) :=
  ⟨kept_onl.sized, onl_ready, by decide +kernel, by decide, by decide +kernel, by decide +kernel⟩

/-- ONLINE with a fault recorded and its overflow mark set. -/
def faulted : State :=
  { onl with ev := { onl.ev with fault := some { report := readFault (readAt 0 onl) .notMine, overflow := true } } }

/-- Notices and none, a fault and none, a directory slot with an entry and one past the end, a delayed read with a rank and one
without. -/
theorem witness_RegisterWords_ViewWords :
    (WellKept faulted ∧ faulted.ev.fault.isSome = true) ∧
    WellKept nearlyFull ∧ nearlyFull.resp.notices ≠ [] ∧ WellKept onl ∧ onl.resp.notices = [] ∧ onl.ev.fault = none ∧
      (∃ e, nearlyFull.dir.entries[5]? = some e) ∧ nearlyFull.dir.entries.length = 6 ∧
      nearlyFull.reads.order = [0, 1, 2, 3] ++ 4 :: [5, 6] ∧ (7 : ReadIndex) ∉ nearlyFull.reads.order :=
  ⟨⟨wellKept_of_check _ (by decide +kernel), rfl⟩, wellKept_of_check _ (by decide +kernel), by decide, kept_onl, rfl, rfl,
   ⟨_, rfl⟩, rfl, rfl, by decide⟩

/-- A cycle begun with the strobe held, and one while nRST is low. -/
theorem witness_CyclesThatReachNoBlock_notTaken :
    (Instr.apertureRead false 0 both).wellFormed = true ∧ beginsCycle onl (.apertureRead false 0 both) = true ∧
      { onl with port := { onl.port with strobeHeld := true } }.port.strobeHeld = true ∧
      { onl with port := { onl.port with resetLow := true } }.port.strobeHeld = false := ⟨rfl, rfl, rfl, rfl⟩

/-- The cycles that the port answers itself; and during the clear a cycle of a block, one with no byte enabled, and both strobes. -/
theorem witness_CyclesThatReachNoBlock :
    (portReady onl ∧ refusesWrites (areaOf 0x40F7) = true ∧ areaOf 0x40F8 = .unclaimed) ∧
      (State.reset.port.strobeHeld = false ∧ State.reset.port.resetLow = false ∧ State.reset.port.clearing = true) ∧
      ∀ c ∈ [Instr.hostRamWrite 0x1FFF both 5, .noByteEnableCycle .read 0, .bothStrobesCycle 0 both, .join true],
        c.wellFormed = true ∧ (cycleOf c).isSome = true :=
  ⟨⟨onl_ready, by decide +kernel, by decide +kernel⟩, ⟨rfl, rfl, rfl⟩, by decide +kernel⟩

/-! ### Every step -/

/-- A well-kept station with a command waiting takes a step, and its successor is not the state before. -/
theorem witness_StepKeeps :
    WellKept { onl with pending := [.hostRamWrite 0x1FFF both 0x1234] } ∧
      ∃ t, step { onl with pending := [.hostRamWrite 0x1FFF both 0x1234] } = .next t ∧ t.ram ≠ onl.ram :=
  ⟨wellKept_of_check _ (by decide +kernel), _, rfl, by decide +kernel⟩

theorem witness_WhatChangesSharedRam :
    ∃ t, exec (.hostRamWrite 0x1FFF both 0x1234) onl = .next t ∧ t.ram ≠ onl.ram :=
  ⟨_, rfl, by decide +kernel⟩

/-- A step of a station whose fault record is valid, with a flag set and a counter at FFFFh. -/
theorem witness_EventsAreKept :
    ∃ t r,
      exec .tick
          { onl with
            ev :=
              { onl.ev with
                flags := { onl.ev.flags with span := true }
                counters := { onl.ev.counters with stale := 0xFFFF }
                fault := some { report := readFault (readAt 0 onl) .notMine, overflow := false } } } = .next t ∧
        t.ev.fault = some r :=
  ⟨_, _, rfl, rfl⟩

theorem witness_SpanStateMoves :
    WellKept onl ∧ ∃ t, exec (.leave true) onl = .next t ∧ t.ctl.span ≠ onl.ctl.span :=
  ⟨kept_onl, _, rfl, by decide +kernel⟩

theorem witness_ChangesAreMarked :
    WellKept onl ∧ ∃ t, exec (.restart true) onl = .next t ∧ t.dir.entries ≠ onl.dir.entries ∧
      (peerOf 5 t).presence ≠ (peerOf 5 onl).presence :=
  ⟨kept_onl, _, rfl, by decide +kernel, by decide +kernel⟩

end Sys2Proof.Tests
end

/-! ## Lookups of an ordered directory (R21, R22) -/

namespace Sys2Proof.Machine

theorem dirContains_iff (e : DirEntry) (a : Nat) : dirContains e a = true ↔ dirStart e ≤ a ∧ a < dirEnd e := by
  simp [dirContains]

theorem ownContains_iff (a : Nat) (e : DirEntry) :
    ownContains a e = true ↔ e.own.isSome = true ∧ dirStart e ≤ a ∧ a < dirEnd e := by
  simp [ownContains, dirContains_iff]

/-- In an ordered directory no two entries contain the same address. -/
theorem eq_of_contain_same {s : State} (h : directoryOrdered s) {e f : DirEntry} (he : e ∈ s.dir.entries)
    (hf : f ∈ s.dir.entries) {a : Nat} (hea : dirStart e ≤ a ∧ a < dirEnd e) (hfa : dirStart f ≤ a ∧ a < dirEnd f) : e = f := by
  obtain ⟨i, hi, rfl⟩ := List.getElem_of_mem he
  obtain ⟨j, hj, rfl⟩ := List.getElem_of_mem hf
  have apart := List.pairwise_iff_getElem.mp h.2
  rcases lt_trichotomy i j with hij | rfl | hij
  · have := apart i j hi hj hij; omega
  · rfl
  · have := apart j i hj hi hij; omega

/-- A test that only an entry containing the address can pass finds that entry, where it passes. -/
theorem find?_entry {s : State} (h : directoryOrdered s) {e : DirEntry} (he : e ∈ s.dir.entries) {a : Nat}
    (hea : dirStart e ≤ a ∧ a < dirEnd e) {p : DirEntry → Bool}
    (hp : ∀ f, p f = true → dirStart f ≤ a ∧ a < dirEnd f) (hpe : p e = true) : s.dir.entries.find? p = some e := by
  cases hfind : s.dir.entries.find? p with
  | none => exact absurd hpe (by simpa using List.find?_eq_none.mp hfind e he)
  | some f =>
    rw [eq_of_contain_same h (List.mem_of_find?_eq_some hfind) he (hp f (List.find?_some hfind)) hea]

/-- The lookup answers the entry that contains the address. -/
theorem lookup_of_mem {s : State} (h : directoryOrdered s) {e : DirEntry} (he : e ∈ s.dir.entries) {a : GlobalAddr}
    (hea : dirStart e ≤ a.toNat ∧ a.toNat < dirEnd e) : lookup a s = some e :=
  find?_entry h he hea (fun f hf => (dirContains_iff f _).mp hf) ((dirContains_iff e _).mpr hea)

/-- The range lookup judges a request by the own entry that contains its first byte. -/
theorem regionCheck_of_mem {s : State} (h : directoryOrdered s) {e : DirEntry} (he : e ∈ s.dir.entries) {a : GlobalAddr}
    (hea : dirStart e ≤ a.toNat ∧ a.toNat < dirEnd e) {n : RegionIndex} (hn : e.own = some n) (len : Nat) :
    regionCheck a len s =
      if a.toNat + len ≤ dirEnd e then .inRegion e.readWrite (localAddress e n a s) else .outOfRange := by
  have hfind : s.dir.entries.find? (ownContains a.toNat) = some e :=
    find?_entry h he hea (fun f hf => ((ownContains_iff _ f).mp hf).2) ((ownContains_iff _ e).mpr ⟨by simp [hn], hea⟩)
  simp [regionCheck, hfind, hn]

/-- A request whose first byte is in no own entry is not for this station. -/
theorem regionCheck_notMine {s : State} {a : GlobalAddr} (len : Nat)
    (h : ∀ e ∈ s.dir.entries, e.own.isSome = true → ¬(dirStart e ≤ a.toNat ∧ a.toNat < dirEnd e)) :
    regionCheck a len s = .notMine := by
  have hfind : s.dir.entries.find? (ownContains a.toNat) = none :=
    List.find?_eq_none.mpr fun e he hc =>
      let ⟨hown, hin⟩ := (ownContains_iff _ e).mp hc
      h e he hown hin
  simp [regionCheck, hfind]

/-- Settles O20: the entry that contains the first byte is the only one that either lookup's test can find. -/
theorem lookupsFindTheEntry : Obligations.LookupsFindTheEntry := by
  intro s a h
  refine ⟨fun e he hlo hhi => ⟨lookup_of_mem h he ⟨hlo, hhi⟩, fun n len hn => ?_⟩, fun hnone => ?_,
    fun hnone len => ?_⟩
  · exact regionCheck_of_mem h he ⟨hlo, hhi⟩ hn len
  · exact List.find?_eq_none.mpr fun e he hc => hnone e he ((dirContains_iff e _).mp hc)
  · exact regionCheck_notMine len hnone

end Sys2Proof.Machine

/-! ## The directory's invariant, as the operations of chapter 2 keep it

`DirectoryKept` says of one block what the invariant says of the directory, with the configuration record fixed and with "the
owner is not ABSENT" left open as `ok`, so that the loss of a peer can name the stations that remain. -/

namespace Sys2Proof.Machine

/-- The directory is ordered, its own entries are those of configuration `c`, and every peer's entry has an owner that is `ok`. -/
structure DirectoryKept (c : ConfigRecord) (ok : Station → Prop) (s : State) : Prop where
  config : s.ctl.config = c
  judged : s.ctl.span ≠ .offline → judgeConfig c = .none
  sized : s.dir.statuses.length = 4
  shaped : ∀ e ∈ s.dir.entries, entryShape e
  apart : s.dir.entries.Pairwise (fun e f => dirEnd e ≤ dirStart f)
  ownEntries : ∀ e ∈ s.dir.entries, ∀ n, e.own = some n → e = ownEntry n s
  disabled : ∀ n, statusOf n s = .disabled ↔ (regionOf c n).enable = false
  entered : ∀ n, statusOf n s = .entered ↔ ∃ e ∈ s.dir.entries, e.own = some n
  published : ∀ n, statusOf n s = .entered ∨ statusOf n s = .eclipsed → onSpan s.ctl.span = true
  owners : ∀ e ∈ s.dir.entries, e.own = none → ok e.owner

variable {c : ConfigRecord} {ok ok' : Station → Prop} {s t : State}

/-! ### What the invariant rests on -/

theorem ownEntry_congr (n : RegionIndex) (h : t.ctl.config = s.ctl.config) : ownEntry n t = ownEntry n s := by
  simp [ownEntry, ownStation, h]

theorem statusOf_congr (n : RegionIndex) (h : t.dir.statuses = s.dir.statuses) : statusOf n t = statusOf n s := by
  simp [statusOf, h]

/-- Only the entries, the statuses, the configuration and the span state matter; the span state may move where it does not leave
the span. -/
theorem DirectoryKept.of_span (h : DirectoryKept c ok s) (he : t.dir.entries = s.dir.entries)
    (hs : t.dir.statuses = s.dir.statuses) (hc : t.ctl.config = s.ctl.config)
    (hj : t.ctl.span ≠ .offline → judgeConfig c = .none) (hx : onSpan s.ctl.span = true → onSpan t.ctl.span = true) :
    DirectoryKept c ok t where
  config := hc.trans h.config
  judged := hj
  sized := hs ▸ h.sized
  shaped := he ▸ h.shaped
  apart := he ▸ h.apart
  ownEntries e hm n hn := (h.ownEntries e (he ▸ hm) n hn).trans (ownEntry_congr n hc).symm
  disabled n := statusOf_congr n hs ▸ h.disabled n
  entered n := by rw [statusOf_congr n hs, he]; exact h.entered n
  published n hn := hx (h.published n (statusOf_congr n hs ▸ hn))
  owners := he ▸ h.owners

theorem DirectoryKept.of_same (h : DirectoryKept c ok s)
    (ht : t.dir = s.dir ∧ t.ctl.config = s.ctl.config ∧ t.ctl.span = s.ctl.span) : DirectoryKept c ok t := by
  obtain ⟨hd, hc, hx⟩ := ht
  exact h.of_span (by rw [hd]) (by rw [hd]) hc (hx ▸ h.judged) (hx ▸ id)

theorem DirectoryKept.mono (h : DirectoryKept c ok s) (hok : ∀ n, ok n → ok' n) : DirectoryKept c ok' s :=
  { h with owners := fun e he hn => hok _ (h.owners e he hn) }

theorem statusOf_restStatuses (n : RegionIndex) (h : s.dir.statuses = restStatuses c) :
    statusOf n s = restStatus (regionOf c n) := by
  rw [statusOf, h]
  fin_cases n <;> rfl

/-- An empty directory with its statuses at rest is kept, whatever the span state and the stations. -/
theorem DirectoryKept.of_empty (he : s.dir.entries = []) (hs : s.dir.statuses = restStatuses c) (hc : s.ctl.config = c)
    (hj : s.ctl.span ≠ .offline → judgeConfig c = .none) : DirectoryKept c ok s where
  config := hc
  judged := hj
  sized := by rw [hs]; rfl
  shaped := by simp [he]
  apart := by simp [he]
  ownEntries := by simp [he]
  disabled n := by rw [statusOf_restStatuses n hs, restStatus]; split <;> simp_all
  entered n := by rw [statusOf_restStatuses n hs, restStatus, he]; split <;> simp
  published n := by rw [statusOf_restStatuses n hs, restStatus]; split <;> simp
  owners := by simp [he]

/-! ### Statuses -/

theorem statusOf_setStatus (k n : RegionIndex) (x : OwnStatus) (h : s.dir.statuses.length = 4) :
    statusOf k (setStatus n x s) = if k = n then x else statusOf k s := by
  have hn : n.toNat < s.dir.statuses.length := by rw [h]; exact n.isLt
  by_cases hk : k = n
  · subst hk; simp [statusOf, setStatus, hn]
  · have hne : n.toNat ≠ k.toNat := fun hh => hk (BitVec.eq_of_toNat_eq hh.symm)
    simp [statusOf, setStatus, hk, List.getElem?_set_ne hne]

@[simp] theorem setStatus_statuses_length (n : RegionIndex) (x : OwnStatus) (s : State) :
    (setStatus n x s).dir.statuses.length = s.dir.statuses.length := by
  simp [setStatus]

theorem DirectoryKept.raise (h : DirectoryKept c ok s) (f : EventFlag) : DirectoryKept c ok (raise f s) :=
  h.of_same ⟨rfl, rfl, rfl⟩

/-- A region that is enabled and has no entry becomes ECLIPSED. -/
theorem DirectoryKept.eclipse (h : DirectoryKept c ok s) {n : RegionIndex} (hd : statusOf n s ≠ .disabled)
    (he : statusOf n s ≠ .entered) (ho : onSpan s.ctl.span = true) : DirectoryKept c ok (eclipse n s) := by
  have hst (k : RegionIndex) : statusOf k (Machine.eclipse n s) = if k = n then .eclipsed else statusOf k s :=
    statusOf_setStatus k n .eclipsed h.sized
  refine
    { h with
      sized := by simp [Machine.eclipse, h.sized]
      disabled := fun k => ?_
      entered := fun k => ?_
      published := fun _ _ => ho }
  · rw [hst]
    split
    · next hk => subst hk; simpa [h.disabled] using hd
    · exact h.disabled k
  · rw [hst]
    split
    · next hk => subst hk; exact ⟨by simp, fun hx => absurd ((h.entered k).mpr hx) he⟩
    · exact h.entered k

/-! ### Entries that go -/

/-- Entries go, and the own regions among them become ECLIPSED. -/
theorem DirectoryKept.remove (h : DirectoryKept c ok s) (p : DirEntry → Bool) (hctl : t.ctl = s.ctl)
    (he : t.dir.entries = s.dir.entries.filter p) (hsz : t.dir.statuses.length = s.dir.statuses.length)
    (hgone : ∀ n, (∃ e ∈ s.dir.entries, e.own = some n ∧ p e = false) → statusOf n t = .eclipsed)
    (hkept : ∀ n, (∀ e ∈ s.dir.entries, e.own = some n → p e = true) → statusOf n t = statusOf n s) :
    DirectoryKept c ok t := by
  have hsub : ∀ e, e ∈ t.dir.entries ↔ e ∈ s.dir.entries ∧ p e = true := fun e => by rw [he, List.mem_filter]
  have hcases (n : RegionIndex) :
      (∃ e ∈ s.dir.entries, e.own = some n ∧ p e = false) ∨ ∀ e ∈ s.dir.entries, e.own = some n → p e = true := by
    by_cases hx : ∃ e ∈ s.dir.entries, e.own = some n ∧ p e = false
    · exact .inl hx
    · exact .inr fun e hm hn => by
        by_contra hp
        exact hx ⟨e, hm, hn, by simpa using hp⟩
  exact
    { config := hctl ▸ h.config
      judged := hctl ▸ h.judged
      sized := hsz.trans h.sized
      shaped := fun e hm => h.shaped e ((hsub e).mp hm).1
      apart := he ▸ h.apart.filter p
      ownEntries := fun e hm n hn =>
        (h.ownEntries e ((hsub e).mp hm).1 n hn).trans (ownEntry_congr n (by rw [hctl])).symm
      disabled := fun n => by
        obtain hg | hk := hcases n
        · have hent := (h.entered n).mpr (hg.imp fun e ⟨hm, hn, _⟩ => ⟨hm, hn⟩)
          simp [hgone n hg, ← h.disabled n, hent]
        · rw [hkept n hk]; exact h.disabled n
      entered := fun n => by
        obtain hg | hk := hcases n
        · rw [hgone n hg]
          obtain ⟨e, hm, hn, hp⟩ := hg
          refine ⟨by simp, fun ⟨f, hf, hfn⟩ => ?_⟩
          obtain ⟨hfm, hfp⟩ := (hsub f).mp hf
          rw [h.ownEntries f hfm n hfn, ← h.ownEntries e hm n hn, hp] at hfp
          exact absurd hfp (by simp)
        · rw [hkept n hk, h.entered n]
          exact ⟨fun ⟨e, hm, hn⟩ => ⟨e, (hsub e).mpr ⟨hm, hk e hm hn⟩, hn⟩,
            fun ⟨e, hm, hn⟩ => ⟨e, ((hsub e).mp hm).1, hn⟩⟩
      published := fun n hn => by
        rw [hctl]
        obtain hg | hk := hcases n
        · obtain ⟨e, hm, hen, -⟩ := hg
          exact h.published n (.inl ((h.entered n).mpr ⟨e, hm, hen⟩))
        · exact h.published n (hkept n hk ▸ hn)
      owners := fun e hm hn => h.owners e ((hsub e).mp hm).1 hn }

/-- Another station's entries go, and no own one (R29). -/
theorem DirectoryKept.removeOwner (h : DirectoryKept c ok s) {n : Station} (hn : n ≠ c.station) :
    DirectoryKept c (fun m => ok m ∧ m ≠ n) (removeOwner n s) := by
  have hown : ∀ e ∈ s.dir.entries, ∀ k, e.own = some k → (e.owner != n) = true := fun e hm k hk => by
    have he := h.ownEntries e hm k hk
    rw [he]
    simpa [ownEntry, ownStation, h.config] using Ne.symm hn
  have hd : DirectoryKept c ok (Machine.removeOwner n s) :=
    h.remove (t := Machine.removeOwner n s) (fun e => e.owner != n) rfl rfl rfl
      (fun k ⟨e, hm, hk, hp⟩ => absurd (hown e hm k hk) (by simp [hp])) (fun _ _ => rfl)
  refine { hd with owners := fun e hm ho => ⟨hd.owners e hm ho, ?_⟩ }
  simpa using (List.mem_filter.mp hm).2

theorem eclipseEvicted_entries (s : State) (e : DirEntry) : (eclipseEvicted s e).dir.entries = s.dir.entries := by
  unfold eclipseEvicted
  split <;> rfl

theorem eclipseEvicted_sized (s : State) (e : DirEntry) :
    (eclipseEvicted s e).dir.statuses.length = s.dir.statuses.length := by
  unfold eclipseEvicted
  split
  · simp [Machine.eclipse]
  · rfl

theorem statusOf_eclipseEvicted (k : RegionIndex) (e : DirEntry) (h : s.dir.statuses.length = 4) :
    statusOf k (eclipseEvicted s e) = if e.own = some k then .eclipsed else statusOf k s := by
  unfold eclipseEvicted
  split
  · next n hn =>
    rw [hn, show statusOf k (Machine.eclipse n s) = _ from statusOf_setStatus k n .eclipsed h]
    simp only [Option.some.injEq, eq_comm (a := k)]
  · next hn => simp [hn]

/-- The evicted own regions become ECLIPSED, and every other status stays. -/
theorem statusOf_evicted (k : RegionIndex) (l : List DirEntry) (h : s.dir.statuses.length = 4) :
    statusOf k (l.foldl eclipseEvicted s) = if ∃ e ∈ l, e.own = some k then .eclipsed else statusOf k s := by
  induction l generalizing s with
  | nil => simp
  | cons e l ih =>
    rw [List.foldl_cons, ih ((eclipseEvicted_sized s e).trans h), statusOf_eclipseEvicted k e h]
    by_cases he : e.own = some k <;> simp [he]

@[simp] theorem evictFor_entries (cand : DirEntry) (s : State) :
    (evictFor cand s).dir.entries = s.dir.entries.filter (fun e => !dirOverlaps cand e) :=
  foldl_keeps eclipseEvicted (fun t => t.dir.entries) eclipseEvicted_entries _ _

theorem evictFor_sized (cand : DirEntry) (s : State) : (evictFor cand s).dir.statuses.length = s.dir.statuses.length :=
  foldl_keeps eclipseEvicted (fun t => t.dir.statuses.length) eclipseEvicted_sized _ _

theorem statusOf_evictFor (k : RegionIndex) (cand : DirEntry) (h : s.dir.statuses.length = 4) :
    statusOf k (evictFor cand s) =
      if ∃ e ∈ s.dir.entries.filter (dirOverlaps cand), e.own = some k then .eclipsed else statusOf k s :=
  statusOf_evicted k _ h

/-- An eviction keeps the directory (R26). -/
theorem DirectoryKept.evictFor (h : DirectoryKept c ok s) (cand : DirEntry) : DirectoryKept c ok (evictFor cand s) := by
  refine h.remove (fun e => !dirOverlaps cand e) (by simp) (evictFor_entries cand s) (evictFor_sized cand s)
    (fun n ⟨e, hm, hn, hp⟩ => ?_) (fun n hk => ?_)
  · rw [statusOf_evictFor n cand h.sized, if_pos ⟨e, List.mem_filter.mpr ⟨hm, by simpa using hp⟩, hn⟩]
  · rw [statusOf_evictFor n cand h.sized, if_neg]
    rintro ⟨e, hm, hn⟩
    obtain ⟨hm, ho⟩ := List.mem_filter.mp hm
    simpa [ho] using hk e hm hn

/-- After an eviction nothing overlaps the candidate. -/
theorem evictFor_clear (cand : DirEntry) (s : State) : ∀ e ∈ (evictFor cand s).dir.entries, dirOverlaps cand e = false := by
  intro e he
  rw [evictFor_entries] at he
  simpa using (List.mem_filter.mp he).2

/-! ### An entry that comes in -/

theorem not_dirOverlaps (e f : DirEntry) (h : dirOverlaps e f = false) : dirEnd e ≤ dirStart f ∨ dirEnd f ≤ dirStart e := by
  have h' := h
  simp only [dirOverlaps, rangesMeet, Bool.and_eq_false_iff, decide_eq_false_iff_not] at h'
  unfold dirEnd
  omega

theorem dirStart_lt_dirEnd {e : DirEntry} (h : entryShape e) : dirStart e < dirEnd e := by
  have := h.1
  unfold dirEnd
  omega

/-- An entry that overlaps none keeps the order when it is inserted by its base. -/
theorem insertByBase_apart {e : DirEntry} (he : entryShape e) :
    ∀ {l : List DirEntry}, (∀ f ∈ l, entryShape f) → (∀ f ∈ l, dirOverlaps e f = false) →
      l.Pairwise (fun e f => dirEnd e ≤ dirStart f) → (insertByBase e l).Pairwise (fun e f => dirEnd e ≤ dirStart f)
  | [], _, _, _ => List.pairwise_singleton _ _
  | f :: rest, hs, ho, hp => by
    obtain ⟨hf, hrest⟩ := List.pairwise_cons.mp hp
    have hlt := dirStart_lt_dirEnd he
    have hltf := dirStart_lt_dirEnd (hs f List.mem_cons_self)
    have hef := not_dirOverlaps e f (ho f List.mem_cons_self)
    unfold insertByBase
    split
    · next hb =>
      have hstart : dirStart e < dirStart f := by unfold dirStart; omega
      refine List.pairwise_cons.mpr ⟨fun g hg => ?_, hp⟩
      obtain rfl | hg := List.mem_cons.mp hg
      · omega
      · have := hf g hg; omega
    · next hb =>
      have hstart : dirStart f ≤ dirStart e := by unfold dirStart; omega
      refine List.pairwise_cons.mpr ⟨fun g hg => ?_, ?_⟩
      · obtain rfl | hg := List.mem_cons.mp ((insertByBase_perm e rest).mem_iff.mp hg)
        · omega
        · exact hf g hg
      · exact insertByBase_apart he (fun g hg => hs g (List.mem_cons_of_mem f hg))
          (fun g hg => ho g (List.mem_cons_of_mem f hg)) hrest

/-- A region comes in that overlaps no entry: a peer's as it is, an own one with its status ENTERED. -/
theorem DirectoryKept.insert (h : DirectoryKept c ok s) {e : DirEntry} (hshape : entryShape e)
    (hclear : ∀ f ∈ s.dir.entries, dirOverlaps e f = false) (hpeer : e.own = none → ok e.owner)
    (hown : ∀ n, e.own = some n → e = ownEntry n s ∧ (regionOf c n).enable = true ∧ onSpan s.ctl.span = true)
    (hctl : t.ctl = s.ctl) (he : t.dir.entries = insertByBase e s.dir.entries)
    (hsz : t.dir.statuses.length = s.dir.statuses.length)
    (hst : ∀ n, statusOf n t = if e.own = some n then .entered else statusOf n s) : DirectoryKept c ok t := by
  have hmem : ∀ f, f ∈ t.dir.entries ↔ f = e ∨ f ∈ s.dir.entries := fun f => by
    rw [he, (insertByBase_perm e _).mem_iff, List.mem_cons]
  exact
    { config := hctl ▸ h.config
      judged := hctl ▸ h.judged
      sized := hsz.trans h.sized
      shaped := fun f hf => ((hmem f).mp hf).elim (· ▸ hshape) (h.shaped f)
      apart := he ▸ insertByBase_apart hshape h.shaped hclear h.apart
      ownEntries := fun f hf n hn => by
        rw [ownEntry_congr (s := s) (t := t) n (by rw [hctl])]
        obtain rfl | hf := (hmem f).mp hf
        · exact (hown n hn).1
        · exact h.ownEntries f hf n hn
      disabled := fun n => by
        rw [hst]
        split
        · next hn => simp [(hown n hn).2.1]
        · exact h.disabled n
      entered := fun n => by
        rw [hst]
        split
        · next hn => simpa using ⟨e, (hmem e).mpr (.inl rfl), hn⟩
        · next hn =>
          rw [h.entered n]
          refine ⟨fun ⟨f, hf, hfn⟩ => ⟨f, (hmem f).mpr (.inr hf), hfn⟩, fun ⟨f, hf, hfn⟩ => ?_⟩
          obtain rfl | hf := (hmem f).mp hf
          · exact absurd hfn hn
          · exact ⟨f, hf, hfn⟩
      published := fun n hn => by
        rw [hctl]
        by_cases hne : e.own = some n
        · exact (hown n hne).2.2
        · exact h.published n (by simpa [hst, hne] using hn)
      owners := fun f hf hn => by
        obtain rfl | hf := (hmem f).mp hf
        · exact hpeer hn
        · exact h.owners f hf hn }

theorem DirectoryKept.insertPeer (h : DirectoryKept c ok s) {e : DirEntry} (hshape : entryShape e) (hpeer : e.own = none)
    (hok : ok e.owner) (hclear : ∀ f ∈ s.dir.entries, dirOverlaps e f = false) : DirectoryKept c ok (insertEntry e s) :=
  h.insert (t := insertEntry e s) hshape hclear (fun _ => hok) (by simp [hpeer]) rfl rfl rfl (fun n => by simp [hpeer]; rfl)

/-- A configuration that JOIN accepts has a station number, and each enabled region in its ranges (R136). -/
theorem judgeConfig_eq_none (h : judgeConfig c = .none) :
    validStation c.station = true ∧ ∀ n, regionRangeOk (regionOf c n) = true := by
  unfold judgeConfig at h
  split at h
  · cases h
  next hstation =>
    split at h
    · cases h
    split at h
    · cases h
    next hregions =>
      simp only [Bool.not_eq_true', Bool.not_eq_false, List.all_eq_true] at hstation hregions
      exact ⟨hstation, fun n => hregions n (by fin_cases n <;> decide)⟩

/-- An enabled region of an accepted configuration makes an entry of the right shape. -/
theorem ownEntry_shape {n : RegionIndex} (hc : s.ctl.config = c) (hj : judgeConfig c = .none)
    (hn : (regionOf c n).enable = true) : entryShape (ownEntry n s) := by
  obtain ⟨hstation, hregions⟩ := judgeConfig_eq_none hj
  have hregion := hregions n
  simp only [regionRangeOk, hn, inRange, Bool.not_true, Bool.false_or, Bool.and_eq_true, decide_eq_true_eq] at hregion
  obtain ⟨⟨⟨hlo, hhi⟩, -⟩, hend⟩ := hregion
  rw [← hc] at hlo hhi hend hstation
  exact ⟨hlo, hhi, hend, hstation⟩

theorem DirectoryKept.insertOwn (h : DirectoryKept c ok s) {n : RegionIndex} (hn : (regionOf c n).enable = true)
    (ho : onSpan s.ctl.span = true) (hclear : ∀ f ∈ s.dir.entries, dirOverlaps (ownEntry n s) f = false) :
    DirectoryKept c ok (setStatus n .entered (insertEntry (ownEntry n s) s)) := by
  have hj : judgeConfig c = .none := h.judged (fun hx => by simp [hx, onSpan] at ho)
  refine h.insert (ownEntry_shape h.config hj hn) hclear (by simp [ownEntry]) (fun k hk => ?_) rfl rfl
    (setStatus_statuses_length n .entered _) (fun k => ?_)
  · obtain rfl : n = k := by simpa [ownEntry] using hk
    exact ⟨rfl, hn, ho⟩
  · rw [statusOf_setStatus (s := insertEntry (ownEntry n s) s) k n _ h.sized]
    simp only [ownEntry, Option.some.injEq, eq_comm (a := k)]
    rfl

end Sys2Proof.Machine

/-! ## Placing, return and removal keep the directory (R24 to R32) -/

namespace Sys2Proof.Machine

variable {c : ConfigRecord} {ok ok' : Station → Prop} {s t : State}

/-! ### Placing -/

theorem judgePlacing_insert {cand : DirEntry} {l : List DirEntry} (h : judgePlacing cand l = .insert) :
    ∀ e ∈ l, dirOverlaps cand e = false := by
  unfold judgePlacing at h
  split at h
  · split at h <;> cases h
  next hany => simpa using hany

/-- A peer's region is placed (R25, R26). -/
theorem DirectoryKept.placePeer (h : DirectoryKept c ok s) {e : DirEntry} (hshape : entryShape e) (hpeer : e.own = none)
    (hok : ok e.owner) : DirectoryKept c ok (place e s) := by
  unfold place
  split
  next hj => exact h.insertPeer hshape hpeer hok (judgePlacing_insert hj)
  · exact (h.evictFor e).insertPeer hshape hpeer hok (evictFor_clear e s)
  · exact h.of_same (by simp)
  · exact h.of_same (by simp)

theorem peerEntry_shape {n : Station} {g : RegionGroup} (hn : validStation n = true) (hg : groupShape g) :
    entryShape (peerEntry n g) := by
  obtain ⟨hlo, hhi, hend⟩ := hg
  refine ⟨hlo, hhi, ?_, hn⟩
  simp only [dirEnd, dirStart, peerEntry]
  omega

/-- The regions of an ANNOUNCE are placed one after the other (R27). -/
theorem DirectoryKept.placeListed {n : Station} (hn : validStation n = true) (hok : ok n) {gs : List RegionGroup}
    (hgs : ∀ g ∈ gs, groupShape g) (earlier : List DirEntry) (h : DirectoryKept c ok s) :
    DirectoryKept c ok (placeListed n gs earlier s) := by
  induction gs generalizing earlier s with
  | nil => exact h
  | cons g rest ih =>
    refine ih (fun g' hg' => hgs g' (List.mem_cons_of_mem g hg')) _ ?_
    split
    · exact h.of_same (by simp)
    · exact h.placePeer (peerEntry_shape hn (hgs g List.mem_cons_self)) rfl hok

/-! ### Own regions -/

theorem DirectoryKept.enabled (h : DirectoryKept c ok s) {n : RegionIndex} (hn : statusOf n s ≠ .disabled) :
    (regionOf c n).enable = true := by
  simpa [h.disabled] using hn

/-- An own region is placed on entering ANNOUNCING: it comes in, or becomes ECLIPSED (R24). -/
theorem DirectoryKept.placeOwn (h : DirectoryKept c ok s) (ho : onSpan s.ctl.span = true) (n : RegionIndex) :
    DirectoryKept c ok (placeOwn s n) := by
  have hrefused (u : State) (hu : DirectoryKept c ok u) (hd : u.dir = s.dir) (hx : u.ctl = s.ctl)
      (hn : statusOf n s = .notPublished) : DirectoryKept c ok (Machine.eclipse n u) := by
    have hstatus : statusOf n u = .notPublished := (statusOf_congr n (by rw [hd])).trans hn
    exact hu.eclipse (by simp [hstatus]) (by simp [hstatus]) (hx ▸ ho)
  unfold Machine.placeOwn
  split
  next hn =>
    have henable : (regionOf c n).enable = true := h.enabled (by simp [hn])
    cases hj : judgePlacing (ownEntry n s) s.dir.entries <;>
      simp only [place, hj, entersDirectory, if_true, Bool.false_eq_true, if_false]
    case insert => exact h.insertOwn henable ho (judgePlacing_insert hj)
    case evictAndInsert =>
      have hsame : ownEntry n (Machine.evictFor (ownEntry n s) s) = ownEntry n s := ownEntry_congr n (by simp)
      have hin := (h.evictFor (ownEntry n s)).insertOwn henable (by simpa using ho)
        (by rw [hsame]; exact evictFor_clear (ownEntry n s) s)
      rwa [hsame] at hin
    case conflict => exact hrefused _ (h.of_same (by simp)) (by simp) (by simp) hn
    case capacity => exact hrefused _ (h.of_same (by simp)) (by simp) (by simp) hn
  · exact h

theorem DirectoryKept.placeOwnRegions (h : DirectoryKept c ok s) (ho : onSpan s.ctl.span = true) :
    DirectoryKept c ok (placeOwnRegions s) :=
  (List.foldlRecOn (motive := fun t => DirectoryKept c ok t ∧ onSpan t.ctl.span = true) allRegionIndexes
    Machine.placeOwn ⟨h, ho⟩ fun _ ⟨hu, hx⟩ n _ => ⟨hu.placeOwn hx n, by simpa using hx⟩).1

/-- An ECLIPSED region whose range is clear comes in (R31). -/
theorem DirectoryKept.returnRegion (h : DirectoryKept c ok s) (ho : onSpan s.ctl.span = true) (n : RegionIndex) :
    DirectoryKept c ok (returnRegion s n) := by
  unfold Machine.returnRegion
  split
  next hn =>
    simp only [Bool.and_eq_true, decide_eq_true_eq, Bool.not_eq_true', List.any_eq_false, Bool.not_eq_true] at hn
    obtain ⟨⟨hstatus, hclear⟩, -⟩ := hn
    exact (h.insertOwn (h.enabled (by simp [hstatus])) ho hclear).raise .eclipse
  · exact h

theorem DirectoryKept.returnRule (h : DirectoryKept c ok s) : DirectoryKept c ok (returnRule s) := by
  unfold Machine.returnRule
  split
  next ho =>
    have hreturned := List.foldlRecOn (motive := fun t => DirectoryKept c ok t ∧ onSpan t.ctl.span = true) allRegionIndexes
      Machine.returnRegion ⟨h, ho⟩ fun _ ⟨hu, hx⟩ n _ => ⟨hu.returnRegion hx n, by simpa using hx⟩
    exact hreturned.1.of_same (by simp)
  · exact h

/-- The directory's part of the loss of another station (R29). -/
theorem DirectoryKept.directoryLoses (h : DirectoryKept c ok s) {n : Station} (hn : n ≠ c.station) :
    DirectoryKept c (fun m => ok m ∧ m ≠ n) (directoryLoses n s) :=
  (h.removeOwner hn).returnRule

/-- An ANNOUNCE of another station, which is `ok` where ANNOUNCE frames are taken (R27). -/
theorem DirectoryKept.takeRegions (h : DirectoryKept c ok s) {n : Station} (hn : n ≠ c.station) (hv : validStation n = true)
    (hok : hearing s.ctl.span = true → ok n) {gs : List RegionGroup} (hgs : ∀ g ∈ gs, groupShape g) :
    DirectoryKept c ok (takeRegions n gs s) := by
  unfold Machine.takeRegions
  split
  next hx => exact (((h.removeOwner hn).mono fun _ hm => hm.1).placeListed hv (hok hx) hgs []).returnRule
  · exact h

/-- The end of an event leaves the entries and the statuses as they are. -/
theorem DirectoryKept.eventEnd (b : State) (h : DirectoryKept c ok s) : DirectoryKept c ok (eventEnd b s) := by
  obtain ⟨he, hs, -, -, -, hx, hc, -⟩ := eventEnd_kept b s
  exact h.of_span he hs hc (hx ▸ h.judged) (hx ▸ id)

/-! ### The frames that pass the checks (R11) -/

theorem checkFrame_src {b : List Byte} {f : Frame} (h : checkFrame b = some f) : validStation f.src = true := by
  unfold checkFrame at h
  split at h
  · cases h
  split at h
  next hok =>
    obtain rfl := Option.some.inj h
    simp only [formatOk, keyOk, Bool.and_eq_true] at hok
    simp only [validStation, Bool.and_eq_true]
    tauto
  · cases h

theorem groupOk_shape {b : List Byte} {k : Nat} (h : groupOk b k = true) : groupShape (frameGroup b k) := by
  simp only [groupOk, Bool.and_eq_true, decide_eq_true_eq] at h
  obtain ⟨⟨⟨hlo, hhi⟩, hend⟩, -⟩ := h
  have hlength : (frameGroup b k).length.toNat = (byteAt b (8 + 4 * k)).toNat := by
    simp only [frameGroup, BitVec.toNat_setWidth]
    omega
  unfold groupShape
  omega

theorem checkFrame_regions {b : List Byte} {f : Frame} (h : checkFrame b = some f) {interval : Byte}
    {gs : List RegionGroup} (hb : f.body = .announce interval gs) : ∀ g ∈ gs, groupShape g := by
  unfold checkFrame at h
  split at h
  · cases h
  next k hk =>
    split at h
    next hok =>
      obtain rfl := Option.some.inj h
      cases k <;> simp only [frameBody, reduceCtorEq, Body.announce.injEq] at hb
      obtain ⟨-, rfl⟩ := hb
      simp only [formatOk, announceOk, Bool.and_eq_true, List.all_eq_true] at hok
      obtain ⟨⟨-, -, hgroups⟩, -⟩ := hok
      simp only [List.mem_map]
      rintro g ⟨j, hj, rfl⟩
      exact groupOk_shape (hgroups j hj)
    · cases h

end Sys2Proof.Machine

/-! ## The requests of the two agents, as the operations of chapters 3 and 4 keep them

`ReadsKept` and `WritesKept` say whose requests the agents hold, again with "the destination is not ABSENT" left open as `ok`. -/

namespace Sys2Proof.Machine

/-- A fetching read has a rank, and a destination that is `ok`. -/
structure ReadsKept (ok : Station → Prop) (s : State) : Prop where
  sized : s.reads.entries.length = Config.readEntries
  ranked : ∀ i, fetching (readAt i s).state = true → i ∈ s.reads.order
  heard : ∀ i, fetching (readAt i s).state = true → ok (readAt i s).dest

/-- A posted write has a destination that is `ok`. -/
def WritesKept (ok : Station → Prop) (s : State) : Prop := ∀ w ∈ s.writes.queue, ok w.dest

variable {ok ok' : Station → Prop} {s t : State}

/-! ### One entry of the table -/

theorem readAt_congr (i : ReadIndex) (h : t.reads = s.reads) : readAt i t = readAt i s := by
  simp [readAt, h]

theorem ReadsKept.of_reads (h : ReadsKept ok s) (ht : t.reads = s.reads) : ReadsKept ok t where
  sized := ht ▸ h.sized
  ranked i hi := ht ▸ h.ranked i (readAt_congr i ht ▸ hi)
  heard i hi := by rw [readAt_congr i ht] at hi ⊢; exact h.heard i hi

theorem ReadsKept.mono (h : ReadsKept ok s) (hok : ∀ n, ok n → ok' n) : ReadsKept ok' s :=
  { h with heard := fun i hi => hok _ (h.heard i hi) }

@[simp] theorem setRead_reads (i : ReadIndex) (e : ReadEntry) (s : State) :
    (setRead i e s).reads = { s.reads with entries := s.reads.entries.set i.toNat e } := rfl

@[simp] theorem freeRead_reads (i : ReadIndex) (s : State) :
    (freeRead i s).reads =
      { entries := s.reads.entries.set i.toNat (ReadEntry.free (readAt i s).incarnation)
        order := s.reads.order.filter (fun j => j != i) } := rfl

theorem readAt_freeRead_other (i j : ReadIndex) (s : State) (h : j ≠ i) : readAt j (freeRead i s) = readAt j s :=
  readAt_setRead_other s i j _ h

theorem readAt_freeRead_self (i : ReadIndex) (h : s.reads.entries.length = Config.readEntries) :
    readAt i (freeRead i s) = ReadEntry.free (readAt i s).incarnation :=
  readAt_setRead_self s i _ h

/-- An entry is replaced by one that is not fetching, or whose fetch was there before. -/
theorem ReadsKept.setRead (h : ReadsKept ok s) (i : ReadIndex) (e : ReadEntry)
    (he : fetching e.state = true → fetching (readAt i s).state = true ∧ e.dest = (readAt i s).dest) :
    ReadsKept ok (setRead i e s) := by
  have hfrom : ∀ j, fetching (readAt j (Machine.setRead i e s)).state = true →
      fetching (readAt j s).state = true ∧ (readAt j (Machine.setRead i e s)).dest = (readAt j s).dest := by
    intro j hj
    by_cases hji : j = i
    · subst hji
      rw [readAt_setRead_self s j e h.sized] at hj ⊢
      exact he hj
    · rw [readAt_setRead_other s i j e hji] at hj ⊢
      exact ⟨hj, rfl⟩
  exact
    { sized := by simp [h.sized]
      ranked := fun j hj => h.ranked j (hfrom j hj).1
      heard := fun j hj => (hfrom j hj).2 ▸ h.heard j (hfrom j hj).1 }

theorem ReadsKept.freeRead (h : ReadsKept ok s) (i : ReadIndex) : ReadsKept ok (freeRead i s) := by
  have hne : ∀ j, fetching (readAt j (Machine.freeRead i s)).state = true → j ≠ i := by
    rintro j hj rfl
    rw [readAt_freeRead_self j h.sized] at hj
    cases hj
  refine ⟨by simp [h.sized], fun j hj => ?_, fun j hj => ?_⟩ <;> have hji := hne j hj <;>
    rw [readAt_freeRead_other i j s hji] at hj
  · exact List.mem_filter.mpr ⟨h.ranked j hj, by simpa using hji⟩
  · rw [readAt_freeRead_other i j s hji]
    exact h.heard j hj

theorem ReadsKept.makeReady (h : ReadsKept ok s) {i : ReadIndex} (hi : fetching (readAt i s).state = true) :
    ReadsKept ok (makeReady i s) :=
  (h.setRead i { readAt i s with state := .ready, responseTimer := none } fun _ => ⟨hi, rfl⟩).of_reads
    (by simp [Machine.makeReady])

theorem ReadsKept.completeRead (h : ReadsKept ok s) (i : ReadIndex) (o : ReadOutcome) (data : List Byte) :
    ReadsKept ok (completeRead i o data s) := by
  unfold Machine.completeRead
  split
  · exact h.freeRead i
  · exact (h.of_reads (t := unreadyRead i s) (by simp)).setRead i _ (by simp [fetching])

theorem ReadsKept.failRead (h : ReadsKept ok s) (r : FaultReason) (i : ReadIndex) : ReadsKept ok (failRead r s i) := by
  unfold Machine.failRead
  split
  · exact h.freeRead i
  · exact (h.completeRead i (.fault r) []).of_reads (by simp)

theorem ReadsKept.readSent (h : ReadsKept ok s) (i : ReadIndex) (inc : Incarnation) : ReadsKept ok (readSent i inc s) := by
  simp only [Machine.readSent]
  split
  next hr =>
    simp only [Bool.and_eq_true, decide_eq_true_eq] at hr
    exact h.setRead i _ fun _ => ⟨by simp [hr.2, fetching], rfl⟩
  · exact h

theorem ReadsKept.overtake (h : ReadsKept ok s) (a n : Nat) : ReadsKept ok (overtake a n s) := by
  refine List.foldlRecOn (motive := ReadsKept ok) allReadIndexes (overtakeRead a n) h fun u hu i _ => ?_
  simp only [overtakeRead]
  split
  · split
    · exact hu.setRead i _ fun hf => ⟨hf, rfl⟩
    · exact hu.freeRead i
  · exact hu

/-! ### The whole table -/

theorem readAt_map (g : ReadEntry → ReadEntry) (i : ReadIndex) (h : s.reads.entries.length = Config.readEntries)
    (ht : t.reads.entries = s.reads.entries.map g) : readAt i t = g (readAt i s) := by
  have hi : i.toNat < s.reads.entries.length := by rw [h]; exact i.isLt
  simp [readAt, ht, hi]

/-- Every entry keeps its state and its destination. -/
theorem ReadsKept.map (h : ReadsKept ok s) (g : ReadEntry → ReadEntry)
    (hg : ∀ e, (g e).state = e.state ∧ (g e).dest = e.dest)
    (ht : t.reads = { s.reads with entries := s.reads.entries.map g }) : ReadsKept ok t := by
  have hat (i : ReadIndex) : readAt i t = g (readAt i s) := readAt_map g i h.sized (by rw [ht])
  refine ⟨by simp [ht, h.sized], fun i hi => ?_, fun i hi => ?_⟩ <;> rw [hat, (hg _).1] at hi
  · rw [ht]; exact h.ranked i hi
  · rw [hat, (hg _).2]; exact h.heard i hi

theorem ReadsKept.recountAhead (h : ReadsKept ok s) (f : Nat → Nat) : ReadsKept ok (recountAhead f s) :=
  h.map (fun e => { e with ahead := f e.ahead }) (fun _ => ⟨rfl, rfl⟩) rfl

theorem ReadsKept.releaseBarriers (h : ReadsKept ok s) : ReadsKept ok (releaseBarriers s) := by
  refine List.foldlRecOn (motive := ReadsKept ok) s.reads.order releaseRead h fun u hu i _ => ?_
  unfold releaseRead
  split
  next hw =>
    simp only [Bool.and_eq_true, decide_eq_true_eq] at hw
    exact hu.makeReady (by simp [hw.1, fetching])
  · exact hu

/-- A table of FREE entries holds no request. -/
theorem ReadsKept.freeAllReads (hs : s.reads.entries.length = Config.readEntries) : ReadsKept ok (freeAllReads s) := by
  have hat (i : ReadIndex) : readAt i (Machine.freeAllReads s) = ReadEntry.free (readAt i s).incarnation :=
    readAt_map (fun e => ReadEntry.free e.incarnation) i hs rfl
  exact ⟨by simp [Machine.freeAllReads, hs], fun i hi => by simp [hat, ReadEntry.free, fetching] at hi,
    fun i hi => by simp [hat, ReadEntry.free, fetching] at hi⟩

/-! ### A new read (R48 to R50) -/

theorem ReadsKept.allocateRead (h : ReadsKept ok s) (i : ReadIndex) {n : Station} (hn : ok n) (a : GlobalAddr) (len : Nat)
    (p : Bool) : ReadsKept ok (allocateRead i n a len p s) := by
  obtain ⟨e, hdest, hreads⟩ : ∃ e : ReadEntry, e.dest = n ∧ (Machine.allocateRead i n a len p s).reads =
      { entries := (Machine.freeRead i s).reads.entries.set i.toNat e, order := (Machine.freeRead i s).reads.order ++ [i] } := by
    refine ⟨allocated ((readAt i s).incarnation + 1) n a len p s, rfl, ?_⟩
    simp only [Machine.allocateRead]
    split <;> simp
  have hfree := h.freeRead i
  have hset : ∀ j, readAt j (Machine.allocateRead i n a len p s) = readAt j (Machine.setRead i e (Machine.freeRead i s)) :=
    fun j => by simp [readAt, hreads]
  refine ⟨by simp [hreads, h.sized], fun j hj => ?_, fun j hj => ?_⟩ <;> by_cases hji : j = i
  · simp [hreads, hji]
  · rw [hset, readAt_setRead_other _ i j e hji] at hj
    rw [hreads]
    exact List.mem_append_left _ (hfree.ranked j hj)
  · subst hji
    rw [hset, readAt_setRead_self _ j e hfree.sized, hdest]
    exact hn
  · rw [hset, readAt_setRead_other _ i j e hji] at hj ⊢
    exact hfree.heard j hj

theorem ReadsKept.allocate (h : ReadsKept ok s) {n : Station} (hn : ok n) (a : GlobalAddr) (len : Nat) (p : Bool) :
    ReadsKept ok (allocate n a len p s).next := by
  have hfull (u : State) (hu : ReadsKept ok u) : ReadsKept ok (tableFull u).next := hu.of_reads (by simp [tableFull, answerOnly])
  simp only [Machine.allocate]
  split
  · have hcleared := List.foldlRecOn (motive := ReadsKept ok) (allReadIndexes.filter (readOverlaps a.toNat len s))
      (fun u i => Machine.freeRead i u) h fun u hu i _ => hu.freeRead i
    split
    next i _ => exact hcleared.allocateRead i hn a len p
    · exact hfull s h
  · exact hfull s h

/-! ### The queue of posted writes -/

theorem WritesKept.of_mem (h : WritesKept ok s) (hsub : ∀ w ∈ t.writes.queue, w ∈ s.writes.queue) : WritesKept ok t :=
  fun w hw => h w (hsub w hw)

theorem WritesKept.of_writes (h : WritesKept ok s) (ht : t.writes = s.writes) : WritesKept ok t :=
  h.of_mem fun _ hw => ht ▸ hw

theorem WritesKept.mono (h : WritesKept ok s) (hok : ∀ n, ok n → ok' n) : WritesKept ok' s := fun w hw => hok _ (h w hw)

/-- The head is replaced by an entry to the same station. -/
theorem WritesKept.setHead (h : WritesKept ok s) {w w' : PostedWrite} {rest : List PostedWrite}
    (hq : s.writes.queue = w :: rest) (hw : w'.dest = w.dest) : WritesKept ok (setHead w' s) := by
  intro x hx
  obtain rfl | hx := List.mem_cons.mp (show x ∈ w' :: s.writes.queue.tail from hx)
  · exact hw ▸ h w (by simp [hq])
  · exact h x (List.mem_of_mem_tail hx)

theorem WritesKept.writeSent (h : WritesKept ok s) (k : Word) : WritesKept ok (writeSent k s) := by
  unfold Machine.writeSent
  split
  · exact h
  next w rest hq =>
    split
    · exact h.setHead hq rfl
    · exact h

@[simp] theorem popHead_queue (s : State) : (popHead s).writes.queue = s.writes.queue.tail := rfl

@[simp] theorem dropHead_queue (w : PostedWrite) (r : FaultReason) (s : State) :
    (dropHead w r s).writes.queue = s.writes.queue.tail := rfl

theorem mem_queue_of_judgeHeads {w : PostedWrite} :
    ∀ (l : List PostedWrite) {s : State}, w ∈ (judgeHeads l s).writes.queue → w ∈ s.writes.queue
  | [], _, hw => hw
  | x :: rest, s, hw => by
    unfold judgeHeads at hw
    split at hw
    · simpa using hw
    · exact List.mem_of_mem_tail (dropHead_queue x .unreachable s ▸ mem_queue_of_judgeHeads rest hw)

theorem mem_queue_of_headGone {w : PostedWrite} (hw : w ∈ (headGone s).writes.queue) : w ∈ s.writes.queue := by
  simp only [headGone, releaseBarriers_frame] at hw
  exact mem_queue_of_judgeHeads _ hw

theorem ReadsKept.popHead (h : ReadsKept ok s) : ReadsKept ok (popHead s) :=
  (h.of_reads (t := setQueue s.writes.queue.tail (unreadyWrite s)) (by simp)).recountAhead (· - 1)

theorem ReadsKept.dropHead (h : ReadsKept ok s) (w : PostedWrite) (r : FaultReason) : ReadsKept ok (dropHead w r s) :=
  h.popHead.of_reads (by simp [Machine.dropHead])

theorem ReadsKept.judgeHeads (l : List PostedWrite) (h : ReadsKept ok s) : ReadsKept ok (judgeHeads l s) := by
  induction l generalizing s with
  | nil => exact h
  | cons w rest ih =>
    unfold Machine.judgeHeads
    split
    · exact h.of_reads (by simp)
    · exact ih (h.dropHead w .unreachable)

theorem ReadsKept.headGone (h : ReadsKept ok s) : ReadsKept ok (headGone s) := (h.judgeHeads _).releaseBarriers

/-! ### Answers -/

theorem ReadsKept.takeReadRsp (h : ReadsKept ok s) (n : Station) (tag : Byte) (data : List Byte) :
    ReadsKept ok (takeReadRsp n tag data s) := by
  unfold Machine.takeReadRsp
  split
  · exact h.completeRead _ _ _
  · exact h.of_reads (by simp)

theorem ReadsKept.takeReadNack (h : ReadsKept ok s) (n : Station) (tag : Byte) (r : NackReason) :
    ReadsKept ok (takeReadNack n tag r s) := by
  unfold Machine.takeReadNack
  split
  · exact h.failRead _ _
  · exact h.of_reads (by simp)

theorem ReadsKept.takeWriteAck (h : ReadsKept ok s) (n : Station) (tag : Byte) : ReadsKept ok (takeWriteAck n tag s) := by
  unfold Machine.takeWriteAck
  split
  · exact h.of_reads (by simp)
  · split
    · exact h.popHead.headGone
    · exact h.of_reads (by simp)

theorem WritesKept.takeWriteAck (h : WritesKept ok s) (n : Station) (tag : Byte) : WritesKept ok (takeWriteAck n tag s) := by
  unfold Machine.takeWriteAck
  split
  · exact h.of_writes (by simp)
  · split
    · exact h.of_mem fun w hw => List.mem_of_mem_tail (popHead_queue s ▸ mem_queue_of_headGone hw)
    · exact h.of_writes (by simp)

theorem ReadsKept.takeWriteNack (h : ReadsKept ok s) (n : Station) (tag : Byte) (r : NackReason) :
    ReadsKept ok (takeWriteNack n tag r s) := by
  unfold Machine.takeWriteNack
  split
  · exact h.of_reads (by simp)
  · split
    · split
      · exact h.of_reads (by simp)
      · exact (h.dropHead _ _).headGone
    · exact h.of_reads (by simp)

theorem WritesKept.takeWriteNack (h : WritesKept ok s) (n : Station) (tag : Byte) (r : NackReason) :
    WritesKept ok (takeWriteNack n tag r s) := by
  unfold Machine.takeWriteNack
  split
  · exact h.of_writes (by simp)
  next w rest hq =>
    split
    · split
      · exact (h.of_writes (t := unreadyWrite s) (by simp)).setHead (w := w) (rest := rest) (by simpa using hq) rfl
      · exact h.of_mem fun x hx => List.mem_of_mem_tail (dropHead_queue w _ s ▸ mem_queue_of_headGone hx)
    · exact h.of_writes (by simp)

/-! ### Purges (R61, R81, R82) -/

theorem readAt_failRead_other (r : FaultReason) (i j : ReadIndex) (s : State) (h : j ≠ i) :
    readAt j (failRead r s i) = readAt j s := by
  rw [failRead_eq]
  split
  · exact readAt_freeRead_other i j s h
  · exact readAt_setRead_other s i j _ h

theorem failRead_ends_fetch (r : FaultReason) (i : ReadIndex) (h : s.reads.entries.length = Config.readEntries) :
    fetching (readAt i (failRead r s i)).state = false := by
  rw [failRead_eq]
  split
  · exact congrArg (fun e => fetching e.state) (readAt_freeRead_self i h)
  · exact congrArg (fun e => fetching e.state) (readAt_setRead_self s i _ h)

/-- A read that still fetches after a purge is not among the purged ones, and is as it was. -/
theorem readAt_of_failed (r : FaultReason) (j : ReadIndex) :
    ∀ (l : List ReadIndex) {s : State}, ReadsKept ok s → fetching (readAt j (l.foldl (failRead r) s)).state = true →
      j ∉ l ∧ readAt j (l.foldl (failRead r) s) = readAt j s
  | [], _, _, _ => by simp
  | i :: l, s, h, hj => by
    obtain ⟨hnot, hsame⟩ := readAt_of_failed r j l (h.failRead r i) hj
    have hji : j ≠ i := by
      rintro rfl
      rw [List.foldl_cons, hsame, failRead_ends_fetch r j h.sized] at hj
      cases hj
    exact ⟨by simp [hji, hnot], hsame.trans (readAt_failRead_other r i j s hji)⟩

theorem ReadsKept.failed (h : ReadsKept ok s) (r : FaultReason) (l : List ReadIndex) :
    ReadsKept ok (l.foldl (Machine.failRead r) s) :=
  List.foldlRecOn l (Machine.failRead r) h fun _ hu i _ => hu.failRead r i

theorem mem_leadWith (k : Nat) (l : List ReadIndex) (i : ReadIndex) : i ∈ leadWith k l ↔ i ∈ l := by
  rw [leadWith, List.mem_append, or_comm, ← List.mem_append, List.take_append_drop]

/-- The read agent's part of the loss of a station: no fetch of it is left (R61). -/
theorem ReadsKept.purgeReads (h : ReadsKept ok s) (n : Station) (k : Nat) :
    ReadsKept (fun m => ok m ∧ m ≠ n) (purgeReads n k s) := by
  have hpurged : ReadsKept ok (Machine.purgeReads n k s) := h.failed .peerLost _
  refine { hpurged with heard := fun i hi => ⟨hpurged.heard i hi, fun hn => ?_⟩ }
  obtain ⟨hnot, hsame⟩ := readAt_of_failed .peerLost i _ h hi
  rw [show readAt i (Machine.purgeReads n k s) = readAt i s from hsame] at hi hn
  exact hnot ((mem_leadWith k _ i).mpr (List.mem_filter.mpr ⟨h.ranked i hi, by simp [hi, hn]⟩))

theorem mem_removeWrites {gone : PostedWrite → Bool} {w : PostedWrite} (hw : w ∈ (removeWrites gone s).writes.queue) :
    w ∈ s.writes.queue ∧ gone w = false := by
  have hq : (removeWrites gone s).writes.queue = s.writes.queue.filter (fun w => !gone w) := by simp [removeWrites, setQueue]
  simpa [hq] using hw

/-- What a purge leaves in the queue was there, and is not selected (R81). -/
theorem mem_purgeWrites {gone : PostedWrite → Bool} {r : FaultReason} {w : PostedWrite}
    (hw : w ∈ (purgeWrites gone r s).writes.queue) : w ∈ s.writes.queue ∧ gone w = false := by
  unfold purgeWrites at hw
  split at hw
  next hnone => exact ⟨hw, by simpa using List.filter_eq_nil_iff.mp hnone w hw⟩
  · refine mem_removeWrites (s := s) ?_
    simp only at hw
    split at hw
    · simpa using mem_queue_of_headGone hw
    · simpa using hw

theorem ReadsKept.purgeWrites (h : ReadsKept ok s) (gone : PostedWrite → Bool) (r : FaultReason) :
    ReadsKept ok (purgeWrites gone r s) := by
  unfold Machine.purgeWrites
  split
  · exact h
  next w rest _ =>
    have hremoved : ReadsKept ok (removeWrites gone s) := by
      simp only [removeWrites]
      refine ReadsKept.recountAhead (h.of_reads ?_) _
      split <;> simp
    have hcounted : ReadsKept ok (handOn (writeFault w r) (count .writeLoss (rest.length + 1) (removeWrites gone s))) :=
      hremoved.of_reads (by simp)
    simp only
    split
    · exact hcounted.headGone
    · exact hcounted.releaseBarriers

/-- After the agents' part of the loss of station `n` no request to it is left (R128). -/
theorem ReadsKept.agentsLose (h : ReadsKept ok s) (n : Station) : ReadsKept (fun m => ok m ∧ m ≠ n) (agentsLose n s) := by
  simp only [Machine.agentsLose]
  have hchoice : ReadsKept ok (s.setChoice (s.choice + 1)) := h.of_reads rfl
  split
  · exact (hchoice.purgeReads n _).purgeWrites _ _
  · exact (hchoice.purgeWrites _ _).purgeReads n _

theorem WritesKept.agentsLose (h : WritesKept ok s) (n : Station) : WritesKept (fun m => ok m ∧ m ≠ n) (agentsLose n s) := by
  intro w hw
  have hpurged : w ∈ s.writes.queue ∧ (w.dest == n) = false := by
    simp only [Machine.agentsLose] at hw
    split at hw
    · simpa using mem_purgeWrites hw
    · exact mem_purgeWrites (s := s.setChoice (s.choice + 1)) (by simpa using hw)
  exact ⟨h w hpurged.1, by simpa using hpurged.2⟩

theorem ReadsKept.drainAgents (h : ReadsKept ok s) : ReadsKept ok (drainAgents s) := by
  simp only [Machine.drainAgents]
  have hchoice : ReadsKept ok (s.setChoice (s.choice + 1)) := h.of_reads rfl
  split
  · exact (hchoice.failed .leaving _).purgeWrites _ _
  · exact (hchoice.purgeWrites _ _).failed .leaving _

theorem drainAgents_frame (s : State) :
    (drainAgents s).dir = s.dir ∧ (drainAgents s).peers = s.peers ∧ (drainAgents s).ctl = s.ctl := by
  simp only [drainAgents]
  split <;> simp

theorem WritesKept.drainAgents (h : WritesKept ok s) : WritesKept ok (drainAgents s) := by
  refine h.of_mem fun w hw => ?_
  simp only [Machine.drainAgents] at hw
  split at hw
  · simpa using (mem_purgeWrites hw).1
  · exact (mem_purgeWrites (s := s.setChoice (s.choice + 1)) (by simpa using hw)).1

end Sys2Proof.Machine

/-! ## The directory, the peer table and the requests together -/

namespace Sys2Proof.Machine

/-- The record of station `n` is PRESENT or SILENT. -/
def heard (s : State) (n : Station) : Prop := (peerOf n s).presence ≠ .absent

/-- The invariant in the parts that the blocks keep, with the configuration named; `WellKept.tables` and `TablesKept.statement` tie
it to the predicates of Safety.lean. -/
structure TablesKept (c : ConfigRecord) (s : State) : Prop where
  dir : DirectoryKept c (heard s) s
  reads : ReadsKept (heard s) s
  writes : WritesKept (heard s) s
  sized : s.peers.length = Config.peerRecords
  ownRecord : peerOf c.station s = PeerRecord.reset

variable {c : ConfigRecord} {s t : State}

/-! ### From WellKept, and back -/

theorem mem_reads_iff (h : s.reads.entries.length = Config.readEntries) (e : ReadEntry) :
    e ∈ s.reads.entries ↔ ∃ i, readAt i s = e := by
  have hat (i : ReadIndex) : ∃ hi : i.toNat < s.reads.entries.length, readAt i s = s.reads.entries[i.toNat] := by
    have hi : i.toNat < s.reads.entries.length := by rw [h]; exact i.isLt
    exact ⟨hi, by simp [readAt, hi]⟩
  constructor
  · intro he
    obtain ⟨k, hk, rfl⟩ := List.getElem_of_mem he
    have hk8 : k % 8 = k := Nat.mod_eq_of_lt (by rwa [h] at hk)
    obtain ⟨hi, heq⟩ := hat (BitVec.ofNat 3 k)
    exact ⟨BitVec.ofNat 3 k, by simp [heq, hk8]⟩
  · rintro ⟨i, rfl⟩
    obtain ⟨hi, heq⟩ := hat i
    exact heq ▸ List.getElem_mem hi

theorem WellKept.tables (h : WellKept s) : TablesKept s.ctl.config s := by
  obtain ⟨hpeers, hreads, hstatuses, -⟩ := h.sized
  obtain ⟨hshape, hapart⟩ := h.directory
  obtain ⟨hown, hdisabled, hentered, hpublished⟩ := h.ownRegions
  have hread (i : ReadIndex) : readAt i s ∈ s.reads.entries := (mem_reads_iff hreads _).mpr ⟨i, rfl⟩
  exact
    { dir := ⟨rfl, h.config, hstatuses, hshape, hapart, hown, hdisabled, hentered, hpublished, fun e he => (h.owners e he).1⟩
      reads :=
        { sized := hreads
          ranked := fun i hi => (h.ranks.2 i).mpr fun hfree => by simp [hfree, fetching] at hi
          heard := fun i hi => h.requests.1 _ (hread i) hi }
      writes := h.requests.2
      sized := hpeers
      ownRecord := h.ownRecord }

theorem TablesKept.statement (h : TablesKept c s) :
    directoryOrdered s ∧ ownRegionsRight s ∧ ownRecordUnused s ∧ ownersHeard s ∧ requestsHeard s := by
  obtain rfl := h.dir.config
  refine ⟨⟨h.dir.shaped, h.dir.apart⟩, ⟨h.dir.ownEntries, h.dir.disabled, h.dir.entered, h.dir.published⟩, h.ownRecord,
    fun e he => ⟨h.dir.owners e he, fun ho => ?_⟩, fun e he hf => ?_, h.writes⟩
  · obtain ⟨n, hn⟩ := Option.isSome_iff_exists.mp ho
    exact h.dir.published n (.inl ((h.dir.entered n).mpr ⟨e, he, hn⟩))
  · obtain ⟨i, rfl⟩ := (mem_reads_iff h.reads.sized e).mp he
    exact h.reads.heard i hf

/-! ### States that differ elsewhere -/

theorem peerOf_congr (n : Station) (hp : t.peers = s.peers) : peerOf n t = peerOf n s := by
  simp [peerOf, hp]

theorem heard_congr (hp : t.peers = s.peers) : heard t = heard s := by
  funext n
  rw [heard, peerOf_congr n hp, heard]

/-- An operation that leaves the peer table as it is. -/
theorem TablesKept.of_peers (h : TablesKept c s) (hp : t.peers = s.peers) (hd : DirectoryKept c (heard s) t)
    (hr : ReadsKept (heard s) t) (hw : WritesKept (heard s) t) : TablesKept c t where
  dir := heard_congr hp ▸ hd
  reads := heard_congr hp ▸ hr
  writes := heard_congr hp ▸ hw
  sized := hp ▸ h.sized
  ownRecord := (peerOf_congr _ hp).trans h.ownRecord

/-- An operation on other blocks. -/
theorem TablesKept.of_same (h : TablesKept c s)
    (ht : t.dir = s.dir ∧ t.peers = s.peers ∧ t.reads = s.reads ∧ t.writes = s.writes ∧ t.ctl.config = s.ctl.config ∧
      t.ctl.span = s.ctl.span) : TablesKept c t := by
  obtain ⟨hd, hp, hr, hw, hcx⟩ := ht
  exact h.of_peers hp (h.dir.of_same ⟨hd, hcx⟩) (h.reads.of_reads hr) (h.writes.of_writes hw)

/-- An operation of the two agents. -/
theorem TablesKept.of_requests (h : TablesKept c s) (ht : t.dir = s.dir ∧ t.peers = s.peers ∧ t.ctl = s.ctl)
    (hr : ReadsKept (heard s) t) (hw : WritesKept (heard s) t) : TablesKept c t := by
  obtain ⟨hd, hp, hc⟩ := ht
  exact h.of_peers hp (h.dir.of_same ⟨hd, by rw [hc], by rw [hc]⟩) hr hw

/-! ### Peer records -/

theorem heard_setPeer {n m : Station} {r : PeerRecord} (hs : s.peers.length = Config.peerRecords)
    (hr : heard s n → r.presence ≠ .absent) (hm : heard s m) : heard (setPeer n r s) m := by
  by_cases hmn : m = n
  · subst hmn
    by_cases hv : validStation m = true
    · rw [heard, peerOf_setPeer_self s m r hv hs]
      exact hr hm
    · simpa [heard, peerOf, hv] using hm
  · rwa [heard, peerOf_setPeer_other s m n r hmn]

@[simp] theorem setPeer_length (n : Station) (r : PeerRecord) (s : State) :
    (setPeer n r s).peers.length = s.peers.length := by
  unfold setPeer
  split <;> simp

theorem peerOf_setPeer_reset (n : Station) (hs : s.peers.length = Config.peerRecords) :
    peerOf n (setPeer n PeerRecord.reset s) = PeerRecord.reset := by
  by_cases hv : validStation n = true
  · exact peerOf_setPeer_self s n _ hv hs
  · rw [peerOf, if_neg hv]

/-- A record is written that stays heard where it was; the own one, only with what it holds. -/
theorem TablesKept.setPeer (h : TablesKept c s) {n : Station} {r : PeerRecord} (hr : heard s n → r.presence ≠ .absent)
    (hown : n = c.station → r = PeerRecord.reset) : TablesKept c (setPeer n r s) where
  dir := (h.dir.of_same (by simp)).mono fun _ hm => heard_setPeer h.sized hr hm
  reads := (h.reads.of_reads (by simp)).mono fun _ hm => heard_setPeer h.sized hr hm
  writes := (h.writes.of_writes (by simp)).mono fun _ hm => heard_setPeer h.sized hr hm
  sized := by simp [h.sized]
  ownRecord := by
    by_cases hn : c.station = n
    · rw [hn, hown hn.symm, peerOf_setPeer_reset n h.sized]
    · rw [peerOf_setPeer_other s _ n r hn, h.ownRecord]

theorem TablesKept.not_heard_own (h : TablesKept c s) : ¬heard s c.station := by
  simp [heard, h.ownRecord, PeerRecord.reset]

theorem TablesKept.ne_own (h : TablesKept c s) {n : Station} (hn : heard s n) : n ≠ c.station := by
  rintro rfl
  exact h.not_heard_own hn

/-- A field of another station's record is written that is not its presence. -/
theorem TablesKept.setPeerField (h : TablesKept c s) {n : Station} {r : PeerRecord} (hr : r.presence = (peerOf n s).presence)
    (hn : n ≠ c.station) : TablesKept c (Machine.setPeer n r s) :=
  h.setPeer (fun hp => hr ▸ hp) (fun he => absurd he hn)

/-- The changed mark of any record is cleared (R118, R131). -/
theorem TablesKept.clearChanged (h : TablesKept c s) (n : Station) :
    TablesKept c (Machine.setPeer n { peerOf n s with changed := false } s) :=
  h.setPeer id fun hn => by rw [hn, h.ownRecord]; rfl

theorem TablesKept.hear (h : TablesKept c s) {n : Station} (hn : n ≠ c.station) : TablesKept c (hear n s) := by
  unfold Machine.hear
  split
  · exact h.setPeer (by simp) (fun he => absurd he hn)
  · exact h

/-- A station that has been heard is not ABSENT (R121). -/
theorem heard_hear (h : TablesKept c s) {n : Station} (hv : validStation n = true) (hx : hearing s.ctl.span = true) :
    heard (hear n s) n := by
  rw [heard, Machine.hear, if_pos hx, peerOf_setPeer_self s n _ hv h.sized]
  simp

theorem TablesKept.markSilent (h : TablesKept c s) (n : Station) : TablesKept c (markSilent n s) := by
  unfold Machine.markSilent
  split
  next hp => exact h.setPeer (by simp) (fun he => absurd he (h.ne_own (by simp [heard, hp])))
  · exact h

/-- Every record is rewritten, an unused one as it is. -/
theorem peerOf_map (f : PeerRecord → PeerRecord) (hf : f PeerRecord.reset = PeerRecord.reset) (n : Station) (s : State) :
    peerOf n (s.setPeers (s.peers.map f)) = f (peerOf n s) := by
  unfold peerOf
  split
  · simp only [State.setPeers_peers, List.getD_eq_getElem?_getD, List.getElem?_map]
    cases s.peers[n.toNat - 1]? <;> simp [hf]
  · exact hf.symm

/-! ### The loss of a peer (R128) -/

/-- Another station's record becomes ABSENT, and its entries and its requests go with it. -/
theorem TablesKept.losePeer (h : TablesKept c s) {n : Station} (hn : n ≠ c.station) : TablesKept c (losePeer n s) := by
  have hpeers : (Machine.losePeer n s).peers = (Machine.setPeer n (lostRecord (peerOf n s)) s).peers := by
    simp [Machine.losePeer]
  have hstay : ∀ m, heard s m ∧ m ≠ n → heard (Machine.losePeer n s) m := fun m ⟨hm, hmn⟩ => by
    rwa [heard_congr hpeers, heard, peerOf_setPeer_other s m n _ hmn]
  have hdir : DirectoryKept c (heard s) (Machine.setPeer n (lostRecord (peerOf n s)) s) :=
    h.dir.of_same (by simp)
  have hreads : ReadsKept (heard s) (directoryLoses n (Machine.setPeer n (lostRecord (peerOf n s)) s)) :=
    h.reads.of_reads (by simp)
  have hwrites : WritesKept (heard s) (directoryLoses n (Machine.setPeer n (lostRecord (peerOf n s)) s)) :=
    h.writes.of_writes (by simp)
  exact
    { dir := ((hdir.directoryLoses hn).of_same (by simp [Machine.losePeer])).mono hstay
      reads := ((hreads.agentsLose n).of_reads (by simp [Machine.losePeer])).mono hstay
      writes := ((hwrites.agentsLose n).of_writes (by simp [Machine.losePeer])).mono hstay
      sized := by simp [hpeers, h.sized]
      ownRecord := by
        rw [peerOf_congr _ hpeers, peerOf_setPeer_other s _ n _ (Ne.symm hn), h.ownRecord] }

/-! ### The span state (R133, R147) -/

@[simp] theorem setSpan_config (x : SpanState) (s : State) : (setSpan x s).ctl.config = s.ctl.config := by
  unfold setSpan
  split <;> rfl

@[simp] theorem setSpan_span (x : SpanState) (s : State) : (setSpan x s).ctl.span = x := by
  unfold setSpan
  split
  · assumption
  · rfl

/-- A move of the span state that does not leave the span. -/
theorem TablesKept.setSpan (h : TablesKept c s) {x : SpanState} (hj : x ≠ .offline → judgeConfig c = .none)
    (hx : onSpan s.ctl.span = true → onSpan x = true) : TablesKept c (setSpan x s) :=
  h.of_peers (by simp) (h.dir.of_span (by simp) (by simp) (by simp) (by simpa using hj) (by simpa using hx))
    (h.reads.of_reads (by simp)) (h.writes.of_writes (by simp))

/-- A station that holds no entry and no request. -/
theorem TablesKept.of_empty (he : s.dir.entries = []) (hs : s.dir.statuses = restStatuses c) (hc : s.ctl.config = c)
    (hj : s.ctl.span ≠ .offline → judgeConfig c = .none) (hr : ∀ ok, ReadsKept ok s) (hw : s.writes.queue = [])
    (hp : s.peers.length = Config.peerRecords) (ho : peerOf c.station s = PeerRecord.reset) : TablesKept c s where
  dir := .of_empty he hs hc hj
  reads := hr _
  writes := by simp [WritesKept, hw]
  sized := hp
  ownRecord := ho

theorem emptyDirectory_dir (s : State) :
    (emptyDirectory s).dir.entries = [] ∧ (emptyDirectory s).dir.statuses = restStatuses s.ctl.config := by
  simp only [emptyDirectory]
  split <;> simp

theorem purgeAll_dir (s : State) :
    (purgeAll s).dir.entries = [] ∧ (purgeAll s).dir.statuses = restStatuses s.ctl.config := by
  simpa [purgeAll] using emptyDirectory_dir s

theorem purgeAll_ctl (s : State) : (purgeAll s).ctl = { s.ctl with listenTimer := none, drainTimer := none } := by
  simp [purgeAll, stopControlTimers]

/-- The purge empties everything that the invariant is about (R147). -/
theorem TablesKept.purgeAll (h : TablesKept c s) : TablesKept c (purgeAll s) := by
  have hc := purgeAll_ctl s
  have hpeers : (Machine.purgeAll s).peers = (s.setPeers (s.peers.map lostRecord)).peers := by
    simp [Machine.purgeAll, clearPeers]
  have hreads : (Machine.purgeAll s).reads = (freeAllReads s).reads := by
    simp [Machine.purgeAll, freeAllReads]
  obtain ⟨hentries, hstatuses⟩ := purgeAll_dir s
  refine .of_empty hentries (by rw [hstatuses, h.dir.config]) (by rw [hc]; exact h.dir.config)
    (by rw [hc]; exact h.dir.judged) (fun ok => (ReadsKept.freeAllReads h.reads.sized).of_reads hreads)
    (by simp [Machine.purgeAll, emptyWrites, setQueue]) (by rw [hpeers]; simp [h.sized]) ?_
  rw [peerOf_congr _ hpeers, peerOf_map lostRecord rfl, h.ownRecord]
  rfl

/-- After the purge the span state may be any that the configuration allows. -/
theorem TablesKept.purged (h : TablesKept c s) (x : SpanState) (hj : x ≠ .offline → judgeConfig c = .none)
    (cause : Option StopCause) : TablesKept c (Machine.setSpan x (setStopCause cause (Machine.purgeAll s))) := by
  have hp := h.purgeAll
  obtain ⟨hentries, hstatuses⟩ := purgeAll_dir s
  exact hp.of_peers (by simp)
    (.of_empty (by simp [hentries]) (by simp [hstatuses, h.dir.config]) (by simpa [setStopCause] using hp.dir.config)
      (by simpa using hj))
    (hp.reads.of_reads (by simp)) (hp.writes.of_writes (by simp))

theorem TablesKept.enterOffline (h : TablesKept c s) : TablesKept c (enterOffline s) := by
  unfold Machine.enterOffline
  split
  · exact h
  · exact (h.of_same (t := cut s) (by simp)).purged .offline (by simp) none

theorem TablesKept.enterStopped (h : TablesKept c s) (hx : s.ctl.span ≠ .offline) (cause : StopCause) :
    TablesKept c (enterStopped cause s) :=
  h.purged .stopped (fun _ => h.dir.judged hx) (some cause)

/-! ### The end of an event (R20, R120) -/

theorem eventEnd_peers (b s : State) : (eventEnd b s).peers = (peerEventEnd b.peers s).peers := by
  simp [eventEnd]

theorem peerEventEnd_peers (before : List PeerRecord) (s : State) :
    (peerEventEnd before s).peers = s.peers ∨ (peerEventEnd before s).peers = List.zipWith markChanged before s.peers := by
  unfold peerEventEnd
  split
  · exact .inr rfl
  · exact .inl rfl

theorem peerOf_zipWith (f : PeerRecord → PeerRecord → PeerRecord)
    (hf : f PeerRecord.reset PeerRecord.reset = PeerRecord.reset) {b : State} (hl : b.peers.length = s.peers.length)
    (ht : t.peers = List.zipWith f b.peers s.peers) (n : Station) :
    peerOf n t = f (peerOf n b) (peerOf n s) := by
  unfold peerOf
  split
  · rw [ht]
    simp only [List.getD_eq_getElem?_getD, List.getElem?_zipWith]
    by_cases hk : n.toNat - 1 < s.peers.length
    · simp [hk, hl]
    · simp [hk, hl, hf]
  · exact hf.symm

/-- The end of an event changes a record in its changed mark, and that where its presence has moved. -/
theorem peerOf_eventEnd {b : State} (hl : b.peers.length = s.peers.length) (n : Station) :
    (peerOf n (eventEnd b s)).presence = (peerOf n s).presence ∧
      ((peerOf n b).presence = (peerOf n s).presence → peerOf n (eventEnd b s) = peerOf n s) := by
  obtain hp | hp := peerEventEnd_peers b.peers s <;> rw [← eventEnd_peers] at hp
  · rw [peerOf_congr n hp]
    exact ⟨rfl, fun _ => rfl⟩
  · rw [peerOf_zipWith markChanged rfl hl hp, markChanged]
    split
    next hsame => exact ⟨rfl, fun _ => rfl⟩
    next hne => exact ⟨rfl, fun hsame => absurd hsame hne⟩

theorem TablesKept.eventEnd {b : State} (hb : TablesKept c b) (h : TablesKept c s) : TablesKept c (eventEnd b s) := by
  have hl : b.peers.length = s.peers.length := hb.sized.trans h.sized.symm
  have hheard : heard (Machine.eventEnd b s) = heard s := by
    funext n
    rw [heard, (peerOf_eventEnd hl n).1, heard]
  exact
    { dir := hheard ▸ h.dir.eventEnd b
      reads := hheard ▸ h.reads.of_reads (by simp)
      writes := hheard ▸ h.writes.of_writes (by simp)
      sized := by
        obtain hp | hp := peerEventEnd_peers b.peers s <;> rw [eventEnd_peers, hp]
        · exact h.sized
        · simp [hb.sized, h.sized]
      ownRecord := by
        rw [(peerOf_eventEnd hl _).2 (by rw [hb.ownRecord, h.ownRecord]), h.ownRecord] }

/-- An event keeps the tables if its own effect does. -/
theorem TablesKept.event (h : TablesKept c s) {f : State → State} (hf : TablesKept c (f s)) : TablesKept c (event f s) :=
  h.eventEnd hf

end Sys2Proof.Machine

/-! ## What each command does to the tables -/

namespace Sys2Proof.Machine

variable {c c' : ConfigRecord} {s t : State}

/-! ### The line and the transmit selector (chapters 1 and 6) -/

theorem TablesKept.freshSent (h : TablesKept c s) : TablesKept c (freshSent s) := by
  unfold Machine.freshSent
  split
  next hx =>
    exact (h.setSpan (x := .online) (fun _ => h.dir.judged (by simp [hx])) (fun _ => rfl)).of_same (by simp)
  · exact h

theorem TablesKept.itemSent (h : TablesKept c s) (x : Offered) : TablesKept c (itemSent x s) := by
  cases x with
  | response r => exact h.of_same (by simp [Machine.itemSent])
  | leave => exact (h.of_same (t := s.setSel { s.sel with leaveMark := false }) (by simp)).enterOffline
  | announce fresh copy =>
    cases fresh
    · exact h.of_same (by simp [Machine.itemSent, announceSent])
    · exact h.freshSent.of_same (by simp [Machine.itemSent, announceSent])
  | heartbeat => exact h
  | request item =>
    have hu : TablesKept c (unreadyItem item s) := h.of_same (by simp)
    cases item with
    | read i inc =>
      exact hu.of_requests (by simp [Machine.itemSent]) (hu.reads.readSent i inc)
        (hu.writes.of_writes (by simp [Machine.itemSent]))
    | write k =>
      exact hu.of_requests (by simp [Machine.itemSent]) (hu.reads.of_reads (by simp [Machine.itemSent]))
        (hu.writes.writeSent k)

theorem TablesKept.endSent (h : TablesKept c s) : TablesKept c (endSent s) := by
  unfold Machine.endSent
  split
  next x _ => exact TablesKept.itemSent (h.of_same (by simp)) x.item
  · exact h

theorem TablesKept.stopIfFailing (h : TablesKept c s) : TablesKept c (stopIfFailing s) := by
  unfold Machine.stopIfFailing
  split
  next hx =>
    simp only [Bool.and_eq_true] at hx
    exact h.enterStopped (fun ho => by simp [ho, onSpan] at hx) _
  · exact h

theorem TablesKept.endBreak (h : TablesKept c s) : TablesKept c (endBreak s) := by
  unfold Machine.endBreak
  split
  · split
    next b _ =>
      have hr : TablesKept c (receiverLost (setTx none s)) := h.of_same (by simp)
      cases b with
      | failure => exact TablesKept.stopIfFailing (hr.of_same (by simp [countFailure]))
      | failureThenOffline => exact hr.of_same (by simp [breakOutcome])
      | cut => exact hr
    · exact h
  · exact h

theorem TablesKept.beginAttempt (h : TablesKept c s) : TablesKept c (beginAttempt s) := by
  unfold Machine.beginAttempt
  split
  · exact h.of_same (by simp)
  · exact h

theorem TablesKept.foundIdle (h : TablesKept c s) : TablesKept c (foundIdle s) := by
  unfold Machine.foundIdle
  split <;> exact h.of_same (by simp)

theorem TablesKept.breakFrame (h : TablesKept c s) : TablesKept c (breakFrame s) := by
  unfold Machine.breakFrame
  split <;> exact h.of_same (by simp)

@[simp] theorem frameTaken_frame (bytes : List Byte) (s : State) :
    (frameTaken bytes s).dir = s.dir ∧ (frameTaken bytes s).peers = s.peers ∧ (frameTaken bytes s).reads = s.reads ∧
    (frameTaken bytes s).writes = s.writes ∧ (frameTaken bytes s).ctl = s.ctl := by
  unfold frameTaken
  split <;> simp

theorem TablesKept.discardFrame (h : TablesKept c s) (bytes : List Byte) : TablesKept c (discardFrame bytes s) := by
  unfold Machine.discardFrame
  split <;> exact h.of_same (by simp)

/-! ### A valid frame of another station (R13) -/

theorem TablesKept.takeWrite (h : TablesKept c s) {n : Station} (hn : n ≠ c.station) (tag : Byte) (a : GlobalAddr)
    (data : List Byte) (notice : Bool) : TablesKept c (takeWrite n tag a data notice s) := by
  have happlied (l : Nat) : TablesKept c (applyWrite n tag a data notice l s) := by
    have hram : TablesKept c (ramWrite l data s) := h.of_same (by simp)
    have hset : TablesKept c (Machine.setPeer n { peerOf n s with lastApplied := some tag } (ramWrite l data s)) :=
      hram.setPeerField rfl hn
    simp only [applyWrite]
    split <;> exact hset.of_same (by simp)
  unfold Machine.takeWrite
  split
  · exact h
  split
  · exact h.of_same (by simp)
  split
  · exact h.of_same (by simp)
  · exact h.of_same (by simp)
  split
  · exact h.of_same (by simp)
  split
  · exact h.of_same (by simp)
  split
  · exact h.of_same (by simp)
  · exact happlied _

theorem TablesKept.takeInterval (h : TablesKept c s) {n : Station} (hn : n ≠ c.station) (interval : Byte) :
    TablesKept c (takeInterval n interval s) := by
  unfold Machine.takeInterval
  split
  · exact h.setPeerField rfl hn
  · exact h

theorem TablesKept.takeFresh (h : TablesKept c s) {n : Station} (hn : n ≠ c.station) : TablesKept c (takeFresh n s) := by
  unfold Machine.takeFresh
  split
  · exact h.setPeerField rfl hn
  · exact h

theorem heard_takeInterval (hs : s.peers.length = Config.peerRecords) {n m : Station} (interval : Byte) (hm : heard s m) :
    heard (takeInterval n interval s) m := by
  unfold takeInterval
  split
  · exact heard_setPeer hs id hm
  · exact hm

theorem heard_takeFresh (hs : s.peers.length = Config.peerRecords) {n m : Station} (hm : heard s m) :
    heard (takeFresh n s) m := by
  unfold takeFresh
  split
  · exact heard_setPeer hs id hm
  · exact hm

theorem TablesKept.takeRegions (h : TablesKept c s) {n : Station} (hn : n ≠ c.station) (hv : validStation n = true)
    (hh : hearing s.ctl.span = true → heard s n) {gs : List RegionGroup} (hgs : ∀ g ∈ gs, groupShape g) :
    TablesKept c (takeRegions n gs s) :=
  h.of_peers (by simp) (h.dir.takeRegions hn hv hh hgs) (h.reads.of_reads (by simp)) (h.writes.of_writes (by simp))

/-- An ANNOUNCE of another station that has just been heard (R27, R122, R126). -/
theorem TablesKept.takeAnnounce (h : TablesKept c s) {f : Frame} (hn : f.src ≠ c.station) (hv : validStation f.src = true)
    (hh : hearing s.ctl.span = true → heard s f.src) (interval : Byte) {gs : List RegionGroup}
    (hgs : ∀ g ∈ gs, groupShape g) : TablesKept c (takeAnnounce f interval gs s) := by
  have hasked (u : State) (hu : TablesKept c u) :
      TablesKept c (if f.fresh && decide (u.ctl.span = .online) then requestAnnounce u else u) := by
    split
    · exact hu.of_same (by simp)
    · exact hu
  have hi := h.takeInterval hn interval
  have hhi (hx : hearing s.ctl.span = true) := heard_takeInterval h.sized (n := f.src) interval (hh hx)
  unfold Machine.takeAnnounce
  refine hasked _ ?_
  split
  · exact (hi.takeFresh hn).takeRegions hn hv (fun hx => heard_takeFresh hi.sized (hhi (by simpa using hx))) hgs
  · exact hi.takeRegions hn hv (fun hx => hhi (by simpa using hx)) hgs

theorem TablesKept.frameContent (h : TablesKept c s) {bytes : List Byte} {f : Frame} (hf : checkFrame bytes = some f)
    (hn : f.src ≠ c.station) (hh : hearing s.ctl.span = true → heard s f.src) : TablesKept c (frameContent f s) := by
  unfold Machine.frameContent
  split
  next data _ => exact h.of_requests (by simp) (h.reads.takeReadRsp _ _ data) (h.writes.of_writes (by simp))
  · exact h.of_requests (by simp) (h.reads.takeWriteAck _ _) (h.writes.takeWriteAck _ _)
  next r _ =>
    split
    · exact h.of_requests (by simp) (h.reads.takeWriteNack _ _ r) (h.writes.takeWriteNack _ _ r)
    · exact h.of_requests (by simp) (h.reads.takeReadNack _ _ r) (h.writes.of_writes (by simp))
  · exact h.of_same (by simp)
  · exact h.takeWrite hn _ _ _ _
  · exact h
  next interval gs hb => exact h.takeAnnounce hn (checkFrame_src hf) hh interval (checkFrame_regions hf hb)
  · unfold takeLeave
    split
    · exact h.losePeer hn
    · exact h

/-- The arrival of a valid frame: a clash report, or a frame of another station (R12, R13, R14). -/
theorem TablesKept.frameArrives (h : TablesKept c s) {bytes : List Byte} {f : Frame} (hf : checkFrame bytes = some f) :
    TablesKept c (frameArrives bytes f s) := by
  have ht : TablesKept c (frameTaken bytes s) := h.of_same (by simp)
  simp only [Machine.frameArrives]
  split
  · exact ht
  split
  · split
    · exact ht
    · unfold takeClash
      split
      next hx => exact ht.enterStopped (fun ho => by rw [ho] at hx; exact absurd hx (by decide)) .clash
      · exact ht
  next hne =>
    have hn : f.src ≠ c.station := by simpa [ownStation, h.dir.config] using hne
    have hh := ht.hear hn
    split
    · exact hh.frameContent hf hn fun hx => heard_hear ht (checkFrame_src hf) (by simpa using hx)
    · exact hh

/-! ### Timers and limits (chapters 3, 4, 7 and 8) -/

theorem TablesKept.readTimedOut (h : TablesKept c s) {i : ReadIndex} (hi : responseDue i s = true) :
    TablesKept c (readTimedOut i s) := by
  simp only [responseDue, Bool.and_eq_true, beq_iff_eq] at hi
  unfold Machine.readTimedOut
  split
  · exact h.of_requests (by simp) (h.reads.makeReady (by simp [hi.1, fetching])) (h.writes.of_writes (by simp))
  · have hfailed : TablesKept c (Machine.failRead .noAnswer s i) :=
      h.of_requests (by simp) (h.reads.failRead _ _) (h.writes.of_writes (by simp))
    exact hfailed.markSilent _

theorem TablesKept.discardRead (h : TablesKept c s) (i : ReadIndex) : TablesKept c (discardRead i s) := by
  have hfree : TablesKept c (Machine.freeRead i s) := h.of_requests (by simp) (h.reads.freeRead i) (h.writes.of_writes (by simp))
  unfold Machine.discardRead
  split
  · exact hfree
  · exact hfree.of_same (by simp)

theorem TablesKept.readyHead (h : TablesKept c s) {w : PostedWrite} {rest : List PostedWrite}
    (hq : s.writes.queue = w :: rest) : TablesKept c (readyHead w s) :=
  h.of_requests (by simp) (h.reads.of_reads (by simp))
    ((h.writes.setHead (w' := { w with inFlight := false, held := false, timer := none }) hq rfl).of_writes
      (by simp [Machine.readyHead]))

theorem TablesKept.headTimedOut (h : TablesKept c s) {w : PostedWrite} {rest : List PostedWrite}
    (hq : s.writes.queue = w :: rest) : TablesKept c (headTimedOut w s) := by
  unfold Machine.headTimedOut
  split
  · exact h.readyHead hq
  · have hdropped : TablesKept c (Machine.dropHead w .noAnswer s) :=
      h.of_requests (by simp) (h.reads.dropHead w _)
        (h.writes.of_mem fun x hx => List.mem_of_mem_tail (dropHead_queue w _ s ▸ hx))
    have hmarked := hdropped.markSilent w.dest
    exact hmarked.of_requests (by simp) hmarked.reads.headGone (hmarked.writes.of_mem fun x => mem_queue_of_headGone)

theorem TablesKept.onHead (h : TablesKept c s) {f : PostedWrite → State → State}
    (hf : ∀ w rest, s.writes.queue = w :: rest → TablesKept c (f w s)) : TablesKept c (onHead f s) := by
  unfold Machine.onHead
  split
  · exact h
  next w rest hq => exact hf w rest hq

theorem TablesKept.listenEnds (h : TablesKept c s) (hd : listenDue s = true) : TablesKept c (listenEnds s) := by
  simp only [listenDue, Bool.and_eq_true, beq_iff_eq] at hd
  have hstopped : TablesKept c (s.setCtl { s.ctl with listenTimer := none }) := h.of_same (by simp)
  have hspan := hstopped.setSpan (x := .announcing) (fun _ => h.dir.judged (by simp [hd.1])) (fun _ => rfl)
  have hplaced := hspan.dir.placeOwnRegions (by simp [onSpan])
  exact (hspan.of_peers (by simp) hplaced (hspan.reads.of_reads (by simp)) (hspan.writes.of_writes (by simp))).of_same
    (by simp [Machine.listenEnds])

theorem TablesKept.drainAgents (h : TablesKept c s) : TablesKept c (drainAgents s) :=
  h.of_requests (drainAgents_frame s) h.reads.drainAgents h.writes.drainAgents

theorem tickRecord_presence (r : PeerRecord) : (tickRecord r).presence = r.presence := by
  unfold tickRecord
  split <;> rfl

/-- A tick moves timers and times alone (R153). -/
theorem TablesKept.tickAll (h : TablesKept c s) : TablesKept c (tickAll s) := by
  have hpeers : (Machine.tickAll s).peers = (s.setPeers (s.peers.map tickRecord)).peers := by
    simp [Machine.tickAll, tickControl, tickPeers, tickSelector, tickWrites, tickReads]
  have hpeer (n : Station) : peerOf n (Machine.tickAll s) = tickRecord (peerOf n s) :=
    (peerOf_congr n hpeers).trans (peerOf_map tickRecord rfl n s)
  have hheard : heard (Machine.tickAll s) = heard s := by
    funext n
    rw [heard, hpeer, tickRecord_presence, heard]
  exact
    { dir := hheard ▸ h.dir.of_same (by simp [Machine.tickAll, tickControl, tickPeers, tickSelector, tickWrites, tickReads])
      reads := hheard ▸ h.reads.map
        (fun e => { e with responseTimer := countDown e.responseTimer, discardTimer := countDown e.discardTimer })
        (fun _ => ⟨rfl, rfl⟩) rfl
      writes := by
        intro w hw
        obtain ⟨x, hx, rfl⟩ := List.mem_map.mp (show w ∈ s.writes.queue.map _ from hw)
        exact hheard ▸ h.writes x hx
      sized := by rw [hpeers]; simp [h.sized]
      ownRecord := by rw [hpeer, h.ownRecord]; rfl }

end Sys2Proof.Machine

/-! ## Host cycles (chapter 10) -/

namespace Sys2Proof.Machine

variable {c c' : ConfigRecord} {s t : State}

/-! ### Reads of the aperture -/

theorem allocate_frame (n : Station) (a : GlobalAddr) (len : Nat) (p : Bool) (s : State) :
    (allocate n a len p s).next.dir = s.dir ∧ (allocate n a len p s).next.peers = s.peers ∧
    (allocate n a len p s).next.ctl = s.ctl ∧ (allocate n a len p s).next.writes = s.writes := by
  have hcleared := foldl_keeps (fun u i => freeRead i u) (fun t => (t.dir, t.peers, t.ctl, t.writes)) (by simp)
    (allReadIndexes.filter (readOverlaps a.toNat len s)) s
  simp only [Prod.mk.injEq] at hcleared
  simp only [allocate]
  split
  · split
    · simpa [answerOnly] using hcleared
    · simp [tableFull, answerOnly]
  · simp [tableFull, answerOnly]

theorem TablesKept.refuseAccess (h : TablesKept c s) (op : FaultOp) (r : FaultReason) (a : GlobalAddr) (n : Station) :
    TablesKept c (refuseAccess op r a n s).next :=
  h.of_same (by simp [Machine.refuseAccess, answerOnly])

theorem TablesKept.newRead (h : TablesKept c s) (a : GlobalAddr) (be : Enables) : TablesKept c (newRead a be s).next := by
  unfold Machine.newRead
  split
  · exact h.refuseAccess _ _ _ _
  split
  · exact h.refuseAccess _ _ _ _
  next e _ =>
    split
    · exact h
    split
    next hp =>
      obtain ⟨hd, hpeers, hc, hw⟩ :=
        allocate_frame e.owner (fetchStart e.prefetch a) (fetchLength e.prefetch (accessWidth be)) e.prefetch s
      exact h.of_requests ⟨hd, hpeers, hc⟩ (h.reads.allocate (by simp [heard, hp]) _ _ _) (h.writes.of_writes hw)
    · exact h.refuseAccess _ _ _ _

theorem TablesKept.deliver (h : TablesKept c s) (i : ReadIndex) (a : GlobalAddr) (be : Enables) :
    TablesKept c (deliver i a be s).next := by
  have hfree : TablesKept c (Machine.freeRead i s) := h.of_requests (by simp) (h.reads.freeRead i) (h.writes.of_writes (by simp))
  simp only [Machine.deliver]
  split
  · split
    · exact h.of_requests (by simp) (h.reads.setRead i _ fun hf => ⟨hf, rfl⟩) (h.writes.of_writes (by simp))
    · exact hfree
  · exact hfree

theorem TablesKept.apertureReadTaken (h : TablesKept c s) (a : GlobalAddr) (be : Enables) :
    TablesKept c (apertureReadTaken a be s).next := by
  unfold Machine.apertureReadTaken
  split
  · split
    · exact h.deliver _ a be
    · exact h
  · exact h.newRead a be

/-! ### Writes of the aperture -/

theorem TablesKept.overtake (h : TablesKept c s) (a n : Nat) : TablesKept c (overtake a n s) :=
  h.of_requests (by simp) (h.reads.overtake a n) (h.writes.of_writes (by simp))

/-- A posted write to a station that is not ABSENT is admitted (R71). -/
theorem TablesKept.admitWrite (h : TablesKept c s) {n : Station} (hn : heard s n) (a : GlobalAddr) (data : List Byte)
    (notice : Bool) : TablesKept c (admitWrite n a data notice s) := by
  have hqueued : TablesKept c (s.setWrites
      { queue := s.writes.queue ++ [posted n a data notice s], admission := s.writes.admission + 1 }) := by
    refine h.of_requests (by simp) (h.reads.of_reads (by simp)) fun w hw => ?_
    obtain hw | hw := List.mem_append.mp hw
    · exact h.writes w hw
    · rw [List.mem_singleton.mp hw]
      exact hn
  have hentered : TablesKept c (enqueueWrite n a data notice s) := hqueued.setPeerField rfl (h.ne_own hn)
  have hovertaken := hentered.overtake a.toNat data.length
  simp only [Machine.admitWrite]
  split
  · exact hovertaken.of_same (by simp)
  · exact hovertaken

theorem TablesKept.loopbackWrite (h : TablesKept c s) (e : DirEntry) (n : RegionIndex) (a : GlobalAddr) (data : List Byte)
    (notice : Bool) : TablesKept c (loopbackWrite e n a data notice s).next := by
  unfold Machine.loopbackWrite
  split
  · exact h.refuseAccess _ _ _ _
  split
  · exact h.refuseAccess _ _ _ _
  · simp only [answerOnly]
    refine TablesKept.overtake (s := if notice then _ else _) ?_ a.toNat data.length
    split <;> exact h.of_same (by simp)

theorem TablesKept.apertureWriteTaken (h : TablesKept c s) (a : GlobalAddr) (data : List Byte) (notice : Bool) :
    TablesKept c (apertureWriteTaken a data notice s).next := by
  unfold Machine.apertureWriteTaken
  split
  · exact h.refuseAccess _ _ _ _
  split
  · exact h.refuseAccess _ _ _ _
  split
  · exact h.loopbackWrite _ _ _ _ _
  split
  · exact h.refuseAccess _ _ _ _
  split
  next hp =>
    split
    · exact h
    · exact h.admitWrite (by simp [heard, hp]) _ _ _
  · exact h.refuseAccess _ _ _ _

/-! ### Reads of registers and views -/

theorem TablesKept.readEffect (h : TablesKept c s) (area : Area) (be : Enables) : TablesKept c (readEffect area be s) := by
  unfold Machine.readEffect
  split
  · split
    · exact h.clearChanged _
    · exact h
  · exact h

/-! ### Commands (R134 to R147) -/

theorem TablesKept.refuseCommand (h : TablesKept c s) (code : Byte) (r : RefusalCode) :
    TablesKept c (refuseCommand code r s).next :=
  h.of_same ⟨rfl, rfl, rfl, rfl, rfl, rfl⟩

theorem TablesKept.acceptCommand (k : HostCommand) {effect : State → State} (h : TablesKept c (effect s)) :
    TablesKept c (acceptCommand k effect s).next :=
  h.of_same ⟨rfl, rfl, rfl, rfl, rfl, rfl⟩

theorem TablesKept.joinTaken (h : TablesKept c s) : TablesKept c (joinTaken s).next := by
  unfold Machine.joinTaken
  split
  · exact h.refuseCommand _ _
  next hoff =>
    split
    · exact h.refuseCommand _ _
    next hj =>
      simp only [not_not] at hoff hj
      have hnot : onSpan s.ctl.span = false := by rw [hoff]; rfl
      have hmarked : TablesKept c (markWaiting (s.setCtl { s.ctl with listenTimer := some (listenTicks s.ctl.config) })) :=
        h.of_same ⟨rfl, rfl, rfl, rfl, rfl, rfl⟩
      have hlistening : TablesKept c (startListening s) :=
        hmarked.setSpan (fun _ => h.dir.config ▸ hj) (fun ho => absurd (hnot.symm.trans ho) (by decide))
      exact (h.event hlistening).acceptCommand .join

theorem TablesKept.leaveTaken (h : TablesKept c s) : TablesKept c (leaveTaken s).next := by
  unfold Machine.leaveTaken
  split
  next hx =>
    have htimer : TablesKept c (s.setCtl { s.ctl with drainTimer := some drainTicks }) := h.of_same (by simp)
    have hleaving : TablesKept c (startLeaving s) :=
      htimer.setSpan (fun _ => h.dir.judged (by simp [hx])) (fun _ => rfl)
    exact (h.event hleaving).acceptCommand .leave
  · exact (h.event h.enterOffline).acceptCommand .leave
  · exact (h.event h.enterOffline).acceptCommand .leave
  · exact h.refuseCommand _ _

theorem TablesKept.noticePopTaken (h : TablesKept c s) : TablesKept c (noticePopTaken s).next := by
  unfold Machine.noticePopTaken
  split
  · exact h.refuseCommand _ _
  · exact TablesKept.acceptCommand .noticePop (h.of_same ⟨rfl, rfl, rfl, rfl, rfl, rfl⟩)

/-! ### Configuration words (R118, R149 to R151) -/

theorem regionOf_setRegion (m n : RegionIndex) (r : RegionConfig) (c : ConfigRecord) :
    regionOf (setRegion n r c) m = regionOf c m ∨ m = n ∧ regionOf (setRegion n r c) m = r := by
  by_cases hmn : m = n
  · subst hmn
    by_cases hm : m.toNat < c.regions.length
    · exact .inr ⟨rfl, by simp [regionOf, setRegion, hm]⟩
    · exact .inl (by simp [regionOf, setRegion, hm])
  · have hne : n.toNat ≠ m.toNat := fun hh => hmn (BitVec.eq_of_toNat_eq hh.symm)
    exact .inl (by simp [regionOf, setRegion, List.getElem?_set_ne hne])

/-- Only an enable field decides a status at rest. -/
theorem restStatuses_congr (h : ∀ n, (regionOf c' n).enable = (regionOf c n).enable) : restStatuses c' = restStatuses c := by
  simp [restStatuses, restStatus, h]

theorem restStatuses_setRegion {n : RegionIndex} {r : RegionConfig} (h : r.enable = (regionOf c n).enable) :
    restStatuses (setRegion n r c) = restStatuses c :=
  restStatuses_congr fun m => by
    obtain hm | ⟨rfl, hm⟩ := regionOf_setRegion m n r c
    · rw [hm]
    · rw [hm, h]

theorem regionIndex_cases : ∀ n : RegionIndex, n = 0#2 ∨ n = 1#2 ∨ n = 2#2 ∨ n = 3#2 := by decide

theorem restStatuses_set (n : RegionIndex) (r : RegionConfig) (c : ConfigRecord) :
    (restStatuses c).set n.toNat (restStatus (regionOf (setRegion n r c) n)) = restStatuses (setRegion n r c) := by
  have hother (m : RegionIndex) (hm : m ≠ n) : regionOf (setRegion n r c) m = regionOf c m :=
    (regionOf_setRegion m n r c).resolve_right fun hx => hm hx.1
  obtain rfl | rfl | rfl | rfl := regionIndex_cases n <;>
    simp [restStatuses, allRegionIndexes, hother 0#2, hother 1#2, hother 2#2, hother 3#2]

/-- A write that does not enable the low byte keeps the station number. -/
theorem mergeLanes_station {be : Enables} (h : be.lo = false) (x : Station) (d : Word) :
    (mergeLanes (x.setWidth 16) d be).setWidth 5 = x := by
  ext i hi
  cases hbe : be.hi <;> interval_cases i <;> simp [mergeLanes, laneMask, h, hbe]

@[simp] theorem setConfig_frame (c : ConfigRecord) (s : State) :
    (setConfig c s).dir = s.dir ∧ (setConfig c s).peers = s.peers ∧ (setConfig c s).reads = s.reads ∧
    (setConfig c s).writes = s.writes ∧ (setConfig c s).ctl.span = s.ctl.span ∧ (setConfig c s).ctl.config = c := by
  simp [setConfig]

/-- A new configuration in OFFLINE, where the directory is empty and at rest, with the requests and the presences as they were. -/
theorem TablesKept.reconfigure (h : TablesKept c s) (he : t.dir.entries = []) (hs : t.dir.statuses = restStatuses c')
    (hc : t.ctl.config = c') (hx : t.ctl.span = .offline) (ha : t.reads = s.reads ∧ t.writes = s.writes)
    (hp : t.peers.length = Config.peerRecords) (hheard : ∀ n, heard s n → heard t n)
    (ho : peerOf c'.station t = PeerRecord.reset) : TablesKept c' t where
  dir := .of_empty he hs hc (fun hne => absurd hx hne)
  reads := (h.reads.of_reads ha.1).mono hheard
  writes := (h.writes.of_writes ha.2).mono hheard
  sized := hp
  ownRecord := ho

/-- A word is stored that holds neither the station number nor an enable field. -/
theorem TablesKept.setConfig (h : TablesKept c s) (hx : s.ctl.span = .offline) (he : stationEmpty s)
    (hn : c'.station = c.station) (hr : restStatuses c' = restStatuses c) : TablesKept c' (setConfig c' s) := by
  obtain ⟨hentries, hstatuses, -⟩ := he
  exact h.reconfigure hentries (by rw [hr, ← h.dir.config]; exact hstatuses) rfl hx ⟨rfl, rfl⟩ h.sized (fun _ => id)
    (hn ▸ h.ownRecord)

/-- In OFFLINE a record holds nothing but its changed mark (R130). -/
theorem peerOf_empty (he : stationEmpty s) (n : Station) : peerOf n s = lostRecord (peerOf n s) := by
  obtain ⟨-, -, -, -, -, -, hpeers⟩ := he
  unfold peerOf
  split
  · rw [List.getD_eq_getElem?_getD]
    cases hk : s.peers[n.toNat - 1]? with
    | none => rfl
    | some r => exact hpeers r (List.mem_of_getElem? hk)
  · rfl

/-- A stored STATION clears the changed mark of its record, which is then unused (R118). -/
theorem TablesKept.storeStation (h : TablesKept c s) (hx : s.ctl.span = .offline) (he : stationEmpty s) (be : Enables)
    (d : Word) : TablesKept (writeConfigWord .station be d c) (storeConfig .station be d s) := by
  obtain rfl := h.dir.config
  cases hlo : be.lo with
  | false =>
    simp only [Machine.storeConfig, configStored, hlo, Bool.false_eq_true, if_false]
    exact h.setConfig hx he (mergeLanes_station hlo _ d) rfl
  | true =>
    obtain ⟨hentries, hstatuses, -⟩ := id he
    have hrecord (n : Station) : { peerOf n s with changed := false } = PeerRecord.reset := by
      rw [peerOf_empty he n]
      rfl
    have hsized : (Machine.setConfig (writeConfigWord .station be d s.ctl.config) s).peers.length = Config.peerRecords := h.sized
    simp only [Machine.storeConfig, configStored, hlo, if_true]
    refine h.reconfigure (by simpa using hentries) ?_ (by simp) (by simpa using hx) (by simp) (by simp [h.sized])
      (fun n hn => heard_setPeer hsized id hn) ?_
    · rw [setPeer_frame _ _ _ |>.2.2.1]
      exact hstatuses
    · rw [peerOf_congr _ (setConfig_frame _ _).2.1, hrecord]
      exact peerOf_setPeer_reset _ hsized

/-- A stored enable field sets the status of its region (R151). -/
theorem TablesKept.storeRegionCtrl (h : TablesKept c s) (hx : s.ctl.span = .offline) (he : stationEmpty s) (n : RegionIndex)
    (be : Enables) (d : Word) : TablesKept (writeConfigWord (.regionCtrl n) be d c) (storeConfig (.regionCtrl n) be d s) := by
  obtain rfl := h.dir.config
  obtain ⟨hentries, hstatuses, -⟩ := he
  refine h.reconfigure hentries ?_ rfl hx ⟨rfl, rfl⟩ h.sized (fun _ => id) h.ownRecord
  simp only [Machine.storeConfig, configStored, setStatus, State.setDir_dir, setConfig_frame, hstatuses]
  exact restStatuses_set n _ _

/-- Every configuration word that can be stored in OFFLINE keeps the tables. -/
theorem TablesKept.storeConfig (h : TablesKept c s) (hx : s.ctl.span = .offline) (he : stationEmpty s) (w : ConfigWord)
    (be : Enables) (d : Word) : TablesKept (writeConfigWord w be d c) (storeConfig w be d s) := by
  cases w with
  | station => exact h.storeStation hx he be d
  | regionCtrl n => exact h.storeRegionCtrl hx he n be d
  | regionLocal n => obtain rfl := h.dir.config; exact h.setConfig hx he rfl (restStatuses_setRegion rfl)
  | regionGlobal n => obtain rfl := h.dir.config; exact h.setConfig hx he rfl (restStatuses_setRegion rfl)
  | hbInterval => obtain rfl := h.dir.config; exact h.setConfig hx he rfl rfl
  | respTimeout => obtain rfl := h.dir.config; exact h.setConfig hx he rfl rfl
  | retryLimit => obtain rfl := h.dir.config; exact h.setConfig hx he rfl rfl
  | discardTime => obtain rfl := h.dir.config; exact h.setConfig hx he rfl rfl

theorem TablesKept.storeBitDiv (h : TablesKept c s) (hx : s.ctl.span = .offline) (he : stationEmpty s) (be : Enables)
    (d : Word) : ∃ c', TablesKept c' (storeBitDiv be d s) := by
  obtain rfl := h.dir.config
  unfold Machine.storeBitDiv
  split
  · have hset : TablesKept _ (Machine.setConfig { s.ctl.config with bitDiv := d.setWidth 6 } s) := h.setConfig hx he rfl rfl
    exact ⟨_, hset.of_same (by simp)⟩
  · exact ⟨_, h⟩

theorem TablesKept.storeTickDiv (h : TablesKept c s) (hx : s.ctl.span = .offline) (he : stationEmpty s) (be : Enables)
    (d : Word) : ∃ c', TablesKept c' (storeTickDiv be d s) := by
  obtain rfl := h.dir.config
  unfold Machine.storeTickDiv
  split
  · have hset : TablesKept _ (Machine.setConfig { s.ctl.config with tickDiv := d.setWidth 6 } s) := h.setConfig hx he rfl rfl
    exact ⟨_, hset.of_same ⟨rfl, rfl, rfl, rfl, rfl, rfl⟩⟩
  · exact ⟨_, h⟩

theorem TablesKept.configTaken (h : TablesKept c s) {store : State → State}
    (hstore : s.ctl.span = .offline → ∃ c', TablesKept c' (store s)) : ∃ c', TablesKept c' (configTaken store s).next := by
  unfold Machine.configTaken
  split
  next hx => exact hstore hx
  · exact ⟨c, h⟩

/-! ### A cycle at the port -/

/-- A cycle that begins leaves the state as it was, but for the port, or as the owner of the address made it. -/
theorem hostCycle_cases (dir : Strobe) (a : BitVec 15) (be : Enables) (owner : State → Taken) (s : State) :
    ∃ p, hostCycle dir a be owner s = s.setPort p ∨ hostCycle dir a be owner s = (owner s).next.setPort p := by
  unfold hostCycle answerCycle
  split
  · exact ⟨s.port, .inl rfl⟩
  split
  · exact ⟨_, .inl rfl⟩
  split
  · exact ⟨_, .inl rfl⟩
  split
  · exact ⟨_, .inl rfl⟩
  split
  · exact ⟨_, .inr rfl⟩
  · exact ⟨_, .inl rfl⟩

theorem TablesKept.setPort (h : TablesKept c s) (p : HostPort) : TablesKept c (s.setPort p) :=
  h.of_same ⟨rfl, rfl, rfl, rfl, rfl, rfl⟩

/-- A cycle keeps the tables if the owner of its address does. -/
theorem TablesKept.hostCycle (h : TablesKept c s) {dir : Strobe} {a : BitVec 15} {be : Enables} {owner : State → Taken}
    (ho : ∃ c', TablesKept c' (owner s).next) : ∃ c', TablesKept c' (hostCycle dir a be owner s) := by
  obtain ⟨c', ho⟩ := ho
  obtain ⟨p, hp | hp⟩ := hostCycle_cases dir a be owner s <;> rw [hp]
  · exact ⟨c, h.setPort p⟩
  · exact ⟨c', ho.setPort p⟩

end Sys2Proof.Machine

/-! ## Every command keeps the tables -/

namespace Sys2Proof.Machine

variable {c : ConfigRecord} {s t : State}

/-! ### Events and cycles as a step takes them -/

theorem TablesKept.stationEvent (h : TablesKept c s) {arises : State → Bool} {f : State → State}
    (ht : stationEvent arises f s = .next t) (hf : arises s = true → TablesKept c (f s)) : ∃ c', TablesKept c' t := by
  rw [stationEvent_eq] at ht
  obtain rfl := Host.Outcome.next.inj ht
  refine ⟨c, ?_⟩
  split
  next ha => exact h.event (hf ha.2)
  · exact h

theorem TablesKept.lineEvent (h : TablesKept c s) {arises : State → Bool} {f : State → State}
    (ht : lineEvent arises f s = .next t) (hf : arises s = true → TablesKept c (f s)) : ∃ c', TablesKept c' t :=
  TablesKept.stationEvent h ht fun ha => hf (Bool.and_eq_true_iff.mp ha).2

theorem TablesKept.cycle (h : TablesKept c s) {dir : Strobe} {a : BitVec 15} {be : Enables} {owner : State → Taken}
    (ht : (.next (Machine.hostCycle dir a be owner s) : Step) = .next t) (ho : ∃ c', TablesKept c' (owner s).next) :
    ∃ c', TablesKept c' t :=
  Host.Outcome.next.inj ht ▸ h.hostCycle ho

theorem checkFrameOf_eq_some {k : Kind} {bytes : List Byte} {f : Frame} (h : checkFrameOf k bytes = some f) :
    checkFrame bytes = some f :=
  (Option.filter_eq_some_iff.mp h).1

theorem TablesKept.receiveKind (h : TablesKept c s) {k : Kind} {bytes : List Byte}
    (ht : receiveKind k bytes s = .next t) : ∃ c', TablesKept c' t := by
  unfold Machine.receiveKind at ht
  split at ht
  · cases ht
  next f hf =>
    split at ht
    · cases ht
    · exact h.stationEvent ht fun _ => h.frameArrives (checkFrameOf_eq_some hf)

/-! ### Resets -/

theorem readAt_reset (i : ReadIndex) (h : s.reads = ReadAgent.reset) : readAt i s = ReadEntry.free 0 := by
  have hi : i.toNat < Config.readEntries := i.isLt
  simp [readAt, h, ReadAgent.reset, hi]

/-- Every block of the tables at its reset values. -/
theorem TablesKept.of_reset (hd : s.dir = Directory.reset) (hp : s.peers = List.replicate Config.peerRecords PeerRecord.reset)
    (hr : s.reads = ReadAgent.reset) (hw : s.writes = WriteAgent.reset) (hc : s.ctl = StationControl.reset) :
    TablesKept ConfigRecord.reset s := by
  refine .of_empty (by rw [hd]; rfl) (by rw [hd]; rfl) (by rw [hc]; rfl) (fun hx => absurd (by rw [hc]; rfl) hx) (fun ok => ?_)
    (by rw [hw]; rfl) (by rw [hp, List.length_replicate]) rfl
  exact ⟨by rw [hr]; rfl, fun i hi => by simp [readAt_reset i hr, ReadEntry.free, fetching] at hi,
    fun i hi => by simp [readAt_reset i hr, ReadEntry.free, fetching] at hi⟩

/-! ### The commands -/

/-- Whatever a command makes of a state whose tables are kept, and whose tables are empty in OFFLINE, they are kept in it. -/
theorem exec_keeps_tables (h : TablesKept c s) (hoff : s.ctl.span = .offline → stationEmpty s) (i : Instr)
    (ht : exec i s = .next t) : ∃ c', TablesKept c' t := by
  have hsame {u : State} {c' : ConfigRecord} (hu : TablesKept c' u) (hn : (.next u : Step) = .next t) : ∃ c', TablesKept c' t :=
    ⟨c', Host.Outcome.next.inj hn ▸ hu⟩
  cases i with
  | powerOnReset =>
    have hreset : TablesKept ConfigRecord.reset (powerOnState s) := .of_reset rfl rfl rfl rfl rfl
    exact hsame hreset ht
  | pinReset =>
    have hreset : TablesKept ConfigRecord.reset (pinResetState s) := .of_reset rfl rfl rfl rfl rfl
    exact hsame hreset ht
  | powerOnClearEnd =>
    refine hsame (c' := c) ?_ ht
    split
    · exact h.of_same (by simp)
    · exact h
  | pinResetRelease => exact hsame (h.setPort _) ht
  | hostCycleEnd => exact hsame (h.setPort _) ht
  | attemptBegin => exact h.stationEvent (show execAttemptBegin s = .next t from ht) fun _ => h.beginAttempt
  | attemptLost => exact h.lineEvent ht fun _ => h.of_same (by simp [loseAttempt])
  | readbackMismatch => exact h.lineEvent ht fun _ => h.of_same (by simp [failReadback])
  | breakEnd => exact h.lineEvent ht fun _ => h.endBreak
  | attemptSent => exact h.lineEvent ht fun _ => h.endSent
  | frameBroken => exact h.stationEvent (show execFrameBroken s = .next t from ht) fun _ => h.breakFrame
  | frameFormatError bytes =>
    simp only [exec, execFrameFormatError] at ht
    split at ht
    · cases ht
    · exact h.stationEvent ht fun _ => h.discardFrame bytes
  | clashReport bytes =>
    simp only [exec, execClashReport] at ht
    split at ht
    · cases ht
    next f hf => exact h.stationEvent ht fun _ => h.frameArrives hf
  | readRsp bytes => exact h.receiveKind ht
  | nack bytes => exact h.receiveKind ht
  | writeAck bytes => exact h.receiveKind ht
  | readReq bytes => exact h.receiveKind ht
  | write bytes => exact h.receiveKind ht
  | heartbeat bytes => exact h.receiveKind ht
  | announce bytes => exact h.receiveKind ht
  | leaveFrame bytes => exact h.receiveKind ht
  | readResponseTimeout k => exact h.stationEvent ht fun hd => h.readTimedOut hd
  | discardExpiry k => exact h.stationEvent ht fun _ => h.discardRead k
  | writeResponseTimeout => exact h.stationEvent ht fun _ => h.onHead fun _ _ hq => h.headTimedOut hq
  | holdExpiry => exact h.stationEvent ht fun _ => h.onHead fun _ _ hq => h.readyHead hq
  | heartbeatTimerExpiry => exact h.stationEvent ht fun _ => h.of_same (by simp [heartbeatDue])
  | listenTimerExpiry => exact h.stationEvent ht fun hd => h.listenEnds hd
  | drainTimerExpiry => exact h.stationEvent ht fun _ => h.drainAgents
  | silenceLimit n =>
    simp only [exec, execSilenceLimit] at ht
    split at ht
    · exact h.stationEvent ht fun _ => h.markSilent n
    · cases ht
  | absenceLimit n =>
    simp only [exec, execAbsenceLimit] at ht
    split at ht
    · refine h.stationEvent ht fun ha => h.losePeer (h.ne_own ?_)
      simp only [absenceReached, Bool.and_eq_true, bne_iff_ne] at ha
      exact ha.1
    · cases ht
  | hostRamRead w be => exact h.cycle ht ⟨c, h⟩
  | hostRamWrite w be d => exact h.cycle ht ⟨c, h.of_same (by simp [ramWriteTaken, answerOnly])⟩
  | apertureRead notice w be =>
    simp only [exec, execApertureRead] at ht
    split at ht
    · cases ht
    · exact h.cycle ht ⟨c, h.apertureReadTaken _ be⟩
  | apertureWrite notice w be d =>
    simp only [exec, execApertureWrite] at ht
    split at ht
    · cases ht
    · exact h.cycle ht ⟨c, h.apertureWriteTaken _ _ notice⟩
  | join hi => exact h.cycle ht ⟨c, h.joinTaken⟩
  | leave hi => exact h.cycle ht ⟨c, h.leaveTaken⟩
  | restart hi => exact h.cycle ht ⟨c, (h.event h.enterOffline).acceptCommand .restart⟩
  | noticePop hi => exact h.cycle ht ⟨c, h.noticePopTaken⟩
  | clearFault hi =>
    exact h.cycle ht ⟨c, TablesKept.acceptCommand .clearFault (h.of_same (by simp [clearFault]))⟩
  | clearCounters hi =>
    exact h.cycle ht ⟨c, TablesKept.acceptCommand .clearCounters (h.of_same (by simp [clearCounters]))⟩
  | unknownCommand be d =>
    simp only [exec, execUnknownCommand] at ht
    split at ht
    · cases ht
    · exact h.cycle ht ⟨c, h.refuseCommand _ _⟩
  | eventFlagsWrite be d => exact h.cycle ht ⟨c, h.of_same (by simp [answerOnly, clearEvents])⟩
  | eventEnableWrite be d => exact h.cycle ht ⟨c, h.of_same (by simp [answerOnly, storeEnables])⟩
  | apertureBaseWrite be d => exact h.cycle ht ⟨c, h.of_same (by simp [answerOnly, storeApertureBase])⟩
  | configWrite w be d => exact h.cycle ht (h.configTaken fun hx => ⟨_, h.storeConfig hx (hoff hx) w be d⟩)
  | bitDivWrite be d => exact h.cycle ht (h.configTaken fun hx => h.storeBitDiv hx (hoff hx) be d)
  | tickDivWrite be d => exact h.cycle ht (h.configTaken fun hx => h.storeTickDiv hx (hoff hx) be d)
  | peerViewFirstWordRead a be =>
    simp only [exec, execPeerViewFirstWordRead] at ht
    split at ht
    · exact h.cycle ht ⟨c, h.readEffect (areaOf a) be⟩
    · cases ht
  | registerWriteFault a be =>
    simp only [exec, execRegisterWriteFault] at ht
    split at ht
    · exact h.cycle ht ⟨c, h⟩
    · cases ht
  | unclaimedAccess dir a be =>
    simp only [exec, execUnclaimedAccess] at ht
    split at ht
    · exact h.cycle ht ⟨c, h⟩
    · cases ht
  | bothStrobesCycle a be => exact h.cycle ht ⟨c, h⟩
  | noByteEnableCycle dir a =>
    simp only [exec, execNoByteEnableCycle] at ht
    split at ht
    · exact h.cycle ht ⟨c, h⟩
    · cases ht
  | cycleDuringClear dir a be =>
    simp only [exec, execCycleDuringClear] at ht
    split at ht
    · exact h.cycle ht ⟨c, h⟩
    · exact hsame h ht
  | idleFound => exact h.stationEvent (show execIdleFound s = .next t from ht) fun _ => h.foundIdle
  | startBitConfirmed => exact h.lineEvent (show execStartBitConfirmed s = .next t from ht) fun _ => h.of_same (by simp)
  | ownFrameEnd => exact h.stationEvent (show execOwnFrameEnd s = .next t from ht) fun _ => h.of_same (by simp)
  | tick =>
    refine hsame (c' := c) ?_ ht
    split
    · exact h.tickAll
    · exact h

/-- A step takes the front command, or lets a bit time pass, which changes the interface alone. -/
theorem step_keeps_tables (h : TablesKept c s) (hoff : s.ctl.span = .offline → stationEmpty s) (ht : step s = .next t) :
    ∃ c', TablesKept c' t := by
  unfold step at ht
  split at ht
  · obtain rfl := Host.Outcome.next.inj ht
    obtain ⟨x, hx, -⟩ := idleStep_eq s
    exact ⟨c, hx ▸ h.of_same ⟨rfl, rfl, rfl, rfl, rfl, rfl⟩⟩
  next i rest _ =>
    exact exec_keeps_tables (s := s.setPending rest) (h.of_same ⟨rfl, rfl, rfl, rfl, rfl, rfl⟩) hoff i ht

/-- Settles O54: the parts that `TablesKept` names hold of a well-kept station, every command keeps them, and they say what the
obligation states. -/
theorem stepKeepsTheDirectoryAndPeers : Obligations.StepKeepsTheDirectoryAndPeers := by
  intro s t hs ht
  have hoff : s.ctl.span = .offline → stationEmpty s := fun hx => hs.empty.2.1 (by rw [hx]; rfl)
  obtain ⟨c, hkept⟩ := step_keeps_tables hs.tables hoff ht
  exact hkept.statement

end Sys2Proof.Machine

/-! ## Cycles of the aperture (R41, R84, R161)

An access begins inside the span's address space, and one of two bytes at an even address, so that it never straddles two units of
256 bytes: an own region that contains its first byte contains all of it, and the row never passes the end of shared RAM. -/

namespace Sys2Proof.Machine

variable {s : State} {be : Enables} {w : BitVec 12}

/-! ### The bytes of an access -/

theorem accessWidth_pos (hb : someByte be = true) : 1 ≤ accessWidth be := by
  rcases (Bool.or_eq_true _ _).mp hb with hlo | hhi
  · simp [accessWidth, hlo]
  · simp [accessWidth, hhi]

/-- No aperture address wraps round: the base has 11 bits and the offset 13. -/
theorem apertureAddr_toNat (w : BitVec 12) (be : Enables) (s : State) :
    (apertureAddr w be s).toNat = s.port.apertureBase.toNat * 0x2000 + 2 * w.toNat + if be.lo then 0 else 1 := by
  have hbase := s.port.apertureBase.isLt
  have hw := w.isLt
  have hstart : accessStart (w.toNat * 2) be = 2 * w.toNat + if be.lo then 0 else 1 := by
    unfold accessStart
    split <;> omega
  have hoff : (if be.lo then 0 else 1) ≤ 1 := by split <;> omega
  rw [apertureAddr, hstart, BitVec.toNat_ofNat]
  omega

/-- An access stays inside its word: only one of a single byte begins at an odd address. -/
theorem apertureAddr_mod_two_add_accessWidth (w : BitVec 12) (be : Enables) (s : State) :
    (apertureAddr w be s).toNat % 2 + accessWidth be ≤ 2 := by
  rw [apertureAddr_toNat]
  unfold accessWidth
  split <;> split <;> omega

/-- An access whose first byte a directory entry contains ends in that entry, whose end is a multiple of 256. -/
theorem aperture_access_le_dirEnd {e : DirEntry} (he : (apertureAddr w be s).toNat < dirEnd e) :
    (apertureAddr w be s).toNat + accessWidth be ≤ dirEnd e := by
  have := apertureAddr_mod_two_add_accessWidth w be s
  unfold dirEnd dirStart at *
  omega

/-! ### No access of the aperture passes the end of shared RAM -/

/-- The local range of an own entry lies inside shared RAM (R84, R136). -/
theorem WellKept.ownEntry_inside_ram (h : WellKept s) (hx : s.ctl.span ≠ .offline) {e : DirEntry} (he : e ∈ s.dir.entries)
    {n : RegionIndex} (hn : e.own = some n) :
    (regionOf s.ctl.config n).localOffset.toNat * 256 + 256 * e.length.toNat ≤ Config.ramSize := by
  obtain ⟨hown, hdisabled, hentered, -⟩ := h.ownRegions
  have henabled : (regionOf s.ctl.config n).enable = true := by
    by_contra hoff
    have hdis := (hdisabled n).mpr (by simpa using hoff)
    rw [(hentered n).mpr ⟨e, he, hn⟩] at hdis
    cases hdis
  have hregion := (judgeConfig_eq_none (h.config hx)).2 n
  simp only [regionRangeOk, henabled, Bool.not_true, Bool.false_or, Bool.and_eq_true, decide_eq_true_eq] at hregion
  obtain ⟨⟨-, hram⟩, -⟩ := hregion
  rw [hown e he n hn]
  simpa only [Config.ramSize, ownEntry] using hram

theorem mem_of_lookup {a : GlobalAddr} {e : DirEntry} (h : lookup a s = some e) :
    e ∈ s.dir.entries ∧ dirStart e ≤ a.toNat ∧ a.toNat < dirEnd e :=
  ⟨List.mem_of_find?_eq_some h, (dirContains_iff e _).mp (by simpa using List.find?_some h)⟩

/-- Bytes inside an own entry lie, in shared RAM, inside its local range. -/
theorem localAddress_add_le {e : DirEntry} {n : RegionIndex} {a : GlobalAddr} {k limit : Nat} (hlo : dirStart e ≤ a.toNat)
    (hhi : a.toNat + k ≤ dirEnd e)
    (hlimit : (regionOf s.ctl.config n).localOffset.toNat * 256 + 256 * e.length.toNat ≤ limit) :
    localAddress e n a s + k ≤ limit := by
  unfold localAddress
  unfold dirEnd at hhi
  generalize (regionOf s.ctl.config n).localOffset.toNat * 256 = localStart at *
  omega

/-- A cycle of the aperture never meets the fault `pastSharedRam` in a well-kept station (log entry 7). -/
theorem WellKept.aperturePastEnd_eq_false (h : WellKept s) (w : BitVec 12) (be : Enables) : aperturePastEnd w be s = false := by
  suffices hloop : loopbackPastEnd (apertureAddr w be s) (accessWidth be) s = false by simp [aperturePastEnd, hloop]
  unfold loopbackPastEnd
  split
  · rfl
  next e hlook =>
    obtain ⟨he, hlo, hhi⟩ := mem_of_lookup hlook
    split
    · rfl
    next n hn =>
      by_cases hx : s.ctl.span = .online
      · have hram := h.ownEntry_inside_ram (by simp [hx]) he hn
        simpa [hx] using localAddress_add_le hlo (aperture_access_le_dirEnd hhi) hram
      · simp [hx]

/-! ### APERTURE_READ as a cycle of its own -/

/-- A cycle that is taken is answered as the read agent answers it; RETRY and FAULT drive no data. -/
theorem WellKept.exec_apertureRead (h : WellKept s) (hp : portReady s) (hb : someByte be = true) (notice : Bool) {r : Reply}
    {d : Word} {t : State} (ht : apertureReadTaken (apertureAddr w be s) be s = { reply := r, data := d, next := t })
    (hd : r ≠ .ok → d = 0) :
    exec (.apertureRead notice w be) s = .next (withCycle .read (apertureWordAddr notice w) be r (some d) t) := by
  have hcycle := hostCycle_taken s .read (apertureWordAddr notice w) be (apertureReadTaken (apertureAddr w be s) be) hp
    (by decide) hb
  have hdriven : (if r = .ok then d else 0) = d := by
    split
    · rfl
    next hr => exact (hd hr).symm
  simp only [ht, if_true, hdriven] at hcycle
  simp only [exec, execApertureRead, h.aperturePastEnd_eq_false w be, hcycle]
  rfl

end Sys2Proof.Machine

/-! ## A read that an entry matches (R41, R42) -/

namespace Sys2Proof.Machine

variable {s : State} {a : GlobalAddr} {n : Nat} {i j : ReadIndex}

theorem mem_allReadIndexes : ∀ i : ReadIndex, i ∈ allReadIndexes := by decide

theorem live_iff (e : ReadEntry) : live e = true ↔ e.state ≠ .free ∧ e.overtaken = false := by
  simp [live]

theorem rangesMeet_iff (a n b m : Nat) : rangesMeet a n b m = true ↔ a < b + m ∧ b < a + n := by
  simp [rangesMeet]

theorem readMatches_iff :
    readMatches a n s i = true ↔
      live (readAt i s) = true ∧ (readAt i s).addr.toNat ≤ a.toNat ∧
        a.toNat + n ≤ (readAt i s).addr.toNat + (readAt i s).length := by
  simp [readMatches, and_assoc]

/-- At most one entry matches an access, as live entries do not overlap (R48). -/
theorem readMatches_unique (h : liveReadsApart s) (hn : 1 ≤ n) (hi : readMatches a n s i = true)
    (hj : readMatches a n s j = true) : i = j := by
  by_contra hne
  obtain ⟨hlive, hlo, hhi⟩ := readMatches_iff.mp hi
  obtain ⟨hlive', hlo', hhi'⟩ := readMatches_iff.mp hj
  have hmeet := (rangesMeet_iff (readAt i s).addr.toNat (readAt i s).length (readAt j s).addr.toNat (readAt j s).length).mpr
    ⟨by omega, by omega⟩
  rw [h i j hne hlive hlive'] at hmeet
  cases hmeet

theorem matchingRead_of_matches (h : liveReadsApart s) (hn : 1 ≤ n) (hi : readMatches a n s i = true) :
    matchingRead a n s = some i := by
  cases hfind : matchingRead a n s with
  | none => exact absurd hi (List.find?_eq_none.mp hfind i (mem_allReadIndexes i))
  | some j => rw [readMatches_unique h hn (List.find?_some hfind) hi]

theorem matchingRead_of_none (h : ∀ i, readMatches a n s i = false) : matchingRead a n s = none :=
  List.find?_eq_none.mpr fun i _ => by simp [h i]

theorem apertureReadTaken_of_matches {be : Enables} (hm : matchingRead a (accessWidth be) s = some i) :
    apertureReadTaken a be s = if (readAt i s).state = .complete then deliver i a be s else answerOnly .retry 0 s := by
  simp [apertureReadTaken, hm]

theorem apertureReadTaken_of_none {be : Enables} (hm : matchingRead a (accessWidth be) s = none) :
    apertureReadTaken a be s = newRead a be s := by
  simp [apertureReadTaken, hm]

theorem deliver_fault {be : Enables} {r : FaultReason} (ho : (readAt i s).outcome = some (.fault r)) :
    deliver i a be s = { reply := .fault, data := 0, next := withFree i s } := by
  simp [deliver, ho, freeRead_eq]

/-- A prefetch keeps its data and restarts its discard timer; every other entry becomes FREE. -/
theorem deliver_ok {be : Enables} (ho : (readAt i s).outcome = some .ok) :
    deliver i a be s =
      { reply := .ok
        data := driveLanes be (((readAt i s).data.drop (a.toNat - (readAt i s).addr.toNat)).take (accessWidth be))
        next :=
          if (readAt i s).prefetch = true then
            withRead i
              { readAt i s with delivered := true, discardTimer := some (s.ctl.config.discardTime.toNat * 1000) } s
          else withFree i s } := by
  simp [deliver, ho, deliveredBytes, discardTicks, setRead_eq, freeRead_eq]

/-- Settles O35: no other entry can match the access, so the read agent finds this one and answers by its state and outcome. -/
theorem matchedReadDelivers : Obligations.MatchedReadDelivers := by
  intro s notice w be i hk hp hb a e
  refine ⟨apertureAddr_toNat w be s, ?_⟩
  intro hi answered
  have htaken := apertureReadTaken_of_matches (matchingRead_of_matches hk.apart (accessWidth_pos hb) hi)
  refine ⟨fun hfetching => ?_, fun r hcomplete hfault => ?_, fun hcomplete hok => ?_⟩
  · exact hk.exec_apertureRead hp hb notice (htaken.trans (if_neg hfetching)) fun _ => rfl
  · exact hk.exec_apertureRead hp hb notice ((htaken.trans (if_pos hcomplete)).trans (deliver_fault hfault)) fun _ => rfl
  · exact hk.exec_apertureRead hp hb notice ((htaken.trans (if_pos hcomplete)).trans (deliver_ok hok))
      fun hne => absurd rfl hne

end Sys2Proof.Machine

/-! ## A read that no entry matches (R43 to R45) -/

namespace Sys2Proof.Machine

variable {s : State} {a : GlobalAddr} {be : Enables} {e : DirEntry}

/-! ### The read agent's judgement, one case at a time -/

theorem newRead_of_not_online (hx : s.ctl.span ≠ .online) :
    newRead a be s = { reply := .fault, data := 0, next := withFault .read (spanFault s.ctl.span) a 0 s } := by
  simp [newRead, hx, refuseAccess_eq]

theorem newRead_of_no_entry (hx : s.ctl.span = .online) (he : lookup a s = none) :
    newRead a be s = { reply := .fault, data := 0, next := withFault .read .noEntry a 0 s } := by
  simp [newRead, hx, he, refuseAccess_eq]

/-- Loopback: the bytes of shared RAM at the entry's local address (R45). -/
theorem newRead_of_own {n : RegionIndex} (hx : s.ctl.span = .online) (he : lookup a s = some e) (hn : e.own = some n) :
    newRead a be s =
      { reply := .ok
        data :=
          driveLanes be ((List.range (accessWidth be)).map (fun k =>
            memRead s.ram ((regionOf s.ctl.config n).localOffset.toNat * 256 + (a.toNat - dirStart e) + k)))
        next := s } := by
  simp [newRead, hx, he, hn, answerOnly, ramRead, memReadBytes, localAddress]

theorem newRead_of_unreachable (hx : s.ctl.span = .online) (he : lookup a s = some e) (hn : e.own = none)
    (hp : (peerOf e.owner s).presence ≠ .present) :
    newRead a be s = { reply := .fault, data := 0, next := withFault .read .unreachable a e.owner s } := by
  simp [newRead, hx, he, hn, hp, refuseAccess_eq]

theorem newRead_of_present (hx : s.ctl.span = .online) (he : lookup a s = some e) (hn : e.own = none)
    (hp : (peerOf e.owner s).presence = .present) :
    newRead a be s =
      allocate e.owner (fetchStart e.prefetch a) (fetchLength e.prefetch (accessWidth be)) e.prefetch s := by
  simp [newRead, hx, he, hn, hp]

/-- Settles O36: with no match the read agent judges the access, and each judgement but allocation is one of its cases. -/
theorem unmatchedReadIsJudged : Obligations.UnmatchedReadIsJudged := by
  intro s notice w be hk hp hb a hnone faulted
  have htaken := apertureReadTaken_of_none (matchingRead_of_none hnone)
  have hfaulted {r : FaultReason} {n : Station}
      (hnew : newRead a be s = { reply := .fault, data := 0, next := withFault .read r a n s }) : faulted r n :=
    hk.exec_apertureRead hp hb notice (htaken.trans hnew) fun _ => rfl
  have hspan (hx : s.ctl.span ≠ .online) : faulted (spanFault s.ctl.span) 0 := hfaulted (newRead_of_not_online hx)
  refine ⟨?_, fun hx => ?_, fun hx => ?_, fun hx he => hfaulted (newRead_of_no_entry hx he), fun e hx he => ⟨?_, ?_⟩⟩
  · rintro (hx | hx | hx) <;> simpa [hx, spanFault] using hspan (by simp [hx])
  · simpa [hx, spanFault] using hspan (by simp [hx])
  · simpa [hx, spanFault] using hspan (by simp [hx])
  · intro hn hsilent
    exact hfaulted (newRead_of_unreachable hx he hn (by simp [hsilent]))
  · intro n hn
    exact hk.exec_apertureRead hp hb notice (htaken.trans (newRead_of_own hx he hn)) fun hne => absurd rfl hne

end Sys2Proof.Machine

/-! ## A read that is allocated (R47 to R50)

A spent entry is COMPLETE, so no item of it stands in the ready list: freeing the entries that make way, and reclaiming one, changes
the table alone, and the state that allocation works in is exactly `cleared`. -/

namespace Sys2Proof.Machine

variable {s : State} {a n : Nat} {i : ReadIndex}

/-! ### Freeing entries that are not ready -/

/-- No item of entry `i` stands in the ready list. -/
def notListed (i : ReadIndex) (s : State) : Prop := ∀ x ∈ s.sel.ready, isReadItem i x = false

/-- Only a READY entry stands in the ready list (R40, R106). -/
theorem WellKept.notListed (h : WellKept s) (hi : (readAt i s).state ≠ .ready) : notListed i s := by
  obtain ⟨-, hready, -, -⟩ := h.ready
  intro x hx
  cases x with
  | write k => rfl
  | read j inc =>
    refine beq_eq_false_iff_ne.mpr fun hji => hi ?_
    obtain ⟨hstate, -⟩ : (readAt j s).state = .ready ∧ (readAt j s).incarnation = inc := by
      simpa [readyNow] using hready _ hx
    exact hji ▸ hstate

theorem unreadyRead_of_notListed (h : notListed i s) : unreadyRead i s = s := by
  have hkeep : s.sel.ready.filter (fun x => !isReadItem i x) = s.sel.ready :=
    List.filter_eq_self.mpr fun x hx => by simp [h x hx]
  rw [unreadyRead_eq, hkeep]
  rfl

theorem freeRead_of_notListed (h : notListed i s) : freeRead i s = s.setReads (freeRead i s).reads := by
  have hun : freeRead i s = (unreadyRead i s).setReads (freeRead i s).reads := rfl
  rwa [unreadyRead_of_notListed h] at hun

/-- Freeing entries one after the other, as allocation does with those that make way (R48). -/
def freeReads (l : List ReadIndex) (s : State) : State := l.foldl (fun u i => freeRead i u) s

theorem freeReads_of_notListed (l : List ReadIndex) :
    ∀ s, (∀ i ∈ l, notListed i s) → freeReads l s = s.setReads (freeReads l s).reads := by
  induction l with
  | nil => exact fun _ _ => rfl
  | cons i l ih =>
    intro s hl
    have hfirst := freeRead_of_notListed (hl i List.mem_cons_self)
    have hrest := ih (freeRead i s) fun j hj => by
      rw [hfirst]
      exact hl j (List.mem_cons_of_mem i hj)
    calc freeReads (i :: l) s = (freeRead i s).setReads (freeReads l (freeRead i s)).reads := hrest
      _ = (s.setReads (freeRead i s).reads).setReads (freeReads l (freeRead i s)).reads := by rw [← hfirst]

theorem freeReads_sized (l : List ReadIndex) :
    ∀ s, (freeReads l s).reads.entries.length = s.reads.entries.length := by
  induction l with
  | nil => exact fun _ => rfl
  | cons i l ih => exact fun s => (ih (freeRead i s)).trans (by simp)

theorem freeReads_order (l : List ReadIndex) :
    ∀ s, (freeReads l s).reads.order = s.reads.order.filter (fun i => !l.contains i) := by
  induction l with
  | nil => simp [freeReads]
  | cons i l ih =>
    intro s
    refine (ih (freeRead i s)).trans ?_
    simp only [freeRead_reads, List.filter_filter, List.contains_cons, Bool.not_or, Bool.and_comm, bne]

theorem readAt_freeReads (l : List ReadIndex) (i : ReadIndex) :
    ∀ s, s.reads.entries.length = Config.readEntries →
      readAt i (freeReads l s) = if i ∈ l then ReadEntry.free (readAt i s).incarnation else readAt i s := by
  induction l with
  | nil => exact fun _ _ => rfl
  | cons j l ih =>
    intro s hs
    refine (ih (freeRead j s) (by simp [hs])).trans ?_
    by_cases hij : i = j
    · subst hij
      simp [readAt_freeRead_self i hs, ReadEntry.free]
    · simp [readAt_freeRead_other j i s hij, hij]

/-! ### The cleared table -/

/-- The table is the list of its entries by index. -/
theorem entries_eq_map (h : s.reads.entries.length = Config.readEntries) :
    s.reads.entries = allReadIndexes.map (fun i => readAt i s) := by
  have hindex : ∀ k : Fin 8, (allReadIndexes[k]).toNat = k := by decide
  refine List.ext_getElem (by rw [h]; rfl) fun k hk hk' => ?_
  have hk8 : k < 8 := by simpa [allReadIndexes] using hk'
  have := hindex ⟨k, hk8⟩
  simp only [Fin.getElem_fin] at this
  simp [readAt, this, hk]

theorem readAt_cleared (a n : Nat) (i : ReadIndex) (s : State) :
    readAt i (cleared a n s) =
      if readOverlaps a n s i = true then ReadEntry.free (readAt i s).incarnation else readAt i s := by
  have hindex : ∀ i : ReadIndex, allReadIndexes[i.toNat]? = some i := by decide
  simp [readAt, cleared, hindex]

/-- Clearing keeps every incarnation (R39). -/
theorem readAt_cleared_incarnation (a n : Nat) (i : ReadIndex) (s : State) :
    (readAt i (cleared a n s)).incarnation = (readAt i s).incarnation := by
  rw [readAt_cleared]
  split <;> rfl

/-- Freeing the overlapping entries one by one gives the cleared table, where none of them is in the ready list. -/
theorem freeReads_overlapping_eq_cleared (hs : s.reads.entries.length = Config.readEntries)
    (hl : ∀ i, readOverlaps a n s i = true → notListed i s) :
    freeReads (allReadIndexes.filter (readOverlaps a n s)) s = cleared a n s := by
  have hmem (i : ReadIndex) : i ∈ allReadIndexes.filter (readOverlaps a n s) ↔ readOverlaps a n s i = true := by
    simp [mem_allReadIndexes]
  rw [freeReads_of_notListed _ _ fun i hi => hl i ((hmem i).mp hi)]
  have hentries : (freeReads (allReadIndexes.filter (readOverlaps a n s)) s).reads.entries =
      (cleared a n s).reads.entries := by
    rw [entries_eq_map ((freeReads_sized _ s).trans hs)]
    simp only [readAt_freeReads _ _ s hs, hmem, cleared]
  have horder : (freeReads (allReadIndexes.filter (readOverlaps a n s)) s).reads.order = (cleared a n s).reads.order := by
    rw [freeReads_order]
    refine List.filter_congr fun i _ => ?_
    rw [Bool.eq_iff_iff]
    simp [mem_allReadIndexes]
  have hreads : (freeReads (allReadIndexes.filter (readOverlaps a n s)) s).reads = (cleared a n s).reads :=
    congrArg₂ ReadAgent.mk hentries horder
  rw [hreads]
  rfl

/-! ### The choice of an entry (R49) -/

theorem chooseRead_of_free (hi : (readAt i s).state = .free) (hlow : ∀ j, j.toNat < i.toNat → (readAt j s).state ≠ .free) :
    chooseRead s = some i := by
  have hsorted : allReadIndexes.Pairwise (fun j k => j.toNat < k.toNat) := by decide
  obtain ⟨lower, higher, hsplit⟩ := List.append_of_mem (mem_allReadIndexes i)
  have hfind : allReadIndexes.find? (fun j => (readAt j s).state == .free) = some i := by
    refine List.find?_eq_some_iff_append.mpr ⟨by simp [hi], lower, higher, hsplit, fun j hj => ?_⟩
    rw [hsplit] at hsorted
    obtain ⟨-, -, hbelow⟩ := List.pairwise_append.mp hsorted
    simpa using hlow j (hbelow j hj i List.mem_cons_self)
  simp [chooseRead, hfind]

theorem chooseRead_of_full (hfull : ∀ j, (readAt j s).state ≠ .free) :
    chooseRead s = s.reads.order.find? (fun j => reclaimable (readAt j s)) := by
  have hfind : allReadIndexes.find? (fun j => (readAt j s).state == .free) = none :=
    List.find?_eq_none.mpr fun j _ => by simpa using hfull j
  simp [chooseRead, hfind]

theorem chooseRead_of_oldest {older newer : List ReadIndex} (hfull : ∀ j, (readAt j s).state ≠ .free)
    (horder : s.reads.order = older ++ i :: newer) (hi : reclaimable (readAt i s) = true)
    (holder : ∀ j ∈ older, reclaimable (readAt j s) = false) : chooseRead s = some i := by
  rw [chooseRead_of_full hfull]
  exact List.find?_eq_some_iff_append.mpr ⟨hi, older, newer, horder, fun j hj => by simp [holder j hj]⟩

theorem chooseRead_of_none (h : ∀ i, (readAt i s).state ≠ .free ∧ reclaimable (readAt i s) = false) :
    chooseRead s = none := by
  rw [chooseRead_of_full fun j => (h j).1]
  exact List.find?_eq_none.mpr fun j _ => by simp [(h j).2]

/-! ### Allocation (R50) -/

variable {start : GlobalAddr} {len : Nat}

/-- Allocation of an entry that is not in the ready list changes the table, and appends to the ready list where no posted write is
ahead. -/
theorem allocateRead_of_notListed (h : notListed i s) (dest : Station) (start : GlobalAddr) (len : Nat) (prefetch : Bool) :
    allocateRead i dest start len prefetch s =
      { withReady
          (s.sel.ready ++ if s.writes.queue = [] then [.read i ((readAt i s).incarnation + 1)] else []) s with
        reads :=
          { entries := s.reads.entries.set i.toNat (allocated ((readAt i s).incarnation + 1) dest start len prefetch s)
            order := s.reads.order.filter (· != i) ++ [i] } } := by
  have hfree := freeRead_of_notListed h
  rw [freeRead_reads] at hfree
  simp only [allocateRead, hfree, List.isEmpty_iff]
  split
  · simp [appendReady, withReady, State.setReads, State.setSel]
  · simp [withReady, State.setReads]

theorem allocated_eq (inc : Incarnation) (dest : Station) (start : GlobalAddr) (len : Nat) (prefetch : Bool) (s : State) :
    allocated inc dest start len prefetch s =
      { ReadEntry.free inc with
        state := if s.writes.queue = [] then .ready else .waiting
        dest := dest, addr := start, length := len, prefetch := prefetch
        barrier := s.writes.queue.getLast?.map (·.admission)
        ahead := s.writes.queue.length } := by
  simp only [allocated, List.isEmpty_iff]

theorem spent_iff (e : ReadEntry) : spent e = true ↔ e.state = .complete ∧ e.delivered = true := by
  simp [spent]

/-- A reclaimable entry is COMPLETE (R49). -/
theorem reclaimable_complete {e : ReadEntry} (h : reclaimable e = true) : e.state = .complete := by
  simp only [reclaimable, Bool.and_eq_true, beq_iff_eq] at h
  obtain ⟨⟨⟨hcomplete, -⟩, -⟩, -⟩ := h
  exact hcomplete

theorem tableFull_eq (s : State) : tableFull s = { reply := .retry, data := 0, next := withCount .tableFull 1 s } := rfl

theorem allocate_of_blocked (dest : Station) (prefetch : Bool)
    (h : ∃ i, readOverlaps start.toNat len s i = true ∧ ¬((readAt i s).state = .complete ∧ (readAt i s).delivered = true)) :
    allocate dest start len prefetch s = tableFull s := by
  obtain ⟨i, hi, hspent⟩ := h
  have hblocked : ¬(allReadIndexes.filter (readOverlaps start.toNat len s)).all (fun j => spent (readAt j s)) = true :=
    fun hall => hspent ((spent_iff _).mp (List.all_eq_true.mp hall i (List.mem_filter.mpr ⟨mem_allReadIndexes i, hi⟩)))
  exact if_neg hblocked

/-- With every overlap spent, the choice is made in the cleared table. -/
theorem WellKept.allocate_of_spent (h : WellKept s) (dest : Station) (prefetch : Bool)
    (hspent : ∀ i, readOverlaps start.toNat len s i = true →
      (readAt i s).state = .complete ∧ (readAt i s).delivered = true) :
    allocate dest start len prefetch s =
      (chooseRead (cleared start.toNat len s)).elim (tableFull s)
        (fun i => answerOnly .retry 0 (allocateRead i dest start len prefetch (cleared start.toNat len s))) := by
  obtain ⟨-, hsized, -, -⟩ := h.sized
  have hall : (allReadIndexes.filter (readOverlaps start.toNat len s)).all (fun j => spent (readAt j s)) = true :=
    List.all_eq_true.mpr fun j hj => (spent_iff _).mpr (hspent j (List.mem_filter.mp hj).2)
  have hclear := freeReads_overlapping_eq_cleared (a := start.toNat) (n := len) hsized fun i hi =>
    h.notListed (i := i) (by simp [(hspent i hi).1])
  unfold freeReads at hclear
  simp only [allocate, hall, if_true, hclear]
  cases chooseRead (cleared start.toNat len s) <;> rfl

/-- An entry that the cleared table shows FREE or COMPLETE is not in the ready list, which clearing leaves as it was. -/
theorem WellKept.notListed_cleared (h : WellKept s)
    (hspent : ∀ i, readOverlaps a n s i = true → (readAt i s).state = .complete)
    (hi : (readAt i (cleared a n s)).state ≠ .ready) : Machine.notListed i (cleared a n s) := by
  refine h.notListed (i := i) fun hready => ?_
  rw [readAt_cleared] at hi
  split at hi
  next ho => simp [hspent i ho] at hready
  · exact hi hready

/-- The entry chosen in the cleared table is allocated with the next incarnation, as the newest. -/
theorem WellKept.allocate_of_chosen (h : WellKept s) (dest : Station) (prefetch : Bool)
    (hspent : ∀ i, readOverlaps start.toNat len s i = true →
      (readAt i s).state = .complete ∧ (readAt i s).delivered = true)
    (hchoice : chooseRead (cleared start.toNat len s) = some i)
    (hi : (readAt i (cleared start.toNat len s)).state ≠ .ready) :
    allocate dest start len prefetch s =
      { reply := .retry
        data := 0
        next :=
          { withReady (s.sel.ready ++ if s.writes.queue = [] then [.read i ((readAt i s).incarnation + 1)] else []) s with
            reads :=
              { entries := (cleared start.toNat len s).reads.entries.set i.toNat
                  { ReadEntry.free ((readAt i s).incarnation + 1) with
                    state := if s.writes.queue = [] then .ready else .waiting
                    dest := dest, addr := start, length := len, prefetch := prefetch
                    barrier := s.writes.queue.getLast?.map (·.admission)
                    ahead := s.writes.queue.length }
                order := (cleared start.toNat len s).reads.order.filter (· != i) ++ [i] } } } := by
  have hlisted := h.notListed_cleared (fun j hj => (hspent j hj).1) hi
  rw [h.allocate_of_spent dest prefetch hspent, hchoice, Option.elim_some, allocateRead_of_notListed hlisted, allocated_eq,
    readAt_cleared_incarnation]
  rfl

/-- Settles O37: a read of a PRESENT peer's entry is allocated in the cleared table, by the choice that R49 makes there. -/
theorem unmatchedReadIsAllocated : Obligations.UnmatchedReadIsAllocated := by
  intro s notice w be g hk hp hb a hnone hx hg hown hpresent start len retried
  have htaken : apertureReadTaken a be s = allocate g.owner start len g.prefetch s :=
    (apertureReadTaken_of_none (matchingRead_of_none hnone)).trans (newRead_of_present hx hg hown hpresent)
  have hretried {t : State} (ht : allocate g.owner start len g.prefetch s = { reply := .retry, data := 0, next := t }) :
      retried t :=
    hk.exec_apertureRead hp hb notice (htaken.trans ht) fun _ => rfl
  refine ⟨fun hblocked => hretried ((allocate_of_blocked g.owner g.prefetch hblocked).trans (tableFull_eq s)), ?_⟩
  intro hspent c chosen
  have hchosen {i : ReadIndex} (hchoice : chooseRead c = some i) (hi : (readAt i c).state ≠ .ready) : chosen i :=
    hretried (hk.allocate_of_chosen g.owner g.prefetch hspent hchoice hi)
  refine ⟨fun hfull => ?_, fun i hfree hlow => ?_, fun i older newer hfull horder hi holder => ?_⟩
  · have hnochoice := hk.allocate_of_spent g.owner g.prefetch hspent
    rw [chooseRead_of_none hfull] at hnochoice
    exact hretried (hnochoice.trans (tableFull_eq s))
  · exact hchosen (chooseRead_of_free hfree hlow) (by simp [hfree])
  · exact hchosen (chooseRead_of_oldest hfull horder hi holder) (by simp [reclaimable_complete hi])

end Sys2Proof.Machine

/-! ## A host write of the aperture (R68 to R71)

The write agent's judgement, one equation per answer and in the order of its tests: the span state, the directory, the entry's access,
then the owner's record and the queue, or for an own entry the Notice Queue. A refusal changes the event unit alone, and a full queue
nothing. -/

namespace Sys2Proof.Machine

variable {s : State} {a : GlobalAddr} {be : Enables} {data : List Byte} {notice : Bool} {e : DirEntry}

/-- A write of the aperture that is taken is answered as the write agent answers it, and drives no data. -/
theorem WellKept.exec_apertureWrite (h : WellKept s) (hp : portReady s) (hb : someByte be = true) {w : BitVec 12} {d x : Word}
    {r : Reply} {t : State}
    (ht : apertureWriteTaken (apertureAddr w be s) (laneBytes be d) notice s = { reply := r, data := x, next := t }) :
    exec (.apertureWrite notice w be d) s = .next (withCycle .write (apertureWordAddr notice w) be r none t) := by
  have hcycle := hostCycle_taken s .write (apertureWordAddr notice w) be
    (apertureWriteTaken (apertureAddr w be s) (laneBytes be d) notice) hp (by decide) hb
  rw [ht, if_neg (by decide)] at hcycle
  simp only [exec, execApertureWrite, h.aperturePastEnd_eq_false w be, hcycle]
  rfl

/-! ### The span state and the directory (R68, R69) -/

theorem apertureWriteTaken_of_not_online (hx : s.ctl.span ≠ .online) :
    apertureWriteTaken a data notice s =
      { reply := .fault, data := 0, next := withFault .write (spanFault s.ctl.span) a 0 s } := by
  simp [apertureWriteTaken, hx, refuseAccess_eq]

theorem apertureWriteTaken_of_no_entry (hx : s.ctl.span = .online) (he : lookup a s = none) :
    apertureWriteTaken a data notice s = { reply := .fault, data := 0, next := withFault .write .noEntry a 0 s } := by
  simp [apertureWriteTaken, hx, he, refuseAccess_eq]

theorem apertureWriteTaken_of_own {n : RegionIndex} (hx : s.ctl.span = .online) (he : lookup a s = some e)
    (hn : e.own = some n) : apertureWriteTaken a data notice s = loopbackWrite e n a data notice s := by
  simp [apertureWriteTaken, hx, he, hn]

/-! ### A peer's entry (R69, R71) -/

theorem apertureWriteTaken_of_peer_readOnly (hx : s.ctl.span = .online) (he : lookup a s = some e) (hn : e.own = none)
    (hrw : e.readWrite = false) :
    apertureWriteTaken a data notice s = { reply := .fault, data := 0, next := withFault .write .readOnly a e.owner s } := by
  simp [apertureWriteTaken, hx, he, hn, hrw, refuseAccess_eq]

theorem apertureWriteTaken_of_unreachable (hx : s.ctl.span = .online) (he : lookup a s = some e) (hn : e.own = none)
    (hrw : e.readWrite = true) (hp : (peerOf e.owner s).presence ≠ .present) :
    apertureWriteTaken a data notice s =
      { reply := .fault, data := 0, next := withFault .write .unreachable a e.owner s } := by
  simp [apertureWriteTaken, hx, he, hn, hrw, hp, refuseAccess_eq]

/-- A PRESENT owner's entry: the write is admitted where the queue has room, and otherwise the host has to repeat it. -/
theorem apertureWriteTaken_of_present (hx : s.ctl.span = .online) (he : lookup a s = some e) (hn : e.own = none)
    (hrw : e.readWrite = true) (hp : (peerOf e.owner s).presence = .present) :
    apertureWriteTaken a data notice s =
      if Config.writeQueueCapacity ≤ s.writes.queue.length then { reply := .retry, data := 0, next := s }
      else { reply := .ok, data := 0, next := admitWrite e.owner a data notice s } := by
  simp [apertureWriteTaken, hx, he, hn, hrw, hp, answerOnly]

/-! ### An own entry (R70) -/

theorem loopbackWrite_of_readOnly {n : RegionIndex} (hrw : e.readWrite = false) :
    loopbackWrite e n a data notice s =
      { reply := .fault, data := 0, next := withFault .write .readOnly a (ownStation s) s } := by
  simp [loopbackWrite, hrw, refuseAccess_eq]

theorem loopbackWrite_of_noticeFull {n : RegionIndex} (hrw : e.readWrite = true) (hnotice : notice = true)
    (hfull : Config.noticeCapacity ≤ s.resp.notices.length) :
    loopbackWrite e n a data notice s =
      { reply := .fault, data := 0, next := withFault .write .noticeFull a (ownStation s) s } := by
  simp [loopbackWrite, hrw, hnotice, noticesFull, hfull, refuseAccess_eq]

/-- Settles O38: each refusal is one case of the write agent's judgement, and the cycle passes it on. -/
theorem refusedWriteChangesNothing : Obligations.RefusedWriteChangesNothing := by
  intro s notice w be d hk hp hb a answered faulted
  have hfaulted {r : FaultReason} {n : Station}
      (ht : apertureWriteTaken a (laneBytes be d) notice s = { reply := .fault, data := 0, next := withFault .write r a n s }) :
      faulted r n :=
    hk.exec_apertureWrite hp hb ht
  have hspan (hx : s.ctl.span ≠ .online) : faulted (spanFault s.ctl.span) 0 :=
    hfaulted (apertureWriteTaken_of_not_online hx)
  refine ⟨?_, fun hx => ?_, fun hx => ?_, fun hx he => hfaulted (apertureWriteTaken_of_no_entry hx he),
    fun e hx he => ⟨?_, ?_, ?_, ?_, ?_⟩⟩
  · rintro (hx | hx | hx) <;> simpa [hx, spanFault] using hspan (by simp [hx])
  · simpa [hx, spanFault] using hspan (by simp [hx])
  · simpa [hx, spanFault] using hspan (by simp [hx])
  · intro hn hrw
    exact hfaulted (apertureWriteTaken_of_peer_readOnly hx he hn hrw)
  · intro hn hrw hsilent
    exact hfaulted (apertureWriteTaken_of_unreachable hx he hn hrw (by simp [hsilent]))
  · intro hn hrw hpresent hfull
    exact hk.exec_apertureWrite hp hb
      ((apertureWriteTaken_of_present hx he hn hrw hpresent).trans (if_pos (Nat.le_of_eq hfull.symm)))
  · intro hown hrw
    obtain ⟨n, hn⟩ := Option.isSome_iff_exists.mp hown
    exact hfaulted ((apertureWriteTaken_of_own hx he hn).trans (loopbackWrite_of_readOnly hrw))
  · intro hown hrw hnotice hfull
    obtain ⟨n, hn⟩ := Option.isSome_iff_exists.mp hown
    exact hfaulted
      ((apertureWriteTaken_of_own hx he hn).trans (loopbackWrite_of_noticeFull hrw hnotice (Nat.le_of_eq hfull.symm)))

end Sys2Proof.Machine

/-! ## The commands with no event of station control (R101, R134, R169, R171)

What a command records and answers depends only on whether it is refused or accepted: one rule for each, which the three commands and
the write of no command then use. -/

namespace Sys2Proof.Machine

variable {s : State} {k : HostCommand} {r : RefusalCode} {be : Enables} {d : Word}

/-! ### A command refused and accepted (R134, R135) -/

/-- A refused command only records its refusal, and is answered FAULT. -/
theorem commandCycle_of_refused (hi : Bool) {taken : State → Taken} (hp : portReady s)
    (htaken : taken s = refuseCommand (commandCode k) r s) (hr : r ≠ .none) :
    commandCycle hi taken s = .next (withCommand hi k r s) := by
  rw [commandCycle, commandTaken_eq s hi taken hp, htaken, withCommand, if_neg hr]
  rfl

/-- An accepted command has its effect, records no refusal, and is answered OK. -/
theorem commandCycle_of_accepted (hi : Bool) {effect : State → State} {taken : State → Taken} (hp : portReady s)
    (htaken : taken s = acceptCommand k effect s) :
    commandCycle hi taken s = .next (withCommand hi k .none (effect s)) := by
  rw [commandCycle, commandTaken_eq s hi taken hp, htaken, withCommand, if_pos rfl]
  rfl

/-! ### NOTICE_POP (R101) -/

theorem noticePopTaken_of_nil (h : s.resp.notices = []) :
    noticePopTaken s = refuseCommand (commandCode .noticePop) .queueEmpty s := by
  simp [noticePopTaken, h]

theorem noticePopTaken_of_cons {x : Notice} {rest : List Notice} (h : s.resp.notices = x :: rest) :
    noticePopTaken s = acceptCommand .noticePop popNotice s := by
  simp [noticePopTaken, h]

/-- The oldest notice stands first. -/
theorem popNotice_of_cons {x : Notice} {rest : List Notice} (h : s.resp.notices = x :: rest) :
    popNotice s = { s with resp := { s.resp with notices := rest } } := by
  rw [popNotice, h]
  rfl

/-! ### No command (R134) -/

/-- The commands are the codes 1 to 6 of Table 8.4. -/
theorem commandCode_bounds (k : HostCommand) : 0 < (commandCode k).toNat ∧ (commandCode k).toNat ≤ 6 := by
  cases k <;> decide

theorem knownCode_eq_false {c : Byte} (hc : c = 0 ∨ 6 < c.toNat) : knownCode c = false := by
  have hother (k : HostCommand) : commandCode k ≠ c := by
    rintro rfl
    obtain ⟨hpos, hle⟩ := commandCode_bounds k
    rcases hc with hzero | hlarge
    · simp [hzero] at hpos
    · omega
  simp [knownCode, hother]

/-- A write whose low byte is disabled carries no code, and one that carries a code outside Table 8.4 names no command. -/
theorem exec_unknownCommand (hp : portReady s) (hb : someByte be = true)
    (hcode : be.lo = true → d.extractLsb' 0 8 = 0 ∨ 6 < (d.extractLsb' 0 8).toNat) :
    exec (.unknownCommand be d) s = .next
      (withCycle .write (regWordAddr .command) be .fault none (setCommandStatus (writtenCode be d) .unknownCommand s)) := by
  have hunknown : (be.lo && knownCode (writtenCode be d)) = false := by
    cases hlo : be.lo with
    | false => rfl
    | true => simpa [writtenCode, hlo] using knownCode_eq_false (hcode hlo)
  have hcycle := hostCycle_taken s .write (regWordAddr .command) be (refuseCommand (writtenCode be d) .unknownCommand) hp
    (by decide) hb
  simp only [exec, execUnknownCommand, hunknown, hcycle]
  rfl

/-- Settles O43: NOTICE_POP is refused or accepted by its queue, the two clearing commands are always accepted, and a write of no
command is always refused. -/
theorem noticeAndClearCommands : Obligations.NoticeAndClearCommands := by
  intro s hi hp
  refine ⟨fun x rest hcons => ?_, fun hnil => ?_, ?_, ?_, fun be d hb hcode => exec_unknownCommand hp hb hcode⟩
  · rw [← popNotice_of_cons hcons]
    exact commandCycle_of_accepted hi hp (noticePopTaken_of_cons hcons)
  · exact commandCycle_of_refused hi hp (noticePopTaken_of_nil hnil) (by decide)
  · exact commandCycle_of_accepted hi hp (effect := clearFault) rfl
  · exact commandCycle_of_accepted hi hp (effect := clearCounters) rfl

end Sys2Proof.Machine

/-! ## An attempt begins (R5, R17, R104, R108)

The region list of an ANNOUNCE, the selector's sources one by one, the frame of each as Table 6.2 gives it, and the attempt that
copies it: ATTEMPT_BEGIN is then one case for each source. -/

namespace Sys2Proof.Machine

variable {s : State}

/-! ### The region list of an ANNOUNCE (R17, R33) -/

/-- A region has an entry exactly while it is ENTERED, and that entry is the configuration's. -/
theorem find?_own_of_ownRegionsRight (h : ownRegionsRight s) (n : RegionIndex) :
    s.dir.entries.find? (fun e => e.own == some n) = if statusOf n s = .entered then some (ownEntry n s) else none := by
  obtain ⟨hown, -, hentered, -⟩ := h
  cases hfind : s.dir.entries.find? (fun e => e.own == some n) with
  | none =>
    have hnot : statusOf n s ≠ .entered := fun hn => by
      obtain ⟨e, he, hen⟩ := (hentered n).mp hn
      simpa [hen] using List.find?_eq_none.mp hfind e he
    rw [if_neg hnot]
  | some e =>
    have he := List.mem_of_find?_eq_some hfind
    have hen : e.own = some n := by simpa using List.find?_some hfind
    rw [if_pos ((hentered n).mpr ⟨e, he, hen⟩), hown e he n hen]

theorem ownGroups_eq_announcedRegions (h : ownRegionsRight s) : ownGroups s = announcedRegions s := by
  have hgroup (n : RegionIndex) :
      (s.dir.entries.find? (fun e => e.own == some n)).map groupOf =
        if decide (statusOf n s = .entered) = true then some (groupOf (ownEntry n s)) else none := by
    rw [find?_own_of_ownRegionsRight h n]
    by_cases hn : statusOf n s = .entered <;> simp [hn]
  simp only [ownGroups, hgroup]
  rw [← List.filterMap_filter, List.filterMap_eq_map']
  rfl

/-! ### The selector's sources in their order (R104) -/

theorem onSpan_iff (x : SpanState) : onSpan x = true ↔ x = .announcing ∨ x = .online ∨ x = .leaving := by
  cases x <;> decide

theorem firstOffer_of_response {r : Response} {rest : List Response} (hr : s.resp.responses = r :: rest) :
    firstOffer s = some (.response r) := by
  simp [firstOffer, hr]

theorem firstOffer_of_leaveMark (hr : s.resp.responses = []) (hl : s.sel.leaveMark = true) :
    firstOffer s = some .leave := by
  simp [firstOffer, hr, hl]

theorem firstOffer_of_announceDue {fresh : Bool} (hr : s.resp.responses = []) (hl : s.sel.leaveMark = false)
    (ha : announceDue s.sel.announceMark = some fresh) : firstOffer s = some (.announce fresh (ownGroups s)) := by
  simp [firstOffer, hr, hl, ha]

theorem firstOffer_of_heartbeatMark (hr : s.resp.responses = []) (hl : s.sel.leaveMark = false)
    (ha : announceDue s.sel.announceMark = none) (hh : s.sel.heartbeatMark = true) : firstOffer s = some .heartbeat := by
  simp [firstOffer, hr, hl, ha, hh]

/-- With no response and no mark, the ready list's first item is offered, if there is one. -/
theorem firstOffer_of_ready (hr : s.resp.responses = []) (hl : s.sel.leaveMark = false)
    (ha : announceDue s.sel.announceMark = none) (hh : s.sel.heartbeatMark = false) :
    firstOffer s = s.sel.ready.head?.map .request := by
  simp [firstOffer, hr, hl, ha, hh]

/-! ### The frame of each source, with its class (R52, R74, R97, R108) -/

theorem urgent_iff : urgent s = true ↔ 8 ≤ s.iface.lossCount := decide_eq_true_iff

theorem requestClass_eq : requestClass s = if 8 ≤ s.iface.lossCount then 1 else 2 := if_congr urgent_iff rfl rfl

theorem maintenanceClass_eq : maintenanceClass s = if 8 ≤ s.iface.lossCount then 1 else 3 := if_congr urgent_iff rfl rfl

theorem maintenanceFrame_eq (fresh : Bool) (b : Body) :
    maintenanceFrame fresh b s =
      { cls := if 8 ≤ s.iface.lossCount then 1 else 3, src := s.ctl.config.station, notice := false, fresh := fresh,
        dest := 31, tag := 0, body := b } := by
  rw [maintenanceFrame, maintenanceClass_eq]
  rfl

theorem offerFrame_read (i : ReadIndex) (inc : Incarnation) :
    offerFrame (.request (.read i inc)) s =
      { cls := if 8 ≤ s.iface.lossCount then 1 else 2, src := s.ctl.config.station, notice := false, fresh := false,
        dest := (readAt i s).dest, tag := i ++ inc,
        body := .readReq (readAt i s).addr (BitVec.ofNat 8 (readAt i s).length) } := by
  rw [← requestClass_eq]
  rfl

/-- The WRITE is that of the queue's head. -/
theorem offerFrame_write {w : PostedWrite} {rest : List PostedWrite} (hq : s.writes.queue = w :: rest) (admission : Word) :
    offerFrame (.request (.write admission)) s =
      { cls := if 8 ≤ s.iface.lossCount then 1 else 2, src := s.ctl.config.station, notice := w.notice, fresh := false,
        dest := w.dest, tag := w.sequence, body := .write w.addr w.data } := by
  have hhead : headOr s = w := by simp [headOr, hq]
  rw [offerFrame, writeFrame, requestClass_eq, hhead]
  rfl

/-! ### The attempt (R5) -/

/-- The attempt touches nothing that the end of an event looks at, so the event is the attempt alone. -/
theorem exec_attemptBegin_eq (hlow : s.port.resetLow = false) (hidle : s.iface.receiver = .idle) (hdrain : drainSettled s) :
    exec .attemptBegin s = .next (beginAttempt s) := by
  have hsame : ∃ x, beginAttempt s = s.setIface x := by
    unfold beginAttempt
    split
    · exact ⟨_, rfl⟩
    · exact ⟨s.iface, rfl⟩
  have hquiet : event beginAttempt s = beginAttempt s := by
    obtain ⟨x, hx⟩ := hsame
    exact event_eq_of_quiet s beginAttempt (by simp [hx]) (by simp [hx]) (by rw [hx]; exact hdrain)
  calc exec .attemptBegin s = execAttemptBegin s := rfl
    _ = .next (event beginAttempt s) := by simp [execAttemptBegin, stationEvent_eq, hlow, hidle]
    _ = .next (beginAttempt s) := by rw [hquiet]

/-- The offer is copied, and the receiver follows the station's own frame. -/
theorem beginAttempt_of_offer {x : Offered} (hx : offer s = some x) :
    beginAttempt s =
      { s with
        iface :=
          { s.iface with
            receiver := .receiving, rxBuffer := [], rxCount := 0, rxOwn := true
            tx := some
              { image := encodeFrame (offerFrame x s), item := x, phase := .arbitrating, bitsSent := 0, breakLength := 0 } } } := by
  rw [beginAttempt, hx]
  rfl

theorem beginAttempt_of_no_offer (hx : offer s = none) : beginAttempt s = s := by
  rw [beginAttempt, hx]

/-- Settles O8: on the span the sources are tried in R104's order, and the first that exists gives the frame; with none, and in
every other span state, nothing changes. -/
theorem attemptTakesTheFirstSource : Obligations.AttemptTakesTheFirstSource := by
  refine ⟨fun s h => ownGroups_eq_announcedRegions h, ?_⟩
  intro s hlow hidle hdrain taken requests maintenance me
  have hexec := exec_attemptBegin_eq hlow hidle hdrain
  have hnothing (ho : offer s = none) : exec .attemptBegin s = .next s := by
    rw [hexec, beginAttempt_of_no_offer ho]
  split
  case isFalse hoff => exact hnothing (if_neg (mt (onSpan_iff _).mp hoff))
  case isTrue hon =>
    have hoffer : offer s = firstOffer s := if_pos ((onSpan_iff _).mpr hon)
    have htaken {x : Offered} {f : Frame} (hx : firstOffer s = some x) (hf : offerFrame x s = f) : taken x f := by
      subst hf
      exact hexec.trans (congrArg Host.Outcome.next (beginAttempt_of_offer (hoffer.trans hx)))
    split
    next r _ hr =>
      obtain ⟨dest, tag, answer, serial⟩ := r
      refine htaken (firstOffer_of_response hr) ?_
      cases answer <;> rfl
    next hr hl => exact htaken (firstOffer_of_leaveMark hr hl) (maintenanceFrame_eq ..)
    next hr hl ha => exact htaken (firstOffer_of_announceDue hr hl ha) (maintenanceFrame_eq ..)
    next hr hl ha hh => exact htaken (firstOffer_of_heartbeatMark hr hl ha hh) (maintenanceFrame_eq ..)
    next i inc _ hr hl ha hh hy =>
      have hx : firstOffer s = some (.request (.read i inc)) := by rw [firstOffer_of_ready hr hl ha hh, hy]; rfl
      exact htaken hx (offerFrame_read i inc)
    next admission _ hr hl ha hh hy =>
      have hx : firstOffer s = some (.request (.write admission)) := by rw [firstOffer_of_ready hr hl ha hh, hy]; rfl
      exact fun w rest hq => htaken hx (offerFrame_write hq admission)
    next hr hl ha hh hy =>
      have hx : firstOffer s = none := by rw [firstOffer_of_ready hr hl ha hh, hy]; rfl
      exact hnothing (hoffer.trans hx)

end Sys2Proof.Machine

section
-- The whole text is compiled in one process under a memory limit, which proofs elaborated side by side come near.
set_option Elab.async false


/-! ## What a command can do

`exec` answers a next state in a few ways only: a reset, the end of the clear, a tick, an event with its end, a cycle whose owner
changes a block, or a change of the port alone. `Effect` lists the events and `Owned` the cycles, each with the condition that it arises
on; `exec_does` says that there is nothing else. Every rule over all commands is then a case of these lists. -/

namespace Sys2Proof.Machine

/-- The state that the event of command `c` makes of `s`, before the end of the event. -/
inductive Effect : Instr → State → State → Prop where
  | attemptBegin {s : State} (hidle : s.iface.receiver = .idle) : Effect .attemptBegin s (beginAttempt s)
  | attemptLost {s : State} (hu : s.iface.untaken = false) (hp : inPhase arbitrating s = true) :
      Effect .attemptLost s (loseAttempt s)
  | readbackMismatch {s : State} (hu : s.iface.untaken = false) (hp : inPhase onLine s = true) :
      Effect .readbackMismatch s (failReadback s)
  | breakEnd {s : State} (hu : s.iface.untaken = false) (hp : inPhase breaking s = true) : Effect .breakEnd s (endBreak s)
  | attemptSent {s : State} (hu : s.iface.untaken = false) (hp : inPhase onLine s = true) : Effect .attemptSent s (endSent s)
  | frameBroken {s : State} (hr : s.iface.receiver = .receiving) (htx : s.iface.tx = none) :
      Effect .frameBroken s (breakFrame s)
  | frameFormatError {s : State} {bytes : List Byte} (ht : takesFrame s = true) :
      Effect (.frameFormatError bytes) s (discardFrame bytes s)
  | clashReport {s : State} {bytes : List Byte} {f : Frame} (hf : checkFrame bytes = some f) (ht : takesValid f s = true)
      (hown : f.src = ownStation s) : Effect (.clashReport bytes) s (frameArrives bytes f s)
  | frame {s : State} {bytes : List Byte} {f : Frame} (hf : checkFrame bytes = some f) (ht : takesValid f s = true)
      (hend : framePastEnd f s = false) : Effect (frameCommand (bodyKind f.body) bytes) s (frameArrives bytes f s)
  | readResponseTimeout {s : State} {i : ReadIndex} (hd : responseDue i s = true) :
      Effect (.readResponseTimeout i) s (readTimedOut i s)
  | discardExpiry {s : State} {i : ReadIndex} (hd : discardDue i s = true) : Effect (.discardExpiry i) s (discardRead i s)
  | writeResponseTimeout {s : State} {w : PostedWrite} {rest : List PostedWrite} (hq : s.writes.queue = w :: rest)
      (hw : w.inFlight = true) : Effect .writeResponseTimeout s (headTimedOut w s)
  | holdExpiry {s : State} {w : PostedWrite} {rest : List PostedWrite} (hq : s.writes.queue = w :: rest)
      (hw : w.held = true) : Effect .holdExpiry s (readyHead w s)
  | heartbeatTimerExpiry {s : State} (hd : heartbeatEnded s = true) : Effect .heartbeatTimerExpiry s (heartbeatDue s)
  | listenTimerExpiry {s : State} (hd : listenDue s = true) : Effect .listenTimerExpiry s (listenEnds s)
  | drainTimerExpiry {s : State} (hd : drainDue s = true) : Effect .drainTimerExpiry s (drainAgents s)
  | silenceLimit {s : State} {n : Station} (hn : silenceReached n s = true) : Effect (.silenceLimit n) s (markSilent n s)
  | absenceLimit {s : State} {n : Station} (hn : absenceReached n s = true) : Effect (.absenceLimit n) s (losePeer n s)
  | idleFound {s : State} (hi : awaitsIdle s = true ∨ receivingPeer s = true) : Effect .idleFound s (foundIdle s)
  | startBitConfirmed {s : State} (hu : s.iface.untaken = false) (hr : s.iface.receiver = .idle) :
      Effect .startBitConfirmed s (startReceiving false s)
  | ownFrameEnd {s : State} (hr : s.iface.receiver = .receiving) (hown : s.iface.rxOwn = true) (htx : s.iface.tx = none) :
      Effect .ownFrameEnd s (s.setIface { s.iface with receiver := .idle, rxOwn := false })

/-- The state that the event of an accepted command of COMMAND makes of `s`, before the end of the event. -/
inductive Commanded : Instr → State → State → Prop where
  | join {s : State} {hi : Bool} (hx : s.ctl.span = .offline) (hc : judgeConfig s.ctl.config = .none) :
      Commanded (.join hi) s (startListening s)
  | leaveOnline {s : State} {hi : Bool} (hx : s.ctl.span = .online) : Commanded (.leave hi) s (startLeaving s)
  | leaveJoining {s : State} {hi : Bool} (hx : s.ctl.span = .listening ∨ s.ctl.span = .announcing) :
      Commanded (.leave hi) s (enterOffline s)
  | restart {s : State} {hi : Bool} : Commanded (.restart hi) s (enterOffline s)

/-- The state that the owner of the address of a cycle leaves, where it changes a block. -/
inductive Owned : Instr → State → State → Prop where
  | ramWrite {s : State} {w : BitVec 13} {be : Enables} {d : Word} :
      Owned (.hostRamWrite w be d) s (ramWrite (accessStart (w.toNat * 2) be) (laneBytes be d) s)
  | apertureRead {s : State} {notice : Bool} {w : BitVec 12} {be : Enables} (hb : someByte be = true) :
      Owned (.apertureRead notice w be) s (apertureReadTaken (apertureAddr w be s) be s).next
  | apertureWrite {s : State} {notice : Bool} {w : BitVec 12} {be : Enables} {d : Word} (hb : someByte be = true) :
      Owned (.apertureWrite notice w be d) s (apertureWriteTaken (apertureAddr w be s) (laneBytes be d) notice s).next
  | status {s : State} {c : Instr} {code : Byte} {r : RefusalCode} : Owned c s (setCommandStatus code r s)
  | noticePop {s : State} {hi : Bool} : Owned (.noticePop hi) s (setCommandStatus 4 .none (popNotice s))
  | clearFault {s : State} {hi : Bool} : Owned (.clearFault hi) s (setCommandStatus 5 .none (clearFault s))
  | clearCounters {s : State} {hi : Bool} : Owned (.clearCounters hi) s (setCommandStatus 6 .none (clearCounters s))
  | clearEvents {s : State} {be : Enables} {d : Word} :
      Owned (.eventFlagsWrite be d) s (clearEvents (d &&& laneMask be) s)
  | storeEnables {s : State} {be : Enables} {d : Word} : Owned (.eventEnableWrite be d) s (storeEnables be d s)
  | storeConfig {s : State} {w : ConfigWord} {be : Enables} {d : Word} (hx : s.ctl.span = .offline) :
      Owned (.configWrite w be d) s (storeConfig w be d s)
  | storeBitDiv {s : State} {be : Enables} {d : Word} (hx : s.ctl.span = .offline) :
      Owned (.bitDivWrite be d) s (storeBitDiv be d s)
  | storeTickDiv {s : State} {be : Enables} {d : Word} (hx : s.ctl.span = .offline) :
      Owned (.tickDivWrite be d) s (storeTickDiv be d s)
  | readEffect {s : State} {a : BitVec 15} {be : Enables} :
      Owned (.peerViewFirstWordRead a be) s (readEffect (areaOf a) be s)

/-- Every way in which a command makes a next state. -/
inductive Does : Instr → State → State → Prop where
  | powerOn {s : State} : Does .powerOnReset s (powerOnState s)
  | clearEnd {s : State} : Does .powerOnClearEnd s ((s.setRam []).setPort { s.port with clearing := false })
  | pinReset {s : State} : Does .pinReset s (pinResetState s)
  | port {c : Instr} {s : State} (p : HostPort) : Does c s (s.setPort p)
  | tick {s : State} (hdue : expiryDue s = false) : Does .tick s (tickAll s)
  | event {c : Instr} {s u : State} (hu : Effect c s u) : Does c s (eventEnd s u)
  | command {c : Instr} {s u : State} (hu : Commanded c s u) (code : Byte) (p : HostPort) :
      Does c s ((setCommandStatus code .none (eventEnd s u)).setPort p)
  | cycle {c : Instr} {s u : State} (hu : Owned c s u) (p : HostPort) : Does c s (u.setPort p)

variable {c : Instr} {s t : State}

/-! ### Nothing, events and cycles -/

theorem Does.same (ht : (.next s : Step) = .next t) : Does c s t :=
  Host.Outcome.next.inj ht ▸ .port s.port

/-- A row that is an event of the station. -/
theorem Does.of_stationEvent {arises : State → Bool} {f : State → State} (ht : stationEvent arises f s = .next t)
    (hf : arises s = true → Effect c s (f s)) : Does c s t := by
  rw [stationEvent_eq] at ht
  split at ht
  next ha => exact Host.Outcome.next.inj ht ▸ .event (hf ha.2)
  · exact .same ht

/-- A row that is an event of the line. -/
theorem Does.of_lineEvent {arises : State → Bool} {f : State → State} (ht : lineEvent arises f s = .next t)
    (hf : s.iface.untaken = false → arises s = true → Effect c s (f s)) : Does c s t :=
  .of_stationEvent ht fun ha => by
    obtain ⟨hu, ha⟩ := Bool.and_eq_true_iff.mp ha
    exact hf (by simpa using hu) ha

/-- A cycle changes the port alone, or it is handed to the owner of its address, with a byte enabled. -/
theorem hostCycle_does (dir : Strobe) (a : BitVec 15) (be : Enables) (owner : State → Taken) (s : State) :
    (∃ p, hostCycle dir a be owner s = s.setPort p) ∨
      someByte be = true ∧ ∃ p, hostCycle dir a be owner s = (owner s).next.setPort p := by
  unfold hostCycle answerCycle
  split
  · exact .inl ⟨s.port, rfl⟩
  split
  · exact .inl ⟨_, rfl⟩
  split
  · exact .inl ⟨_, rfl⟩
  split
  · exact .inl ⟨_, rfl⟩
  split
  next hb => exact .inr ⟨hb, _, rfl⟩
  · exact .inl ⟨_, rfl⟩

/-- A row that is a cycle, by what its owner makes of it. -/
theorem Does.of_cycle {dir : Strobe} {a : BitVec 15} {be : Enables} {owner : State → Taken}
    (ht : (.next (hostCycle dir a be owner s) : Step) = .next t)
    (ho : someByte be = true → ∀ p, Does c s ((owner s).next.setPort p)) : Does c s t := by
  obtain rfl := Host.Outcome.next.inj ht
  obtain ⟨p, hp⟩ | ⟨hb, p, hp⟩ := hostCycle_does dir a be owner s <;> rw [hp]
  · exact .port p
  · exact ho hb p

/-- A cycle whose owner changes a block. -/
theorem Does.of_owned {dir : Strobe} {a : BitVec 15} {be : Enables} {owner : State → Taken}
    (ht : (.next (hostCycle dir a be owner s) : Step) = .next t)
    (ho : someByte be = true → Owned c s (owner s).next) : Does c s t :=
  .of_cycle ht fun hb p => .cycle (ho hb) p

/-- A write of a configuration word, which is stored in OFFLINE alone (R150). -/
theorem Does.of_config {a : BitVec 15} {be : Enables} {store : State → State}
    (ht : (.next (hostCycle .write a be (configTaken store) s) : Step) = .next t)
    (ho : s.ctl.span = .offline → Owned c s (store s)) : Does c s t := by
  refine .of_cycle ht fun _ p => ?_
  unfold configTaken
  split
  next hx => exact .cycle (ho hx) p
  · exact .port p

/-! ### Frames -/

theorem frameCommand_of_checkFrameOf {k : Kind} {bytes : List Byte} {f : Frame} (h : checkFrameOf k bytes = some f) :
    checkFrame bytes = some f ∧ bodyKind f.body = k := by
  obtain ⟨hf, hk⟩ := Option.filter_eq_some_iff.mp h
  exact ⟨hf, by simpa using hk⟩

theorem checkFrameOf_iff {k : Kind} {bytes : List Byte} {f : Frame} :
    checkFrameOf k bytes = some f ↔ checkFrame bytes = some f ∧ bodyKind f.body = k := by
  simp [checkFrameOf, Option.filter_eq_some_iff]

theorem exec_frameCommand (k : Kind) (bytes : List Byte) (s : State) :
    exec (frameCommand k bytes) s = receiveKind k bytes s := by
  cases k <;> rfl

/-- A frame past the end of shared RAM is not taken, and the fault leaves no next state. -/
theorem Does.of_receiveKind {k : Kind} {bytes : List Byte} (ht : receiveKind k bytes s = .next t) :
    Does (frameCommand k bytes) s t := by
  unfold receiveKind at ht
  split at ht
  · cases ht
  next f hf =>
    obtain ⟨hframe, rfl⟩ := frameCommand_of_checkFrameOf hf
    split at ht
    · cases ht
    next hend =>
      rw [stationEvent_eq] at ht
      split at ht
      next ha =>
        obtain ⟨hlow, hv⟩ := ha
        have hpast : framePastEnd f s = false := by simpa [hlow, hv] using hend
        exact Host.Outcome.next.inj ht ▸ .event (.frame hframe hv hpast)
      · exact .same ht

/-! ### Commands of COMMAND -/

theorem Does.of_join {hi : Bool} (ht : execJoin hi s = .next t) : Does (.join hi) s t := by
  refine .of_cycle ht fun _ p => ?_
  unfold joinTaken
  split
  · exact .cycle .status p
  next hoff =>
    split
    · exact .cycle .status p
    next hj => exact .command (.join (not_not.mp hoff) (not_not.mp hj)) _ p

theorem Does.of_leave {hi : Bool} (ht : execLeave hi s = .next t) : Does (.leave hi) s t := by
  refine .of_cycle ht fun _ p => ?_
  unfold leaveTaken
  split
  next hx => exact .command (.leaveOnline hx) _ p
  next hx => exact .command (.leaveJoining (.inl hx)) _ p
  next hx => exact .command (.leaveJoining (.inr hx)) _ p
  · exact .cycle .status p

theorem Does.of_noticePop {hi : Bool} (ht : execNoticePop hi s = .next t) : Does (.noticePop hi) s t := by
  refine .of_owned ht fun _ => ?_
  unfold noticePopTaken
  split
  · exact .status
  · exact .noticePop

/-! ### Every command -/

theorem exec_does (ht : exec c s = .next t) : Does c s t := by
  cases c with
  | powerOnReset => exact Host.Outcome.next.inj ht ▸ .powerOn
  | powerOnClearEnd =>
    simp only [exec, execPowerOnClearEnd] at ht
    split at ht
    · exact Host.Outcome.next.inj ht ▸ .clearEnd
    · exact .same ht
  | pinReset => exact Host.Outcome.next.inj ht ▸ .pinReset
  | pinResetRelease => exact Host.Outcome.next.inj ht ▸ .port _
  | hostCycleEnd => exact Host.Outcome.next.inj ht ▸ .port _
  | attemptBegin => exact .of_stationEvent (show execAttemptBegin s = .next t from ht) fun ha => .attemptBegin (by simpa using ha)
  | attemptLost => exact .of_lineEvent ht .attemptLost
  | readbackMismatch => exact .of_lineEvent ht .readbackMismatch
  | breakEnd => exact .of_lineEvent ht .breakEnd
  | attemptSent => exact .of_lineEvent ht .attemptSent
  | frameBroken =>
    refine .of_stationEvent (show execFrameBroken s = .next t from ht) fun ha => ?_
    simp only [Bool.and_eq_true, beq_iff_eq, Option.isNone_iff_eq_none] at ha
    exact .frameBroken ha.1 ha.2
  | frameFormatError bytes =>
    simp only [exec, execFrameFormatError] at ht
    split at ht
    · cases ht
    · exact .of_stationEvent ht .frameFormatError
  | clashReport bytes =>
    simp only [exec, execClashReport] at ht
    split at ht
    · cases ht
    next f hf =>
      refine .of_stationEvent ht fun ha => ?_
      simp only [Bool.and_eq_true, beq_iff_eq] at ha
      exact .clashReport hf ha.1 ha.2
  | readRsp bytes => exact .of_receiveKind (k := .readRsp) ht
  | nack bytes => exact .of_receiveKind (k := .nack) ht
  | writeAck bytes => exact .of_receiveKind (k := .writeAck) ht
  | readReq bytes => exact .of_receiveKind (k := .readReq) ht
  | write bytes => exact .of_receiveKind (k := .write) ht
  | heartbeat bytes => exact .of_receiveKind (k := .heartbeat) ht
  | announce bytes => exact .of_receiveKind (k := .announce) ht
  | leaveFrame bytes => exact .of_receiveKind (k := .leave) ht
  | readResponseTimeout i => exact .of_stationEvent ht .readResponseTimeout
  | discardExpiry i => exact .of_stationEvent ht .discardExpiry
  | writeResponseTimeout =>
    refine .of_stationEvent ht fun ha => ?_
    cases hq : s.writes.queue with
    | nil => simp [headExpired, hq] at ha
    | cons w rest =>
      simp only [headExpired, hq, List.head?_cons, Option.any_some, Bool.and_eq_true] at ha
      simpa only [onHead, hq] using .writeResponseTimeout hq ha.1
  | holdExpiry =>
    refine .of_stationEvent ht fun ha => ?_
    cases hq : s.writes.queue with
    | nil => simp [headExpired, hq] at ha
    | cons w rest =>
      simp only [headExpired, hq, List.head?_cons, Option.any_some, Bool.and_eq_true] at ha
      simpa only [onHead, hq] using .holdExpiry hq ha.1
  | heartbeatTimerExpiry => exact .of_stationEvent ht .heartbeatTimerExpiry
  | listenTimerExpiry => exact .of_stationEvent ht .listenTimerExpiry
  | drainTimerExpiry => exact .of_stationEvent ht .drainTimerExpiry
  | silenceLimit n =>
    simp only [exec, execSilenceLimit] at ht
    split at ht
    · exact .of_stationEvent ht .silenceLimit
    · cases ht
  | absenceLimit n =>
    simp only [exec, execAbsenceLimit] at ht
    split at ht
    · exact .of_stationEvent ht .absenceLimit
    · cases ht
  | hostRamRead w be => exact .of_cycle ht fun _ => .port
  | hostRamWrite w be d => exact .of_owned ht fun _ => .ramWrite
  | apertureRead notice w be =>
    simp only [exec, execApertureRead] at ht
    split at ht
    · cases ht
    · exact .of_owned ht .apertureRead
  | apertureWrite notice w be d =>
    simp only [exec, execApertureWrite] at ht
    split at ht
    · cases ht
    · exact .of_owned ht .apertureWrite
  | join hi => exact .of_join ht
  | leave hi => exact .of_leave ht
  | restart hi => exact .of_cycle ht fun _ p => .command .restart _ p
  | noticePop hi => exact .of_noticePop ht
  | clearFault hi => exact .of_owned ht fun _ => .clearFault
  | clearCounters hi => exact .of_owned ht fun _ => .clearCounters
  | unknownCommand be d =>
    simp only [exec, execUnknownCommand] at ht
    split at ht
    · cases ht
    · exact .of_owned ht fun _ => .status
  | eventFlagsWrite be d => exact .of_owned ht fun _ => .clearEvents
  | eventEnableWrite be d => exact .of_owned ht fun _ => .storeEnables
  | apertureBaseWrite be d => exact .of_cycle ht fun _ p => .port p
  | configWrite w be d => exact .of_config ht .storeConfig
  | bitDivWrite be d => exact .of_config ht .storeBitDiv
  | tickDivWrite be d => exact .of_config ht .storeTickDiv
  | peerViewFirstWordRead a be =>
    simp only [exec, execPeerViewFirstWordRead] at ht
    split at ht
    · exact .of_owned ht fun _ => .readEffect
    · cases ht
  | registerWriteFault a be =>
    simp only [exec, execRegisterWriteFault] at ht
    split at ht
    · exact .of_cycle ht fun _ => .port
    · cases ht
  | unclaimedAccess dir a be =>
    simp only [exec, execUnclaimedAccess] at ht
    split at ht
    · exact .of_cycle ht fun _ => .port
    · cases ht
  | bothStrobesCycle a be => exact .of_cycle ht fun _ => .port
  | noByteEnableCycle dir a =>
    simp only [exec, execNoByteEnableCycle] at ht
    split at ht
    · exact .of_cycle ht fun _ => .port
    · cases ht
  | cycleDuringClear dir a be =>
    simp only [exec, execCycleDuringClear] at ht
    split at ht
    · exact .of_cycle ht fun _ => .port
    · exact .same ht
  | idleFound => exact .of_stationEvent (show execIdleFound s = .next t from ht) fun ha => .idleFound (by simpa using ha)
  | startBitConfirmed => exact .of_lineEvent (show execStartBitConfirmed s = .next t from ht) fun hu ha => .startBitConfirmed hu (by simpa using ha)
  | ownFrameEnd =>
    refine .of_stationEvent (show execOwnFrameEnd s = .next t from ht) fun ha => ?_
    simp only [Bool.and_eq_true, beq_iff_eq, Option.isNone_iff_eq_none] at ha
    exact .ownFrameEnd ha.1.1 ha.1.2 ha.2
  | tick =>
    simp only [exec, execTick] at ht
    split at ht
    next hd =>
      simp only [Bool.and_eq_true, Bool.not_eq_true'] at hd
      exact Host.Outcome.next.inj ht ▸ .tick hd.2
    · exact .same ht

/-- A step takes the front command, or lets a bit time of the line pass. -/
theorem step_does (ht : step s = .next t) :
    s.pending = [] ∧ t = idleStep s ∨ ∃ c rest, s.pending = c :: rest ∧ Does c (s.setPending rest) t := by
  unfold step at ht
  split at ht
  next hp => exact .inl ⟨hp, (Host.Outcome.next.inj ht).symm⟩
  next c rest hp => exact .inr ⟨c, rest, hp, exec_does ht⟩

end Sys2Proof.Machine


/-! ## What the agents leave of the selector and of the event unit

The frames of Laws/Agents.lean say what the agents' operations leave of the other blocks. Of the selector they change the ready list
alone, and of the event unit they only add: a fault handed on keeps a valid record, flags are set and counters rise (R166, R168,
R170). -/

namespace Sys2Proof.Machine

/-! ### The event unit only adds -/

/-- Nothing that the event unit of `a` holds is lost in `b`. -/
structure EvKept (a b : EventUnit) : Prop where
  fault : ∀ r, a.fault = some r → b.fault = some r ∨ b.fault = some { r with overflow := true }
  flags : flagsOf b.flags = flagsOf b.flags ||| flagsOf a.flags
  counters : ∀ k, (counterOf a.counters k).toNat ≤ (counterOf b.counters k).toNat

theorem EvKept.refl (a : EventUnit) : EvKept a a := ⟨fun _ h => .inl h, BitVec.or_self.symm, fun _ => le_rfl⟩

theorem EvKept.of_eq {a b : EventUnit} (h : b = a) : EvKept a b := h ▸ .refl a

theorem EvKept.trans {a b c : EventUnit} (h : EvKept a b) (h' : EvKept b c) : EvKept a c where
  fault r hr := by
    obtain hb | hb := h.fault r hr <;> obtain hc | hc := h'.fault _ hb
    · exact .inl hc
    · exact .inr hc
    · exact .inr hc
    · exact .inr hc
  flags := by
    calc flagsOf c.flags = flagsOf c.flags ||| (flagsOf b.flags ||| flagsOf a.flags) := by rw [← h.flags, ← h'.flags]
      _ = flagsOf c.flags ||| flagsOf a.flags := by rw [← BitVec.or_assoc, ← h'.flags]
  counters k := (h.counters k).trans (h'.counters k)

theorem append_ofBool_or {n : Nat} (x y : BitVec n) (a b : Bool) :
    (x ++ BitVec.ofBool a) ||| (y ++ BitVec.ofBool b) = (x ||| y) ++ BitVec.ofBool (a || b) :=
  BitVec.or_append.trans (by rw [BitVec.ofBool_or_ofBool])

theorem flagsOf_or (f g : EventFlags) :
    flagsOf f ||| flagsOf g =
      flagsOf
        { peer := f.peer || g.peer, directory := f.directory || g.directory, conflict := f.conflict || g.conflict
          eclipse := f.eclipse || g.eclipse, span := f.span || g.span, discard := f.discard || g.discard
          overrun := f.overrun || g.overrun } := by
  unfold flagsOf
  iterate 6 refine (append_ofBool_or _ _ _ _).trans (congrArg (· ++ BitVec.ofBool _) ?_)
  exact BitVec.ofBool_or_ofBool

theorem flagsOf_setFlag (f : EventFlags) (x : EventFlag) :
    flagsOf (setFlag f x) = flagsOf (setFlag f x) ||| flagsOf f := by
  rw [flagsOf_or]
  cases x <;> simp [setFlag]

theorem le_satAdd (c : Word) (n : Nat) : c.toNat ≤ (satAdd c n).toNat := by
  have := c.isLt
  simp only [satAdd, BitVec.toNat_ofNat]
  omega

theorem counterOf_addCounter (c : Counters) (k j : Counter) (n : Nat) :
    counterOf (addCounter c k n) j = if j = k then satAdd (counterOf c j) n else counterOf c j := by
  cases k <;> cases j <;> rfl

variable {s t u : State}

theorem EvKept.raise (f : EventFlag) (s : State) : EvKept s.ev (raise f s).ev where
  fault _ h := .inl h
  flags := flagsOf_setFlag s.ev.flags f
  counters _ := le_rfl

theorem EvKept.handOn (r : FaultReport) (s : State) : EvKept s.ev (handOn r s).ev where
  fault old h := .inr (by simp [Machine.handOn, recordFault, h])
  flags := BitVec.or_self.symm
  counters _ := le_rfl

theorem EvKept.count (k : Counter) (n : Nat) (s : State) : EvKept s.ev (count k n s).ev where
  fault _ h := .inl h
  flags := BitVec.or_self.symm
  counters j := by
    simp only [Machine.count, State.setEv_ev, counterOf_addCounter]
    split
    · exact le_satAdd _ n
    · exact le_rfl

/-! ### Operations of the agents -/

/-- Of the selector and the event unit, only the ready list is changed, and something may be added. -/
structure AgentStep (s t : State) : Prop where
  sel : t.sel = { s.sel with ready := t.sel.ready }
  ev : EvKept s.ev t.ev

theorem AgentStep.refl (s : State) : AgentStep s s := ⟨rfl, .refl _⟩

theorem AgentStep.of_same (h : t.sel = s.sel ∧ t.ev = s.ev) : AgentStep s t := ⟨by rw [h.1], .of_eq h.2⟩

theorem AgentStep.trans (h : AgentStep s t) (h' : AgentStep t u) : AgentStep s u :=
  ⟨by rw [h'.sel, h.sel], h.ev.trans h'.ev⟩

theorem AgentStep.foldl {α : Type} {f : State → α → State} (h : ∀ s a, AgentStep s (f s a)) :
    ∀ (l : List α) (s : State), AgentStep s (l.foldl f s)
  | [], s => .refl s
  | a :: l, s => (h s a).trans (AgentStep.foldl h l (f s a))

theorem AgentStep.handOn (r : FaultReport) (s : State) : AgentStep s (handOn r s) := ⟨by simp, .handOn r s⟩

theorem AgentStep.count (k : Counter) (n : Nat) (s : State) : AgentStep s (count k n s) := ⟨by simp, .count k n s⟩

theorem AgentStep.setReads (x : ReadAgent) (s : State) : AgentStep s (s.setReads x) := .of_same (by simp)

theorem AgentStep.setRead (i : ReadIndex) (e : ReadEntry) (s : State) : AgentStep s (setRead i e s) := .of_same (by simp)

theorem AgentStep.setQueue (q : List PostedWrite) (s : State) : AgentStep s (setQueue q s) :=
  .of_same (by simp [Machine.setQueue])

theorem AgentStep.setHead (w : PostedWrite) (s : State) : AgentStep s (setHead w s) := .setQueue _ s

theorem AgentStep.appendReady (x : ReadyItem) (s : State) : AgentStep s (appendReady x s) := ⟨rfl, .refl _⟩

theorem AgentStep.unreadyRead (i : ReadIndex) (s : State) : AgentStep s (unreadyRead i s) := ⟨rfl, .refl _⟩

theorem AgentStep.unreadyWrite (s : State) : AgentStep s (unreadyWrite s) := ⟨rfl, .refl _⟩

theorem AgentStep.unreadyItem (x : ReadyItem) (s : State) : AgentStep s (unreadyItem x s) := ⟨rfl, .refl _⟩

/-! #### The read agent -/

theorem AgentStep.freeRead (i : ReadIndex) (s : State) : AgentStep s (freeRead i s) :=
  (AgentStep.unreadyRead i s).trans (.setReads _ _)

theorem AgentStep.makeReady (i : ReadIndex) (s : State) : AgentStep s (makeReady i s) :=
  (AgentStep.setRead i _ s).trans (.appendReady _ _)

theorem AgentStep.completeRead (i : ReadIndex) (o : ReadOutcome) (data : List Byte) (s : State) :
    AgentStep s (completeRead i o data s) := by
  unfold Machine.completeRead
  split
  · exact .freeRead i s
  · exact (AgentStep.unreadyRead i s).trans (.setRead i _ _)

theorem AgentStep.failRead (r : FaultReason) (s : State) (i : ReadIndex) : AgentStep s (failRead r s i) := by
  unfold Machine.failRead
  split
  · exact .freeRead i s
  · exact (AgentStep.completeRead i (.fault r) [] s).trans (.handOn _ _)

theorem AgentStep.releaseBarriers (s : State) : AgentStep s (releaseBarriers s) := by
  refine AgentStep.foldl (fun s i => ?_) s.reads.order s
  unfold releaseRead
  split
  · exact .makeReady i s
  · exact .refl s

theorem AgentStep.recountAhead (f : Nat → Nat) (s : State) : AgentStep s (recountAhead f s) := .setReads _ s

theorem AgentStep.takeReadRsp (n : Station) (tag : Byte) (data : List Byte) (s : State) :
    AgentStep s (takeReadRsp n tag data s) := by
  unfold Machine.takeReadRsp
  split
  · exact .completeRead _ _ _ s
  · exact .count _ _ s

theorem AgentStep.takeReadNack (n : Station) (tag : Byte) (r : NackReason) (s : State) :
    AgentStep s (takeReadNack n tag r s) := by
  unfold Machine.takeReadNack
  split
  · exact .failRead _ s _
  · exact .count _ _ s

theorem AgentStep.readSent (i : ReadIndex) (inc : Incarnation) (s : State) : AgentStep s (readSent i inc s) := by
  simp only [Machine.readSent]
  split
  · exact .setRead i _ s
  · exact .refl s

theorem AgentStep.overtake (a n : Nat) (s : State) : AgentStep s (overtake a n s) := by
  refine AgentStep.foldl (fun s i => ?_) allReadIndexes s
  simp only [overtakeRead]
  split
  · split
    · exact .setRead i _ s
    · exact .freeRead i s
  · exact .refl s

theorem AgentStep.refuseAccess (op : FaultOp) (r : FaultReason) (a : GlobalAddr) (n : Station) (s : State) :
    AgentStep s (refuseAccess op r a n s).next := .handOn _ s

theorem AgentStep.allocateRead (i : ReadIndex) (n : Station) (a : GlobalAddr) (len : Nat) (p : Bool) (s : State) :
    AgentStep s (allocateRead i n a len p s) := by
  simp only [Machine.allocateRead]
  split
  · exact (AgentStep.freeRead i s).trans ((AgentStep.setReads _ _).trans (.appendReady _ _))
  · exact (AgentStep.freeRead i s).trans (.setReads _ _)

theorem AgentStep.allocate (n : Station) (a : GlobalAddr) (len : Nat) (p : Bool) (s : State) :
    AgentStep s (allocate n a len p s).next := by
  simp only [Machine.allocate]
  split
  · split
    · exact (AgentStep.foldl (fun s i => .freeRead i s) _ s).trans (.allocateRead _ _ _ _ _ _)
    · exact .count _ _ s
  · exact .count _ _ s

theorem AgentStep.apertureReadTaken (a : GlobalAddr) (be : Enables) (s : State) :
    AgentStep s (apertureReadTaken a be s).next := by
  unfold Machine.apertureReadTaken
  split
  · split
    · simp only [deliver]
      split
      · split
        · exact .setRead _ _ s
        · exact .freeRead _ s
      · exact .freeRead _ s
    · exact .refl s
  · unfold newRead
    split
    · exact .refuseAccess _ _ _ _ s
    split
    · exact .refuseAccess _ _ _ _ s
    split
    · exact .refl s
    split
    · exact .allocate _ _ _ _ s
    · exact .refuseAccess _ _ _ _ s

/-! #### The write agent -/

theorem AgentStep.popHead (s : State) : AgentStep s (popHead s) :=
  (AgentStep.unreadyWrite s).trans ((AgentStep.setQueue _ _).trans (.recountAhead _ _))

theorem AgentStep.dropHead (w : PostedWrite) (r : FaultReason) (s : State) : AgentStep s (dropHead w r s) :=
  (AgentStep.popHead s).trans ((AgentStep.count _ _ _).trans (.handOn _ _))

theorem AgentStep.judgeHeads : ∀ (l : List PostedWrite) (s : State), AgentStep s (judgeHeads l s)
  | [], s => .refl s
  | w :: rest, s => by
    unfold Machine.judgeHeads
    split
    · exact .appendReady _ s
    · exact (AgentStep.dropHead w .unreachable s).trans (AgentStep.judgeHeads rest _)

theorem AgentStep.headGone (s : State) : AgentStep s (headGone s) :=
  (AgentStep.judgeHeads _ s).trans (.releaseBarriers _)

theorem AgentStep.readyHead (w : PostedWrite) (s : State) : AgentStep s (readyHead w s) :=
  (AgentStep.setHead _ s).trans (.appendReady _ _)

theorem AgentStep.holdHead (w : PostedWrite) (s : State) : AgentStep s (holdHead w s) :=
  (AgentStep.unreadyWrite s).trans (.setHead _ _)

theorem AgentStep.writeSent (k : Word) (s : State) : AgentStep s (writeSent k s) := by
  unfold Machine.writeSent
  split
  · exact .refl s
  · split
    · exact .setHead _ s
    · exact .refl s

theorem AgentStep.takeWriteAck (n : Station) (tag : Byte) (s : State) : AgentStep s (takeWriteAck n tag s) := by
  unfold Machine.takeWriteAck
  split
  · exact .count _ _ s
  · split
    · exact (AgentStep.popHead s).trans (.headGone _)
    · exact .count _ _ s

theorem AgentStep.takeWriteNack (n : Station) (tag : Byte) (r : NackReason) (s : State) :
    AgentStep s (takeWriteNack n tag r s) := by
  unfold Machine.takeWriteNack
  split
  · exact .count _ _ s
  · split
    · split
      · exact .holdHead _ s
      · exact (AgentStep.dropHead _ _ s).trans (.headGone _)
    · exact .count _ _ s

theorem AgentStep.removeWrites (gone : PostedWrite → Bool) (s : State) : AgentStep s (removeWrites gone s) := by
  simp only [Machine.removeWrites]
  split
  · exact (AgentStep.unreadyWrite s).trans ((AgentStep.setQueue _ _).trans (.recountAhead _ _))
  · exact (AgentStep.setQueue _ _).trans (.recountAhead _ _)

theorem AgentStep.purgeWrites (gone : PostedWrite → Bool) (r : FaultReason) (s : State) :
    AgentStep s (purgeWrites gone r s) := by
  unfold Machine.purgeWrites
  split
  · exact .refl s
  · have hpurged (w : PostedWrite) (n : Nat) :
        AgentStep s (Machine.handOn (writeFault w r) (Machine.count .writeLoss n (Machine.removeWrites gone s))) :=
      (AgentStep.removeWrites gone s).trans ((AgentStep.count _ _ _).trans (.handOn _ _))
    simp only
    split
    · exact (hpurged _ _).trans (.headGone _)
    · exact (hpurged _ _).trans (.releaseBarriers _)

theorem AgentStep.enqueueWrite (n : Station) (a : GlobalAddr) (data : List Byte) (x : Bool) (s : State) :
    AgentStep s (enqueueWrite n a data x s) := .of_same (by simp)

theorem AgentStep.admitWrite (n : Station) (a : GlobalAddr) (data : List Byte) (x : Bool) (s : State) :
    AgentStep s (admitWrite n a data x s) := by
  simp only [Machine.admitWrite]
  split
  · exact (AgentStep.enqueueWrite n a data x s).trans ((AgentStep.overtake _ _ _).trans (.appendReady _ _))
  · exact (AgentStep.enqueueWrite n a data x s).trans (.overtake _ _ _)

theorem AgentStep.loopbackWrite (e : DirEntry) (n : RegionIndex) (a : GlobalAddr) (data : List Byte) (x : Bool) (s : State) :
    AgentStep s (loopbackWrite e n a data x s).next := by
  unfold Machine.loopbackWrite
  split
  · exact .refuseAccess _ _ _ _ s
  split
  · exact .refuseAccess _ _ _ _ s
  · simp only [answerOnly]
    split
    · exact (AgentStep.of_same (by simp)).trans (.overtake _ _ _)
    · exact (AgentStep.of_same (by simp)).trans (.overtake _ _ _)

theorem AgentStep.apertureWriteTaken (a : GlobalAddr) (data : List Byte) (x : Bool) (s : State) :
    AgentStep s (apertureWriteTaken a data x s).next := by
  unfold Machine.apertureWriteTaken
  split
  · exact .refuseAccess _ _ _ _ s
  split
  · exact .refuseAccess _ _ _ _ s
  split
  · exact .loopbackWrite _ _ _ _ _ s
  split
  · exact .refuseAccess _ _ _ _ s
  split
  · split
    · exact .refl s
    · exact .admitWrite _ _ _ _ s
  · exact .refuseAccess _ _ _ _ s

/-! #### The two agents together -/

theorem AgentStep.purgeReads (n : Station) (k : Nat) (s : State) : AgentStep s (purgeReads n k s) :=
  .foldl (fun s i => .failRead _ s i) _ s

theorem AgentStep.drainReads (s : State) : AgentStep s (drainReads s) := .foldl (fun s i => .failRead _ s i) _ s

theorem AgentStep.agentsLose (n : Station) (s : State) : AgentStep s (agentsLose n s) := by
  have hchoice : AgentStep s (s.setChoice (s.choice + 1)) := .of_same (by simp)
  simp only [Machine.agentsLose]
  split
  · exact hchoice.trans ((AgentStep.purgeReads _ _ _).trans (.purgeWrites _ _ _))
  · exact hchoice.trans ((AgentStep.purgeWrites _ _ _).trans (.purgeReads _ _ _))

theorem AgentStep.drainAgents (s : State) : AgentStep s (drainAgents s) := by
  have hchoice : AgentStep s (s.setChoice (s.choice + 1)) := .of_same (by simp)
  simp only [Machine.drainAgents]
  split
  · exact hchoice.trans ((AgentStep.drainReads _).trans (.purgeWrites _ _ _))
  · exact hchoice.trans ((AgentStep.purgeWrites _ _ _).trans (.drainReads _))

/-! ### The other blocks, for the operations of a host cycle -/

theorem apertureReadTaken_frame (a : GlobalAddr) (be : Enables) (s : State) :
    (apertureReadTaken a be s).next.iface = s.iface ∧ (apertureReadTaken a be s).next.dir = s.dir ∧
    (apertureReadTaken a be s).next.peers = s.peers ∧ (apertureReadTaken a be s).next.writes = s.writes ∧
    (apertureReadTaken a be s).next.resp = s.resp ∧ (apertureReadTaken a be s).next.ram = s.ram ∧
    (apertureReadTaken a be s).next.ctl = s.ctl := by
  have hallocate (n : Station) (start : GlobalAddr) (len : Nat) (p : Bool) :
      (allocate n start len p s).next.iface = s.iface ∧ (allocate n start len p s).next.resp = s.resp ∧
      (allocate n start len p s).next.ram = s.ram := by
    have hcleared := foldl_keeps (fun u i => freeRead i u) (fun t => (t.iface, t.resp, t.ram)) (by simp)
      (allReadIndexes.filter (readOverlaps start.toNat len s)) s
    simp only [Prod.mk.injEq] at hcleared
    simp only [allocate]
    split
    · split
      · simpa [answerOnly] using hcleared
      · simp [tableFull, answerOnly]
    · simp [tableFull, answerOnly]
  unfold apertureReadTaken newRead
  repeat' split
  · simp only [deliver]
    repeat' split
    all_goals simp
  · simp [answerOnly]
  · simp [refuseAccess, answerOnly]
  · simp [refuseAccess, answerOnly]
  · simp [answerOnly]
  next e _ _ _ _ =>
    obtain ⟨hd, hp, hc, hw⟩ := allocate_frame e.owner (fetchStart e.prefetch a) (fetchLength e.prefetch (accessWidth be)) e.prefetch s
    obtain ⟨hi, hr, hm⟩ := hallocate e.owner (fetchStart e.prefetch a) (fetchLength e.prefetch (accessWidth be)) e.prefetch
    exact ⟨hi, hd, hp, hw, hr, hm, hc⟩
  · simp [refuseAccess, answerOnly]

theorem apertureWriteTaken_frame (a : GlobalAddr) (data : List Byte) (x : Bool) (s : State) :
    (apertureWriteTaken a data x s).next.iface = s.iface ∧ (apertureWriteTaken a data x s).next.dir = s.dir ∧
    (apertureWriteTaken a data x s).next.resp.responses = s.resp.responses ∧
    (apertureWriteTaken a data x s).next.resp.appended = s.resp.appended ∧
    (apertureWriteTaken a data x s).next.ctl = s.ctl := by
  unfold apertureWriteTaken
  repeat' split
  any_goals simp [refuseAccess, answerOnly]
  unfold loopbackWrite
  repeat' split
  all_goals simp [refuseAccess, answerOnly, appendNotice]
end Sys2Proof.Machine


/-! ## The span states (R133, R147)

`SpanKept` holds what each span state leaves empty, but for the statuses and the configuration, which `TablesKept` has. Outside ONLINE
and LEAVING the agents hold no request, and each of their operations then changes nothing but a counter or a fault. -/

namespace Sys2Proof.Machine

variable {s t u : State}

/-! ### Agents with no request -/

theorem requestsEmpty.of_same (h : requestsEmpty s)
    (ht : t.writes.queue = s.writes.queue ∧ t.reads = s.reads ∧ t.sel.ready = s.sel.ready) : requestsEmpty t := by
  obtain ⟨hq, hr, hl⟩ := ht
  rwa [requestsEmpty, hq, hr, hl]

theorem requestsEmpty.readAt_state (h : requestsEmpty s) (i : ReadIndex) : (readAt i s).state = .free := by
  obtain ⟨-, -, -, hfree⟩ := h
  unfold readAt
  rw [List.getD_eq_getElem?_getD]
  cases hk : s.reads.entries[i.toNat]? with
  | none => rfl
  | some e =>
    rw [Option.getD_some, hfree e (List.mem_of_getElem? hk)]
    rfl

theorem requestsEmpty.awaitsAnswer (h : requestsEmpty s) (n : Station) (tag : Byte) : awaitsAnswer n tag s = false := by
  simp [Machine.awaitsAnswer, h.readAt_state]

theorem requestsEmpty.takeReadRsp (h : requestsEmpty s) (n : Station) (tag : Byte) (data : List Byte) :
    takeReadRsp n tag data s = count .stale 1 s := by
  simp [Machine.takeReadRsp, h.awaitsAnswer]

theorem requestsEmpty.takeReadNack (h : requestsEmpty s) (n : Station) (tag : Byte) (r : NackReason) :
    takeReadNack n tag r s = count .stale 1 s := by
  simp [Machine.takeReadNack, h.awaitsAnswer]

theorem takeWriteAck_of_nil (h : s.writes.queue = []) (n : Station) (tag : Byte) :
    takeWriteAck n tag s = count .stale 1 s := by
  simp [takeWriteAck, h]

theorem takeWriteNack_of_nil (h : s.writes.queue = []) (n : Station) (tag : Byte) (r : NackReason) :
    takeWriteNack n tag r s = count .stale 1 s := by
  simp [takeWriteNack, h]

/-- The loss of a peer takes nothing from agents that hold no request. -/
theorem requestsEmpty.agentsLose (h : requestsEmpty s) (n : Station) : agentsLose n s = s.setChoice (s.choice + 1) := by
  obtain ⟨hq, ho, -, -⟩ := h
  simp [Machine.agentsLose, purgeWrites, purgeReads, fetchingReads, leadWith, hq, ho]

theorem requestsEmpty.matchingRead (h : requestsEmpty s) (a : GlobalAddr) (n : Nat) : matchingRead a n s = none :=
  matchingRead_of_none fun i => by simp [readMatches, live, h.readAt_state]

/-! ### The invariant -/

structure SpanKept (s : State) : Prop where
  stop : stopCauseRight s
  requests : s.ctl.span ≠ .online → s.ctl.span ≠ .leaving → requestsEmpty s
  quiet : onSpan s.ctl.span = false → s.resp.responses = [] ∧ s.sel = Selector.reset
  emptied : hearing s.ctl.span = false →
    s.dir.entries = [] ∧ s.ctl.listenTimer = none ∧ s.ctl.drainTimer = none ∧ ∀ r ∈ s.peers, r = lostRecord r

theorem WellKept.spanKept (h : WellKept s) : SpanKept s := by
  obtain ⟨hrequests, hstation, hlistening⟩ := h.empty
  refine ⟨h.stopCause, hrequests, fun hx => ?_, fun hx => ?_⟩
  · cases hspan : s.ctl.span <;> simp only [hspan, onSpan, Bool.true_eq_false] at hx
    case listening =>
      obtain ⟨hresp, hsel, -, -⟩ := hlistening hspan
      exact ⟨hresp, hsel⟩
    all_goals
      obtain ⟨-, -, hresp, hsel, -⟩ := hstation (by simp [hspan, hearing])
      exact ⟨hresp, hsel⟩
  · obtain ⟨hentries, -, -, -, hlisten, hdrain, hpeers⟩ := hstation hx
    exact ⟨hentries, hlisten, hdrain, hpeers⟩

/-- Off the span every own region has the status that its enable field gives. -/
theorem DirectoryKept.statuses_at_rest {c : ConfigRecord} {ok : Station → Prop} (h : DirectoryKept c ok s)
    (hx : onSpan s.ctl.span = false) : s.dir.statuses = restStatuses s.ctl.config := by
  have hstatus (n : RegionIndex) : statusOf n s = restStatus (regionOf c n) := by
    have hout := mt (h.published n) (by simp [hx])
    have hd := h.disabled n
    unfold restStatus
    cases hs : statusOf n s <;> simp_all
  have hlist : s.dir.statuses = allRegionIndexes.map (fun n => statusOf n s) := by
    have hlen := h.sized
    match hst : s.dir.statuses, hlen with
    | [a, b, c, d], _ => simp [allRegionIndexes, statusOf, hst]
  rw [hlist, h.config]
  simp only [hstatus, restStatuses]

theorem SpanKept.statement {c : ConfigRecord} (h : SpanKept s) (ht : TablesKept c s) :
    configJudged s ∧ stopCauseRight s ∧ emptyWhereItMust s := by
  have hrest := ht.dir.statuses_at_rest
  refine ⟨fun hx => ht.dir.config ▸ ht.dir.judged hx, h.stop, h.requests, fun hx => ?_, fun hx => ?_⟩
  · have hoff : onSpan s.ctl.span = false := by revert hx; cases s.ctl.span <;> simp [hearing, onSpan]
    obtain ⟨hresp, hsel⟩ := h.quiet hoff
    obtain ⟨hentries, hlisten, hdrain, hpeers⟩ := h.emptied hx
    exact ⟨hentries, hrest hoff, hresp, hsel, hlisten, hdrain, hpeers⟩
  · have hoff : onSpan s.ctl.span = false := by rw [hx]; rfl
    obtain ⟨hresp, hsel⟩ := h.quiet hoff
    refine ⟨hresp, hsel, hrest hoff, fun e he => ?_⟩
    cases hown : e.own with
    | none => rfl
    | some n =>
      have hpub := ht.dir.published n (.inl ((ht.dir.entered n).mpr ⟨e, he, hown⟩))
      rw [hoff] at hpub
      cases hpub

/-! ### States that differ elsewhere -/

theorem SpanKept.of_same (h : SpanKept s)
    (ht : t.ctl.span = s.ctl.span ∧ t.ctl.stopCause = s.ctl.stopCause ∧ t.ctl.listenTimer = s.ctl.listenTimer ∧
      t.ctl.drainTimer = s.ctl.drainTimer ∧ t.writes.queue = s.writes.queue ∧ t.reads = s.reads ∧ t.sel = s.sel ∧
      t.dir.entries = s.dir.entries ∧ t.resp.responses = s.resp.responses ∧ t.peers = s.peers) : SpanKept t := by
  obtain ⟨hspan, hstop, hlisten, hdrain, hq, hr, hl, hd, hresp, hp⟩ := ht
  refine ⟨?_, fun h1 h2 => ?_, fun hx => ?_, fun hx => ?_⟩
  · rw [stopCauseRight, hstop, hspan]
    exact h.stop
  · rw [hspan] at h1 h2
    exact (h.requests h1 h2).of_same ⟨hq, hr, by rw [hl]⟩
  · rw [hresp, hl]
    exact h.quiet (hspan ▸ hx)
  · rw [hd, hlisten, hdrain, hp]
    exact h.emptied (hspan ▸ hx)

/-- ONLINE and LEAVING leave nothing empty. -/
theorem SpanKept.of_busy (hx : t.ctl.span = .online ∨ t.ctl.span = .leaving) (hs : t.ctl.stopCause = none) : SpanKept t := by
  refine ⟨?_, fun h1 h2 => (hx.elim h1 h2).elim, fun h => ?_, fun h => ?_⟩
  · obtain hx | hx := hx <;> simp [stopCauseRight, hs, hx]
  · obtain hx | hx := hx <;> simp [hx, onSpan] at h
  · obtain hx | hx := hx <;> simp [hx, hearing] at h

theorem SpanKept.stopCause_eq_none (h : SpanKept s) (hx : s.ctl.span ≠ .stopped) : s.ctl.stopCause = none := by
  have := mt h.stop.mp hx
  simpa using this

/-- An operation that leaves station control as it is: in ONLINE and LEAVING it may do anything else, and in the other span states it
is met with no request held. -/
theorem SpanKept.of_idle (h : SpanKept s) (hc : t.ctl = s.ctl) (hidle : requestsEmpty s → SpanKept t) : SpanKept t := by
  by_cases hx : s.ctl.span = .online ∨ s.ctl.span = .leaving
  · exact .of_busy (hc ▸ hx) (hc ▸ h.stopCause_eq_none (by obtain hx | hx := hx <;> simp [hx]))
  · obtain ⟨h1, h2⟩ := not_or.mp hx
    exact hidle (h.requests h1 h2)

/-- While peers are heard, and off the span no answer is given and no mark set: what is left to show is that no request comes in. -/
theorem SpanKept.of_hearing (h : SpanKept s) (hc : t.ctl = s.ctl) (hx : hearing s.ctl.span = true)
    (hr : requestsEmpty s → requestsEmpty t)
    (hq : onSpan s.ctl.span = false → s.resp.responses = [] → t.resp.responses = [] ∧ t.sel = s.sel) : SpanKept t := by
  refine ⟨?_, fun h1 h2 => ?_, fun ho => ?_, fun hh => ?_⟩
  · rw [stopCauseRight, hc]
    exact h.stop
  · rw [hc] at h1 h2
    exact hr (h.requests h1 h2)
  · rw [hc] at ho
    obtain ⟨hresp, hsel⟩ := h.quiet ho
    obtain ⟨hresp', hsel'⟩ := hq ho hresp
    exact ⟨hresp', hsel'.trans hsel⟩
  · rw [hc, hx] at hh
    cases hh

theorem SpanKept.hearing_of_heard (h : SpanKept s) {n : Station} (hn : heard s n) : hearing s.ctl.span = true := by
  by_contra hx
  obtain ⟨-, -, -, hpeers⟩ := h.emptied (by simpa using hx)
  refine hn ?_
  unfold peerOf
  split
  · rw [List.getD_eq_getElem?_getD]
    cases hk : s.peers[n.toNat - 1]? with
    | none => rfl
    | some r =>
      rw [Option.getD_some, hpeers r (List.mem_of_getElem? hk)]
      rfl
  · rfl

/-! ### Peer records and the directory -/

theorem SpanKept.setPeer (h : SpanKept s) (hx : hearing s.ctl.span = true) (n : Station) (r : PeerRecord) :
    SpanKept (setPeer n r s) :=
  h.of_hearing (by simp) hx (fun hr => hr.of_same (by simp)) (fun _ hresp => by simp [hresp])

theorem SpanKept.hear (h : SpanKept s) (n : Station) : SpanKept (hear n s) := by
  unfold Machine.hear
  split
  next hx => exact h.setPeer hx _ _
  · exact h

theorem SpanKept.markSilent (h : SpanKept s) (n : Station) : SpanKept (markSilent n s) := by
  unfold Machine.markSilent
  split
  next hp => exact h.setPeer (h.hearing_of_heard (n := n) (by simp [heard, hp])) _ _
  · exact h

theorem requestAnnounce_ready (s : State) : (requestAnnounce s).sel.ready = s.sel.ready := by
  unfold requestAnnounce
  split <;> rfl

theorem returnRegion_sel (s : State) (n : RegionIndex) : (returnRegion s n).sel = s.sel := by
  unfold returnRegion
  split <;> simp

/-- The return rule asks for an ANNOUNCE in ONLINE alone, and touches no other part of the selector. -/
theorem returnRule_sel (s : State) :
    (returnRule s).sel.ready = s.sel.ready ∧ (s.ctl.span ≠ .online → (returnRule s).sel = s.sel) := by
  unfold returnRule
  split
  · have hsel : (allRegionIndexes.foldl returnRegion s).sel = s.sel :=
      foldl_keeps returnRegion (·.sel) returnRegion_sel allRegionIndexes s
    have hctl : (allRegionIndexes.foldl returnRegion s).ctl = s.ctl :=
      foldl_keeps returnRegion (·.ctl) (fun u n => by simp) allRegionIndexes s
    unfold requestIfReturned
    split
    next hx =>
      simp only [Bool.and_eq_true, decide_eq_true_eq, hctl] at hx
      exact ⟨(requestAnnounce_ready _).trans (by rw [hsel]), fun hne => absurd hx.1 hne⟩
    · exact ⟨by rw [hsel], fun _ => hsel⟩
  · exact ⟨rfl, fun _ => rfl⟩

theorem takeRegions_sel (n : Station) (gs : List RegionGroup) (s : State) :
    (takeRegions n gs s).sel.ready = s.sel.ready ∧ (s.ctl.span ≠ .online → (takeRegions n gs s).sel = s.sel) := by
  unfold takeRegions
  split
  · obtain ⟨hready, hsel⟩ := returnRule_sel (placeListed n gs [] (removeOwner n s))
    exact ⟨hready.trans (by simp), fun hx => (hsel (by simpa using hx)).trans (by simp)⟩
  · exact ⟨rfl, fun _ => rfl⟩

theorem SpanKept.takeAnnounce (h : SpanKept s) (f : Frame) (interval : Byte) (gs : List RegionGroup) :
    SpanKept (takeAnnounce f interval gs s) := by
  by_cases hx : hearing s.ctl.span = true
  · have hregions (u : State) (hu : SpanKept u) (hxu : hearing u.ctl.span = true) :
        SpanKept (Machine.takeRegions f.src gs u) := by
      obtain ⟨hready, hsel⟩ := takeRegions_sel f.src gs u
      refine hu.of_hearing (by simp) hxu (fun hr => hr.of_same (by simp [hready])) fun ho hresp => ?_
      exact ⟨by simpa using hresp, hsel (by rintro hon; simp [hon, onSpan] at ho)⟩
    have hasked (u : State) (hu : SpanKept u) :
        SpanKept (if f.fresh && decide (u.ctl.span = .online) then requestAnnounce u else u) := by
      split
      next hon =>
        simp only [Bool.and_eq_true, decide_eq_true_eq] at hon
        exact .of_busy (.inl (by simpa using hon.2)) (by simpa using hu.stopCause_eq_none (by simp [hon.2]))
      · exact hu
    have hinterval : SpanKept (Machine.takeInterval f.src interval s) := by
      rw [Machine.takeInterval, if_pos hx]
      exact h.setPeer hx _ _
    unfold Machine.takeAnnounce
    refine hasked _ (hregions _ ?_ ?_)
    · split
      · unfold Machine.takeFresh
        split
        next hx' => exact hinterval.setPeer hx' _ _
        · exact hinterval
      · exact hinterval
    · split <;> simpa using hx
  · have hno : s.ctl.span ≠ .online := by rintro ho; simp [ho, hearing] at hx
    simpa [Machine.takeAnnounce, Machine.takeInterval, Machine.takeFresh, Machine.takeRegions, hx, hno] using h

theorem SpanKept.losePeer (h : SpanKept s) (hx : hearing s.ctl.span = true) (n : Station) : SpanKept (losePeer n s) := by
  refine h.of_idle (by simp) fun hr => ?_
  have hset := h.setPeer hx n (lostRecord (peerOf n s))
  have hloses : SpanKept (Machine.directoryLoses n (Machine.setPeer n (lostRecord (peerOf n s)) s)) := by
    obtain ⟨hready, hsel⟩ := returnRule_sel (removeOwner n (Machine.setPeer n (lostRecord (peerOf n s)) s))
    refine hset.of_hearing (by simp) (by simpa using hx) (fun hr => hr.of_same (by simp [directoryLoses, hready])) ?_
    intro ho hresp
    exact ⟨by simpa using hresp, (hsel (by rintro hon; simp at hon; simp [hon, onSpan] at ho)).trans (by simp)⟩
  have hempty : requestsEmpty (Machine.directoryLoses n (Machine.setPeer n (lostRecord (peerOf n s)) s)) :=
    hr.of_same (by simp [directoryLoses, (returnRule_sel _).1])
  have hpurged (u : State) (hu : SpanKept u) (hxu : hearing u.ctl.span = true) : SpanKept (purgeResponses n u) :=
    hu.of_hearing (by simp) hxu (fun hr => hr.of_same (by simp)) fun _ hresp => by simp [purgeResponses, hresp]
  rw [Machine.losePeer, hempty.agentsLose]
  exact hpurged _ (hloses.of_same (by simp)) (by simpa using hx)

/-! ### Answers and requests of peers -/

theorem takeReadReq_of_off (h : onSpan s.ctl.span = false) (n : Station) (tag : Byte) (a : GlobalAddr) (len : Nat) :
    takeReadReq n tag a len s = s := by
  simp [takeReadReq, h]

theorem takeWrite_of_off (h : onSpan s.ctl.span = false) (n : Station) (tag : Byte) (a : GlobalAddr) (data : List Byte)
    (notice : Bool) : takeWrite n tag a data notice s = s := by
  simp [takeWrite, h]

theorem hearing_of_onSpan {x : SpanState} (h : onSpan x = true) : hearing x = true := by
  cases x <;> simp_all [onSpan, hearing]

/-- An operation on the span that leaves the agents and station control as they are. -/
theorem SpanKept.of_onSpan (h : SpanKept s) (hx : onSpan s.ctl.span = true)
    (ht : t.ctl = s.ctl ∧ t.writes.queue = s.writes.queue ∧ t.reads = s.reads ∧ t.sel.ready = s.sel.ready) : SpanKept t :=
  h.of_hearing ht.1 (hearing_of_onSpan hx) (fun hr => hr.of_same ht.2) fun ho => by simp [hx] at ho

theorem SpanKept.frameContent (h : SpanKept s) (f : Frame) : SpanKept (frameContent f s) := by
  have hstale (k : Counter) : SpanKept (count k 1 s) := h.of_same (by simp)
  unfold Machine.frameContent
  split
  · exact h.of_idle (by simp) fun hr => by rw [hr.takeReadRsp]; exact hstale _
  · exact h.of_idle (by simp) fun hr => by rw [takeWriteAck_of_nil hr.1]; exact hstale _
  · split
    · exact h.of_idle (by simp) fun hr => by rw [takeWriteNack_of_nil hr.1]; exact hstale _
    · exact h.of_idle (by simp) fun hr => by rw [hr.takeReadNack]; exact hstale _
  · by_cases hx : onSpan s.ctl.span = true
    · exact h.of_onSpan hx (by simp)
    · rw [takeReadReq_of_off (by simpa using hx)]
      exact h
  · by_cases hx : onSpan s.ctl.span = true
    · exact h.of_onSpan hx (by simp)
    · rw [takeWrite_of_off (by simpa using hx)]
      exact h
  · exact h
  · exact h.takeAnnounce f _ _
  · unfold takeLeave
    split
    next hx => exact h.losePeer hx _
    · exact h

/-! ### OFFLINE and STOPPED (R147) -/

theorem setSpan_ctl (x : SpanState) (s : State) : (setSpan x s).ctl = { s.ctl with span := x } := by
  unfold setSpan
  split
  next h => rw [← h]
  · rfl

/-- After the purge nothing is held that OFFLINE and STOPPED leave empty. -/
theorem SpanKept.purged (x : SpanState) (cause : Option StopCause) (hx : x = .offline ∨ x = .stopped)
    (hc : cause.isSome = true ↔ x = .stopped) (s : State) : SpanKept (setSpan x (setStopCause cause (purgeAll s))) := by
  have hoff : onSpan x = false := by obtain rfl | rfl := hx <;> rfl
  obtain ⟨hentries, -⟩ := purgeAll_dir s
  refine ⟨?_, fun _ _ => ?_, fun _ => ?_, fun _ => ?_⟩
  · simpa [stopCauseRight, setSpan_ctl, setStopCause] using hc
  · refine ⟨?_, ?_, ?_, ?_⟩ <;>
      simp [purgeAll, emptyWrites, setQueue, freeAllReads, clearSelector, Selector.reset, ReadEntry.free]
  · simp [purgeAll, emptyResponses, clearSelector]
  · refine ⟨by simpa using hentries, ?_, ?_, ?_⟩
    · simp [setSpan_ctl, setStopCause, purgeAll_ctl]
    · simp [setSpan_ctl, setStopCause, purgeAll_ctl]
    · simp [purgeAll, clearPeers, lostRecord]

theorem SpanKept.enterOffline (h : SpanKept s) : SpanKept (enterOffline s) := by
  unfold Machine.enterOffline
  split
  · exact h
  · exact .purged .offline none (.inl rfl) (by simp) _

theorem SpanKept.enterStopped (cause : StopCause) (s : State) : SpanKept (enterStopped cause s) :=
  .purged .stopped (some cause) (.inr rfl) (by simp) _

theorem SpanKept.frameArrives (h : SpanKept s) (bytes : List Byte) (f : Frame) : SpanKept (frameArrives bytes f s) := by
  have ht : SpanKept (frameTaken bytes s) := by
    refine h.of_same ?_
    unfold frameTaken
    split <;> simp
  simp only [Machine.frameArrives]
  split
  · exact ht
  split
  · split
    · exact ht
    · unfold takeClash
      split
      · exact .enterStopped .clash _
      · exact ht
  split
  · exact (ht.hear f.src).frameContent f
  · exact ht.hear f.src

/-! ### The end of an event -/

theorem markChanged_lost {a b : PeerRecord} (h : b = lostRecord b) : markChanged a b = lostRecord (markChanged a b) := by
  unfold markChanged
  split
  · exact h
  · rw [h]
    rfl

theorem mem_zipWith_markChanged {l m : List PeerRecord} (hm : ∀ r ∈ m, r = lostRecord r) :
    ∀ r ∈ List.zipWith markChanged l m, r = lostRecord r := by
  induction l generalizing m with
  | nil => simp
  | cons a l ih =>
    cases m with
    | nil => simp
    | cons b m =>
      intro r hr
      obtain rfl | hr := List.mem_cons.mp hr
      · exact markChanged_lost (hm b List.mem_cons_self)
      · exact ih (fun r hr => hm r (List.mem_cons_of_mem b hr)) r hr

theorem drainCheck_eq_self (h : s.ctl.span ≠ .leaving) : drainCheck s = s := by
  simp [drainCheck, h]

theorem eventEnd_span (b s : State) : (eventEnd b s).ctl.span = s.ctl.span := (eventEnd_kept b s).2.2.2.2.2.1

theorem eventEnd_stopCause (b s : State) : (eventEnd b s).ctl.stopCause = s.ctl.stopCause := by
  unfold eventEnd drainCheck directoryEventEnd peerEventEnd raise
  repeat' split
  all_goals simp

/-- Outside LEAVING the end of an event leaves station control and the selector as they are. -/
theorem eventEnd_control (b s : State) (h : s.ctl.span ≠ .leaving) :
    (eventEnd b s).ctl = s.ctl ∧ (eventEnd b s).sel = s.sel := by
  unfold eventEnd
  rw [drainCheck_eq_self]
  · unfold directoryEventEnd peerEventEnd
    repeat' split
    all_goals simp
  · unfold directoryEventEnd peerEventEnd
    repeat' split
    all_goals simpa using h

theorem SpanKept.eventEnd (h : SpanKept s) (b : State) : SpanKept (eventEnd b s) := by
  by_cases hleave : s.ctl.span = .leaving
  · exact .of_busy (.inr ((eventEnd_span b s).trans hleave))
      ((eventEnd_stopCause b s).trans (h.stopCause_eq_none (by simp [hleave])))
  · obtain ⟨hctl, hsel⟩ := eventEnd_control b s hleave
    obtain ⟨hentries, -⟩ := eventEnd_kept b s
    refine ⟨?_, fun h1 h2 => ?_, fun hx => ?_, fun hx => ?_⟩
    · rw [stopCauseRight, hctl]
      exact h.stop
    · rw [hctl] at h1 h2
      exact (h.requests h1 h2).of_same (by simp [hsel])
    · rw [hctl] at hx
      simpa [hsel] using h.quiet hx
    · rw [hctl] at hx
      obtain ⟨hd, hl, hdr, hp⟩ := h.emptied hx
      refine ⟨hentries.trans hd, by rw [hctl, hl], by rw [hctl, hdr], ?_⟩
      obtain hpeers | hpeers := peerEventEnd_peers b.peers s <;> rw [eventEnd_peers, hpeers]
      · exact hp
      · exact mem_zipWith_markChanged hp

end Sys2Proof.Machine


/-! ## Every step keeps the span states right -/

namespace Sys2Proof.Machine

variable {s t u : State} {c : Instr}

/-! ### The line -/

theorem SpanKept.endBreak (h : SpanKept s) : SpanKept (endBreak s) := by
  have hiface (k : State) (hk : ∃ x, k = s.setIface x) : SpanKept k := by
    obtain ⟨x, rfl⟩ := hk
    exact h.of_same (by simp)
  have hcount (k : State) (hk : SpanKept k) : SpanKept (count .txFail 1 k) := hk.of_same (by simp)
  have hlost : SpanKept (receiverLost (setTx none s)) := hiface _ ⟨_, rfl⟩
  unfold Machine.endBreak
  split
  · split
    next b _ =>
      cases b with
      | failure =>
        simp only [breakOutcome, stopIfFailing]
        split
        · exact .enterStopped .txFailures _
        · exact (hcount _ hlost).of_same (by simp [countFailure])
      | failureThenOffline => exact hcount _ hlost
      | cut => exact hlost
    · exact h
  · exact h

/-- An attempt that ends sent, on the span: of the requests only the one offered moves, and none is held in ANNOUNCING. -/
theorem SpanKept.endSent (h : SpanKept s) (hx : onSpan s.ctl.span = true) : SpanKept (endSent s) := by
  have hitem (u : State) (hu : SpanKept u) (hxu : onSpan u.ctl.span = true) (x : Offered) : SpanKept (itemSent x u) := by
    cases x with
    | response r => exact hu.of_onSpan hxu (by simp [itemSent])
    | leave =>
      have hmark : SpanKept (u.setSel { u.sel with leaveMark := false }) := hu.of_onSpan hxu (by simp)
      exact hmark.enterOffline
    | announce fresh copy =>
      have hrenewed (v : State) (hv : SpanKept v) (hxv : onSpan v.ctl.span = true) : SpanKept (renewAnnounce copy v) :=
        hv.of_onSpan hxv (by simp [renewAnnounce])
      cases fresh with
      | false => exact hrenewed u hu hxu
      | true =>
        simp only [itemSent, announceSent, freshSent, if_true]
        split
        next ha =>
          refine hrenewed _ (.of_busy ?_ ?_) ?_
          · simp [setSpan_ctl]
          · simpa [setSpan_ctl] using hu.stopCause_eq_none (by simp [ha])
          · simp [setSpan_ctl, onSpan]
        · exact hrenewed u hu hxu
    | heartbeat => exact hu
    | request item =>
      refine hu.of_idle ?_ fun hr => ?_
      · cases item <;> simp [itemSent]
      · have hun : SpanKept (unreadyItem item u) := by
          refine hu.of_hearing (by simp) (hearing_of_onSpan hxu) (fun hr => ?_) fun ho => by simp [hxu] at ho
          exact hr.of_same (by simp [unreadyItem, hr.2.2.1])
        cases item with
        | read i inc =>
          have hstate : (readAt i (unreadyItem (.read i inc) u)).state = .free := hr.readAt_state i
          simpa [itemSent, readSent, hstate] using hun
        | write k =>
          have hsent : writeSent k (unreadyItem (.write k) u) = unreadyItem (.write k) u := by
            simp [writeSent, hr.1]
          simpa only [itemSent, hsent] using hun
  unfold Machine.endSent
  split
  next x _ =>
    refine hitem _ ?_ (by simpa using hx) x.item
    exact h.of_onSpan hx (by simp [heartbeatSent])
  · exact h

/-! ### Timers -/

theorem SpanKept.of_request (h : SpanKept s) (hc : t.ctl = s.ctl) (hr : ¬requestsEmpty s) : SpanKept t :=
  h.of_idle hc fun he => absurd he hr

theorem SpanKept.listenEnds (h : SpanKept s) (hd : listenDue s = true) : SpanKept (listenEnds s) := by
  simp only [listenDue, Bool.and_eq_true, beq_iff_eq] at hd
  have hctl : (Machine.listenEnds s).ctl = { s.ctl with span := .announcing, listenTimer := none } := by
    simp [Machine.listenEnds, setSpan_ctl]
  refine ⟨?_, fun _ _ => ?_, fun hx => ?_, fun hx => ?_⟩
  · simpa [stopCauseRight, hctl] using h.stopCause_eq_none (by simp [hd.1])
  · exact (h.requests (by simp [hd.1]) (by simp [hd.1])).of_same (by simp [Machine.listenEnds])
  · simp [hctl, onSpan] at hx
  · simp [hctl, hearing] at hx

/-! ### Events -/

theorem SpanKept.effect (h : SpanKept s) (hk : WellKept s) (hu : Effect c s u) : SpanKept u := by
  cases hu with
  | attemptBegin _ =>
    unfold beginAttempt
    split
    · exact h.of_same (by simp)
    · exact h
  | attemptLost _ _ => exact h.of_same (by simp [loseAttempt])
  | readbackMismatch _ _ => exact h.of_same (by simp [failReadback])
  | breakEnd _ _ => exact h.endBreak
  | attemptSent _ hp => exact h.endSent (hk.silent hp)
  | frameBroken _ _ =>
    unfold breakFrame
    split <;> exact h.of_same (by simp)
  | frameFormatError _ =>
    have ht (bytes : List Byte) : SpanKept (frameTaken bytes s) := by
      refine h.of_same ?_
      unfold frameTaken
      split <;> simp
    unfold discardFrame
    split
    · exact ht _
    · exact (ht []).of_same (by simp)
  | clashReport _ _ _ => exact h.frameArrives _ _
  | frame _ _ _ => exact h.frameArrives _ _
  | @readResponseTimeout _ i hd =>
    refine h.of_request ?_ fun hr => ?_
    · unfold readTimedOut
      split <;> simp
    · simp [responseDue, hr.readAt_state] at hd
  | @discardExpiry _ i hd =>
    refine h.of_request ?_ fun hr => ?_
    · unfold discardRead
      split <;> simp
    · simp [discardDue, hr.readAt_state] at hd
  | writeResponseTimeout hq _ =>
    refine h.of_request ?_ fun hr => by simp [hr.1] at hq
    unfold headTimedOut
    split <;> simp
  | holdExpiry hq _ => exact h.of_request (by simp) fun hr => by simp [hr.1] at hq
  | heartbeatTimerExpiry hd =>
    obtain ⟨-, -, hheart, -⟩ := hk.marks
    have hx := hheart.mp (by simp only [heartbeatEnded, expired, beq_iff_eq] at hd; simp [hd])
    exact .of_busy (by simpa [heartbeatDue] using hx)
      (by simpa [heartbeatDue] using h.stopCause_eq_none (by obtain hx | hx := hx <;> simp [hx]))
  | listenTimerExpiry hd => exact h.listenEnds hd
  | drainTimerExpiry hd =>
    simp only [drainDue, Bool.and_eq_true, beq_iff_eq] at hd
    obtain ⟨-, -, hc⟩ := drainAgents_frame s
    exact .of_busy (by rw [hc]; exact .inr hd.1) (by rw [hc]; exact h.stopCause_eq_none (by simp [hd.1]))
  | silenceLimit _ => exact h.markSilent _
  | @absenceLimit _ n hn =>
    simp only [absenceReached, Bool.and_eq_true, bne_iff_ne] at hn
    exact h.losePeer (h.hearing_of_heard (n := n) hn.1) n
  | idleFound _ =>
    unfold foundIdle
    split <;> exact h.of_same (by simp)
  | startBitConfirmed _ _ => exact h.of_same (by simp)
  | ownFrameEnd _ _ _ => exact h.of_same (by simp)

/-! ### Commands and cycles -/

theorem SpanKept.startListening (h : SpanKept s) (hx : s.ctl.span = .offline) : SpanKept (startListening s) := by
  have hctl : (Machine.startListening s).ctl =
      { s.ctl with span := .listening, listenTimer := some (listenTicks s.ctl.config) } := by
    simp [Machine.startListening, setSpan_ctl, markWaiting]
  refine ⟨?_, fun _ _ => ?_, fun _ => ?_, fun hh => ?_⟩
  · simpa [stopCauseRight, hctl] using h.stopCause_eq_none (by simp [hx])
  · exact (h.requests (by simp [hx]) (by simp [hx])).of_same (by simp [Machine.startListening, markWaiting])
  · simpa [Machine.startListening, markWaiting] using h.quiet (by rw [hx]; rfl)
  · simp [hctl, hearing] at hh

theorem SpanKept.commanded (h : SpanKept s) (hu : Commanded c s u) : SpanKept u := by
  cases hu with
  | join hx _ => exact h.startListening hx
  | leaveOnline hx =>
    exact .of_busy (by simp [startLeaving]) (by simpa [startLeaving, setSpan_ctl] using h.stopCause_eq_none (by simp [hx]))
  | leaveJoining _ => exact h.enterOffline
  | restart => exact h.enterOffline

theorem SpanKept.newRead_of_idle (h : SpanKept s) (hx : s.ctl.span ≠ .online) (a : GlobalAddr) (be : Enables) :
    SpanKept (newRead a be s).next := by
  rw [newRead_of_not_online hx]
  exact h.of_same ⟨rfl, rfl, rfl, rfl, rfl, rfl, rfl, rfl, rfl, rfl⟩

theorem SpanKept.apertureReadTaken (h : SpanKept s) (a : GlobalAddr) (be : Enables) :
    SpanKept (apertureReadTaken a be s).next := by
  obtain ⟨-, -, -, -, -, -, hc⟩ := apertureReadTaken_frame a be s
  by_cases hx : s.ctl.span = .online
  · exact .of_busy (.inl (by rw [hc, hx])) (by rw [hc]; exact h.stopCause_eq_none (by simp [hx]))
  · refine h.of_idle hc fun hr => ?_
    rw [apertureReadTaken_of_none (hr.matchingRead a _)]
    exact h.newRead_of_idle hx a be

theorem SpanKept.apertureWriteTaken (h : SpanKept s) (a : GlobalAddr) (data : List Byte) (notice : Bool) :
    SpanKept (apertureWriteTaken a data notice s).next := by
  by_cases hx : s.ctl.span = .online
  · obtain ⟨-, -, -, -, hc⟩ := apertureWriteTaken_frame a data notice s
    exact .of_busy (.inl (by rw [hc, hx])) (by rw [hc]; exact h.stopCause_eq_none (by simp [hx]))
  · rw [apertureWriteTaken_of_not_online hx]
    exact h.of_same ⟨rfl, rfl, rfl, rfl, rfl, rfl, rfl, rfl, rfl, rfl⟩

/-- A changed mark that is cleared leaves a record that holds nothing as one that holds nothing (R130). -/
theorem SpanKept.clearChanged (h : SpanKept s) (n : Station) : SpanKept (Machine.setPeer n { peerOf n s with changed := false } s) := by
  by_cases hx : hearing s.ctl.span = true
  · exact h.setPeer hx _ _
  · obtain ⟨hentries, hlisten, hdrain, hpeers⟩ := h.emptied (by simpa using hx)
    refine ⟨by simpa [stopCauseRight] using h.stop, fun h1 h2 => (h.requests (by simpa using h1) (by simpa using h2)).of_same (by simp),
      fun ho => by simpa using h.quiet (by simpa using ho), fun _ => ?_⟩
    refine ⟨by simpa using hentries, by simpa using hlisten, by simpa using hdrain, fun r hr => ?_⟩
    unfold Machine.setPeer at hr
    split at hr
    next hv =>
      obtain hr | rfl := List.mem_or_eq_of_mem_set hr
      · exact hpeers r hr
      · rw [peerOf, if_pos hv, List.getD_eq_getElem?_getD]
        cases hk : s.peers[n.toNat - 1]? with
        | none => rfl
        | some r =>
          rw [Option.getD_some, hpeers r (List.mem_of_getElem? hk)]
          rfl
    · exact hpeers r hr

theorem SpanKept.storeConfig (h : SpanKept s) (w : ConfigWord) (be : Enables) (d : Word) :
    SpanKept (storeConfig w be d s) := by
  have hset : SpanKept (setConfig (writeConfigWord w be d s.ctl.config) s) := h.of_same (by simp [setConfig])
  cases w with
  | station =>
    simp only [Machine.storeConfig, configStored]
    split
    · exact hset.clearChanged _
    · exact hset
  | regionCtrl n => exact hset.of_same ⟨rfl, rfl, rfl, rfl, rfl, rfl, rfl, rfl, rfl, rfl⟩
  | _ => exact hset

theorem SpanKept.owned (h : SpanKept s) (hu : Owned c s u) : SpanKept u := by
  cases hu with
  | ramWrite => exact h.of_same (by simp)
  | apertureRead _ => exact h.apertureReadTaken _ _
  | apertureWrite _ => exact h.apertureWriteTaken _ _ _
  | status => exact h.of_same ⟨rfl, rfl, rfl, rfl, rfl, rfl, rfl, rfl, rfl, rfl⟩
  | noticePop => exact h.of_same ⟨rfl, rfl, rfl, rfl, rfl, rfl, rfl, rfl, rfl, rfl⟩
  | clearFault => exact h.of_same ⟨rfl, rfl, rfl, rfl, rfl, rfl, rfl, rfl, rfl, rfl⟩
  | clearCounters => exact h.of_same ⟨rfl, rfl, rfl, rfl, rfl, rfl, rfl, rfl, rfl, rfl⟩
  | clearEvents => exact h.of_same (by simp [clearEvents])
  | storeEnables => exact h.of_same (by simp [storeEnables])
  | storeConfig _ => exact h.storeConfig _ _ _
  | storeBitDiv _ =>
    unfold storeBitDiv
    split
    · exact h.of_same (by simp [setConfig])
    · exact h
  | storeTickDiv _ =>
    unfold storeTickDiv
    split
    · exact h.of_same (by simp)
    · exact h
  | readEffect =>
    unfold readEffect
    split
    · split
      · exact h.clearChanged _
      · exact h
    · exact h

/-! ### Every command -/

/-- Every block that the span states leave empty at its reset values. -/
theorem SpanKept.of_reset (hc : s.ctl = StationControl.reset) (hd : s.dir = Directory.reset)
    (hp : s.peers = List.replicate Config.peerRecords PeerRecord.reset) (hr : s.reads = ReadAgent.reset)
    (hw : s.writes = WriteAgent.reset) (hs : s.sel = Selector.reset) (hresp : s.resp = Responder.reset) : SpanKept s := by
  refine ⟨by simp [stopCauseRight, hc, StationControl.reset], fun _ _ => ?_, fun _ => ?_, fun _ => ?_⟩
  · rw [requestsEmpty, hw, hr, hs]
    refine ⟨rfl, rfl, rfl, fun e he => ?_⟩
    rw [List.eq_of_mem_replicate he]
    rfl
  · simp [hresp, hs, Responder.reset]
  · rw [hd, hc, hp]
    refine ⟨rfl, rfl, rfl, fun r hr => ?_⟩
    rw [List.eq_of_mem_replicate hr]
    rfl

theorem SpanKept.tickAll (h : SpanKept s) : SpanKept (tickAll s) := by
  have hempty (he : requestsEmpty s) : requestsEmpty (Machine.tickAll s) := by
    obtain ⟨hq, ho, hl, hfree⟩ := he
    refine ⟨?_, ho, hl, fun e he => ?_⟩
    · simp [Machine.tickAll, tickControl, tickPeers, tickSelector, tickWrites, tickReads, setQueue, hq]
    · obtain ⟨x, hx, rfl⟩ := List.mem_map.mp (show e ∈ s.reads.entries.map _ from he)
      rw [hfree x hx]
      rfl
  refine ⟨h.stop, fun h1 h2 => hempty (h.requests h1 h2), fun hx => ?_, fun hx => ?_⟩
  · obtain ⟨hresp, hsel⟩ := h.quiet hx
    refine ⟨hresp, ?_⟩
    show { s.sel with heartbeatTimer := countDown s.sel.heartbeatTimer } = _
    rw [hsel]
    rfl
  · obtain ⟨hentries, hlisten, hdrain, hpeers⟩ := h.emptied hx
    refine ⟨hentries, ?_, ?_, fun r hr => ?_⟩
    · show countDown s.ctl.listenTimer = none
      rw [hlisten]
      rfl
    · show countDown s.ctl.drainTimer = none
      rw [hdrain]
      rfl
    · obtain ⟨x, hx, rfl⟩ := List.mem_map.mp (show r ∈ s.peers.map tickRecord from hr)
      rw [hpeers x hx]
      rfl

theorem SpanKept.does (hk : WellKept s) (ht : Does c s t) : SpanKept t := by
  have h := hk.spanKept
  have hport (u : State) (hu : SpanKept u) (p : HostPort) : SpanKept (u.setPort p) := hu.of_same (by simp)
  cases ht with
  | powerOn => exact .of_reset rfl rfl rfl rfl rfl rfl rfl
  | clearEnd => exact h.of_same (by simp)
  | pinReset => exact .of_reset rfl rfl rfl rfl rfl rfl rfl
  | port p => exact hport s h p
  | tick _ => exact h.tickAll
  | event hu => exact (h.effect hk hu).eventEnd s
  | @command _ _ u hu code p =>
    have hended := (h.commanded hu).eventEnd s
    generalize Machine.eventEnd s u = v at hended
    exact hended.of_same ⟨rfl, rfl, rfl, rfl, rfl, rfl, rfl, rfl, rfl, rfl⟩
  | cycle hu p => exact hport _ (h.owned hu) p

/-! ### A step of a well-kept station

The queue of commands is no part of any invariant, so a step may be taken as a command of the same state. -/

theorem WellKept.setPending (h : WellKept s) (l : List Instr) : WellKept (s.setPending l) :=
  ⟨h.sized, h.capacity, h.ram, h.config, h.stopCause, h.empty, h.silent, h.drain, h.marks, h.receiver, h.ownFrame, h.directory,
    h.ownRegions, h.ownRecord, h.owners, h.requests, h.apart, h.ranks, h.timers, h.barriers, h.head, h.ready, h.attempts, h.bounded,
    h.answers, h.shapes⟩

/-- A property that every command gives the next state of a well-kept station, and every bit time too, every step gives. -/
theorem of_step {P : State → Prop} (hs : WellKept s) (ht : step s = .next t) (hidle : P (idleStep s))
    (hdoes : ∀ c u, WellKept u → Does c u t → P t) : P t := by
  obtain ⟨-, rfl⟩ | ⟨c, rest, -, hd⟩ := step_does ht
  · exact hidle
  · exact hdoes c _ (hs.setPending rest) hd

theorem SpanKept.step (hs : WellKept s) (ht : step s = .next t) : SpanKept t := by
  refine of_step hs ht ?_ fun c u hu hd => .does hu hd
  obtain ⟨x, hx, -⟩ := idleStep_eq s
  rw [hx]
  exact hs.spanKept.of_same (by simp)

/-- The tables of a well-kept station are kept by every step, with the configuration that it then has. -/
theorem WellKept.step_tables (hs : WellKept s) (ht : step s = .next t) : TablesKept t.ctl.config t := by
  have hoff : s.ctl.span = .offline → stationEmpty s := fun hx => hs.empty.2.1 (by rw [hx]; rfl)
  obtain ⟨c, hkept⟩ := step_keeps_tables hs.tables hoff ht
  exact hkept.dir.config ▸ hkept

/-- Settles O52: `SpanKept` and the tables together say what the obligation states. -/
theorem stepKeepsSpanStatesRight : Obligations.StepKeepsSpanStatesRight := fun _ _ hs ht =>
  (SpanKept.step hs ht).statement (hs.step_tables ht)

end Sys2Proof.Machine


/-! ## Every step keeps the line silent off the span, and the marks and the receiver right -/

namespace Sys2Proof.Machine

variable {s t u : State} {c : Instr}

/-! ### The invariant -/

/-- What is true of a transmission whose frame is on the line (R4, R5, R105). -/
structure OnTheLine (s : State) (x : Transmission) : Prop where
  span : onSpan s.ctl.span = true
  leave : isLeave x.item = true → s.ctl.span = .leaving
  fresh : isFreshAnnounce x.item = true → s.ctl.span = .announcing
  receiving : s.iface.receiver = .receiving
  own : s.iface.rxOwn = true
  inside : x.bitsSent < 10 * x.image.length
  phase : x.phase = .arbitrating ↔ x.bitsSent < 9
  counted : s.iface.rxCount = x.bitsSent / 10
  held : s.iface.rxBuffer = (x.image.take (x.bitsSent / 10)).take 42

/-- The marks and the timers stand only in the span states of their rules (R113, R114, R116, R138, R144). -/
structure MarksKept (s : State) : Prop where
  leave : s.sel.leaveMark = true → s.ctl.span = .leaving
  fresh : s.sel.announceMark = .pendingFresh → s.ctl.span = .announcing
  heartbeat : s.sel.heartbeatTimer.isSome = true ↔ s.ctl.span = .online ∨ s.ctl.span = .leaving
  listen : s.ctl.listenTimer.isSome = true ↔ s.ctl.span = .listening
  drain : s.ctl.drainTimer.isSome = true → s.ctl.span = .leaving

/-- The receiver by the transmission, BIT_DIV and the span state (R2, R4, R14, R148). -/
structure ReceiverKept (s : State) : Prop where
  idle : s.iface.receiver = .idle → s.iface.tx = none
  stopped : bitsRun s.ctl.config = false → s.iface.receiver = .waitIdle
  untaken : s.iface.untaken = true → s.iface.tx = none → s.iface.receiver = .idle
  dropped : s.ctl.span = .stopped → s.iface.untaken = false
  waiting : s.iface.fromOffline = true → s.iface.untaken = true

structure LineKept (s : State) : Prop where
  line : ∀ x ∈ s.iface.tx, onLine x.phase = true → OnTheLine s x
  marks : MarksKept s
  receiver : ReceiverKept s

theorem inPhase_iff {p : TxPhase → Bool} : inPhase p s = true ↔ ∃ x ∈ s.iface.tx, p x.phase = true := by
  unfold inPhase
  cases s.iface.tx <;> simp

theorem WellKept.lineKept (h : WellKept s) : LineKept s := by
  obtain ⟨hleave, hfresh, hheart, hlisten, hdrain, hitem⟩ := h.marks
  obtain ⟨hidle, hreceiving, hbits, huntaken, hdropped, hwaiting⟩ := h.receiver
  refine ⟨fun x hx hon => ?_, ⟨hleave, hfresh, hheart, hlisten, hdrain⟩, ⟨hidle, hbits, huntaken, hdropped, hwaiting⟩⟩
  have hp : inPhase onLine s = true := inPhase_iff.mpr ⟨x, hx, hon⟩
  obtain ⟨hown, hinside, hphase, hcount, hheld⟩ := h.ownFrame x hx hon
  exact ⟨h.silent hp, (hitem x hx hon).1, (hitem x hx hon).2, hreceiving hp, hown, hinside, hphase, hcount, hheld⟩

theorem LineKept.statement (h : LineKept s) : silentOffSpan s ∧ marksRight s ∧ receiverRight s ∧ ownFrameRight s := by
  have hline (hp : inPhase onLine s = true) : ∃ x, OnTheLine s x := by
    obtain ⟨x, hx, hon⟩ := inPhase_iff.mp hp
    exact ⟨x, h.line x hx hon⟩
  refine ⟨fun hp => ?_, ?_, ?_, fun x hx hon => ?_⟩
  · obtain ⟨x, hx⟩ := hline hp
    exact hx.span
  · exact ⟨h.marks.leave, h.marks.fresh, h.marks.heartbeat, h.marks.listen, h.marks.drain,
      fun x hx hon => ⟨(h.line x hx hon).leave, (h.line x hx hon).fresh⟩⟩
  · refine ⟨h.receiver.idle, fun hp => ?_, h.receiver.stopped, h.receiver.untaken, h.receiver.dropped, h.receiver.waiting⟩
    obtain ⟨x, hx⟩ := hline hp
    exact hx.receiving
  · have hx := h.line x hx hon
    exact ⟨hx.own, hx.inside, hx.phase, hx.counted, hx.held⟩

/-! ### What leaves all of it -/

/-- `t` has the line, station control and the marks of `s`; only an ANNOUNCE that is not fresh may have been asked for. -/
structure SameLine (s t : State) : Prop where
  iface : t.iface = s.iface
  ctl : t.ctl = s.ctl
  leave : t.sel.leaveMark = s.sel.leaveMark
  heartbeat : t.sel.heartbeatTimer = s.sel.heartbeatTimer
  announce : t.sel.announceMark = .pendingFresh → s.sel.announceMark = .pendingFresh

theorem SameLine.of_sel (h : t.iface = s.iface ∧ t.ctl = s.ctl ∧ t.sel = s.sel) : SameLine s t :=
  ⟨h.1, h.2.1, by rw [h.2.2], by rw [h.2.2], by rw [h.2.2]; exact id⟩

theorem SameLine.refl (s : State) : SameLine s s := .of_sel ⟨rfl, rfl, rfl⟩

theorem SameLine.trans (h : SameLine s t) (h' : SameLine t u) : SameLine s u :=
  ⟨h'.iface.trans h.iface, h'.ctl.trans h.ctl, h'.leave.trans h.leave, h'.heartbeat.trans h.heartbeat,
    fun ha => h.announce (h'.announce ha)⟩

/-- The two agents change only the ready list of the selector. -/
theorem SameLine.of_agent (h : AgentStep s t) (hk : t.iface = s.iface ∧ t.ctl = s.ctl) : SameLine s t :=
  ⟨hk.1, hk.2, by rw [h.sel], by rw [h.sel], by rw [h.sel]; exact id⟩

theorem SameLine.requestAnnounce (s : State) : SameLine s (requestAnnounce s) := by
  unfold Machine.requestAnnounce
  split
  · exact ⟨rfl, rfl, rfl, rfl, fun h => by simp at h⟩
  · exact .refl s

theorem SameLine.returnRule (s : State) : SameLine s (returnRule s) := by
  unfold Machine.returnRule
  split
  · have hsel : (allRegionIndexes.foldl returnRegion s).sel = s.sel :=
      foldl_keeps returnRegion (·.sel) returnRegion_sel allRegionIndexes s
    have hfold : SameLine s (allRegionIndexes.foldl returnRegion s) :=
      .of_sel ⟨foldl_keeps returnRegion (·.iface) (fun u n => by simp) allRegionIndexes s,
        foldl_keeps returnRegion (·.ctl) (fun u n => by simp) allRegionIndexes s, hsel⟩
    unfold requestIfReturned
    split
    · exact hfold.trans (.requestAnnounce _)
    · exact hfold
  · exact .refl s

theorem LineKept.of_same (h : LineKept s) (hl : SameLine s t) : LineKept t := by
  obtain ⟨hiface, hctl, hleave, hheart, hannounce⟩ := hl
  refine ⟨fun x hx hon => ?_, ?_, ?_⟩
  · obtain ⟨h1, h2, h3, h4, h5, h6, h7, h8, h9⟩ := h.line x (by rwa [hiface] at hx) hon
    exact ⟨by rwa [hctl], by rwa [hctl], by rwa [hctl], by rwa [hiface], by rwa [hiface], h6, h7, by rwa [hiface], by rwa [hiface]⟩
  · obtain ⟨h1, h2, h3, h4, h5⟩ := h.marks
    exact ⟨by rwa [hctl, hleave], by rw [hctl]; exact fun ha => h2 (hannounce ha), by rwa [hctl, hheart], by rwa [hctl], by rwa [hctl]⟩
  · obtain ⟨h1, h2, h3, h4, h5⟩ := h.receiver
    exact ⟨by rwa [hiface], by rwa [hctl, hiface], by rwa [hiface], by rwa [hctl, hiface], by rwa [hiface]⟩

/-! ### The interface alone -/

theorem MarksKept.of_same (h : MarksKept s) (hs : t.sel = s.sel ∧ t.ctl = s.ctl) : MarksKept t := by
  obtain ⟨h1, h2, h3, h4, h5⟩ := h
  obtain ⟨hsel, hctl⟩ := hs
  exact ⟨by rwa [hctl, hsel], by rwa [hctl, hsel], by rwa [hctl, hsel], by rwa [hctl], by rwa [hctl]⟩

/-- A change of the interface that leaves no frame of this station on the line. -/
theorem LineKept.of_quiet (h : LineKept s) (hs : t.sel = s.sel ∧ t.ctl = s.ctl)
    (hx : ∀ x ∈ t.iface.tx, onLine x.phase = false) (hr : ReceiverKept t) : LineKept t :=
  ⟨fun x hx' hon => by simp [hx x hx'] at hon, h.marks.of_same hs, hr⟩

theorem LineKept.bitsRun (h : LineKept s) (hr : s.iface.receiver ≠ .waitIdle) : bitsRun s.ctl.config = true := by
  by_contra hb
  exact hr (h.receiver.stopped (by simpa using hb))

/-- A frame is taken: with an attempt begun, the own frame keeps the receiver. -/
theorem LineKept.frameTaken (h : LineKept s) (bytes : List Byte) (ht : takesFrame s = true) : LineKept (frameTaken bytes s) := by
  unfold Machine.frameTaken
  cases htx : s.iface.tx with
  | none =>
    have hr : s.iface.receiver ≠ .waitIdle := by
      simp only [takesFrame, receivingPeer, Bool.or_eq_true, Bool.and_eq_true, beq_iff_eq] at ht
      obtain ⟨⟨hr, -⟩, -⟩ | hu := ht
      · simp [hr]
      · simp [h.receiver.untaken hu htx]
    refine h.of_quiet ⟨rfl, rfl⟩ (by simp [htx]) ⟨fun _ => htx, ?_, fun _ _ => rfl, fun _ => rfl, by simp⟩
    simp [h.bitsRun hr]
  | some x =>
    refine ⟨fun y hy hon => ?_, h.marks.of_same ⟨rfl, rfl⟩, ?_⟩
    · obtain ⟨h1, h2, h3, h4, h5, h6, h7, h8, h9⟩ := h.line y (by simpa [htx] using hy) hon
      exact ⟨h1, h2, h3, h4, h5, h6, h7, h8, h9⟩
    · exact ⟨h.receiver.idle, h.receiver.stopped, by simp, by simp, by simp⟩

/-- The receiver waits for a silent line, with no frame of this station on it (R4). -/
theorem LineKept.receiverLost (h : LineKept s) (hx : ∀ x ∈ s.iface.tx, onLine x.phase = false) : LineKept (receiverLost s) :=
  h.of_quiet ⟨rfl, rfl⟩ hx ⟨by simp [Machine.receiverLost], by simp [Machine.receiverLost], by simp [Machine.receiverLost],
    by simp [Machine.receiverLost], by simp [Machine.receiverLost]⟩

theorem LineKept.count (h : LineKept s) (k : Counter) (n : Nat) : LineKept (count k n s) := h.of_same (.of_sel (by simp))

/-- A line event with a transmission in progress finds the receiver out of IDLE. -/
theorem LineKept.receiver_of_tx (h : LineKept s) {x : Transmission} (hx : s.iface.tx = some x) : s.iface.receiver ≠ .idle :=
  fun hi => by simpa [hx] using h.receiver.idle hi

theorem LineKept.failReadback (h : LineKept s) : LineKept (failReadback s) := by
  refine h.of_quiet ⟨rfl, rfl⟩ (fun x hx => ?_) ?_
  · obtain ⟨y, -, rfl⟩ := Option.mem_map.mp hx
    rfl
  · obtain ⟨h1, h2, h3, h4, h5⟩ := h.receiver
    refine ⟨fun hi => ?_, h2, fun hu htx => h3 hu ?_, h4, h5⟩
    · simp [Machine.failReadback, setTx, h1 hi]
    · simpa [Machine.failReadback, setTx] using htx

theorem LineKept.loseAttempt (h : LineKept s) (hu : s.iface.untaken = false) : LineKept (loseAttempt s) := by
  obtain ⟨h1, h2, h3, h4, h5⟩ := h.receiver
  have hlost : LineKept (s.setIface { s.iface with
      tx := none, rxOwn := false, lossCount := min (s.iface.lossCount + 1) Config.urgentLosses }) :=
    h.of_quiet ⟨rfl, rfl⟩ (by simp) ⟨fun _ => rfl, h2, by simp [hu], h4, h5⟩
  exact hlost.count _ _

/-! ### OFFLINE and STOPPED (R147) -/

/-- The purge leaves no mark and no timer, and the line as it was. -/
theorem MarksKept.purged (x : SpanState) (cause : Option StopCause) (hx : x = .offline ∨ x = .stopped) (s : State) :
    MarksKept (setSpan x (setStopCause cause (purgeAll s))) := by
  have hsel : (purgeAll s).sel = Selector.reset := by simp [purgeAll, clearSelector]
  have hctl : (setSpan x (setStopCause cause (purgeAll s))).ctl =
      { s.ctl with span := x, stopCause := cause, listenTimer := none, drainTimer := none } := by
    simp [setSpan_ctl, setStopCause, purgeAll_ctl]
  constructor <;> rw [hctl]
  · simp [hsel, Selector.reset]
  · simp [hsel, Selector.reset]
  · obtain rfl | rfl := hx <;> simp [hsel, Selector.reset]
  · obtain rfl | rfl := hx <;> simp
  · simp

theorem purged_iface (x : SpanState) (cause : Option StopCause) (s : State) :
    (setSpan x (setStopCause cause (purgeAll s))).iface = { s.iface with lossCount := 0, failCount := 0 } := by
  simp [purgeAll, setStopCause, stopControlTimers, clearConsecutive]

theorem LineKept.enterOffline (h : LineKept s) : LineKept (enterOffline s) := by
  unfold Machine.enterOffline
  split
  · exact h
  · have hiface := purged_iface .offline none (cut s)
    have hconf : (setSpan .offline (setStopCause none (purgeAll (cut s)))).ctl.config = s.ctl.config := by
      simp [setSpan_ctl, setStopCause, purgeAll_ctl, cut]
    obtain ⟨h1, h2, h3, h4, h5⟩ := h.receiver
    refine ⟨fun x hx hon => ?_, .purged .offline none (.inl rfl) _, ?_⟩
    · rw [hiface] at hx
      obtain ⟨y, -, rfl⟩ := Option.mem_map.mp hx
      simp only [cutTransmission] at hon
      split at hon
      · simp [onLine] at hon
      next hy => simp [hy, onLine] at hon
      · simp [onLine] at hon
    · constructor <;> rw [hiface]
      · simp only [cut, State.setIface_iface]
        exact fun hi => by rw [h1 hi]; rfl
      · rw [hconf]
        exact h2
      · simpa [cut] using h3
      · simp [setSpan_ctl]
      · exact h5

theorem LineKept.enterStopped (h : LineKept s) (cause : StopCause) (hx : ∀ x ∈ s.iface.tx, onLine x.phase = false)
    (hu : s.iface.untaken = false) : LineKept (enterStopped cause s) := by
  have hiface := purged_iface .stopped (some cause) s
  have hconf : (setSpan .stopped (setStopCause (some cause) (purgeAll s))).ctl.config = s.ctl.config := by
    simp [setSpan_ctl, setStopCause, purgeAll_ctl]
  obtain ⟨h1, h2, h3, h4, h5⟩ := h.receiver
  refine ⟨fun x hx' hon => ?_, .purged .stopped (some cause) (.inr rfl) _, ?_⟩
  · rw [Machine.enterStopped, hiface] at hx'
    simp [hx x hx'] at hon
  · constructor <;> rw [Machine.enterStopped, hiface]
    · exact h1
    · rw [hconf]
      exact h2
    · exact h3
    · exact fun _ => hu
    · exact h5

theorem LineKept.endBreak (h : LineKept s) (hu : s.iface.untaken = false) : LineKept (endBreak s) := by
  have hnone : LineKept (setTx none s) := by
    refine h.of_quiet ⟨rfl, rfl⟩ (by simp [setTx]) ?_
    obtain ⟨h1, h2, h3, h4, h5⟩ := h.receiver
    exact ⟨fun _ => rfl, h2, fun hu' => by simp [setTx, hu] at hu', h4, h5⟩
  have hlost := hnone.receiverLost (by simp [setTx])
  unfold Machine.endBreak
  split
  · split
    next b _ =>
      cases b with
      | failure =>
        have hfail : LineKept (countFailure (Machine.count .txFail 1 (Machine.receiverLost (setTx none s)))) := by
          refine (hlost.count .txFail 1).of_quiet ⟨rfl, rfl⟩ (by simp [countFailure, setTx, Machine.receiverLost]) ?_
          obtain ⟨h1, h2, h3, h4, h5⟩ := (hlost.count .txFail 1).receiver
          exact ⟨h1, h2, h3, h4, h5⟩
        simp only [breakOutcome, stopIfFailing]
        split
        · exact hfail.enterStopped _ (by simp [countFailure, setTx, Machine.receiverLost]) (by simp [countFailure, Machine.receiverLost])
        · exact hfail
      | failureThenOffline => exact hlost.count _ _
      | cut => exact hlost
    · exact h
  · exact h

end Sys2Proof.Machine


/-! ## Every step keeps the line right: events, commands and cycles -/

namespace Sys2Proof.Machine

variable {s t u : State} {c : Instr}

/-! ### The end of an attempt -/

theorem encodeFrame_length_pos (f : Frame) : 0 < (encodeFrame f).length := by
  simp [encodeFrame, wordBytes]

theorem LineKept.beginAttempt (h : LineKept s) (hidle : s.iface.receiver = .idle) : LineKept (beginAttempt s) := by
  unfold Machine.beginAttempt
  split
  next x ho =>
    have hspan : onSpan s.ctl.span = true := by
      by_contra hoff
      simp [offer, hoff] at ho
    have hfirst : firstOffer s = some x := by simpa [offer, hspan] using ho
    have hitem : (isLeave x = true → s.sel.leaveMark = true) ∧
        (isFreshAnnounce x = true → s.sel.announceMark = .pendingFresh) := by
      unfold firstOffer at hfirst
      split at hfirst
      · simp [← Option.some.inj hfirst, isLeave, isFreshAnnounce]
      split at hfirst
      next hm => simp [← Option.some.inj hfirst, isFreshAnnounce, hm]
      split at hfirst
      next fresh hm =>
        obtain rfl := Option.some.inj hfirst
        refine ⟨by simp [isLeave], fun hf => ?_⟩
        unfold announceDue at hm
        split at hm <;> simp_all [isFreshAnnounce]
      split at hfirst
      · simp [← Option.some.inj hfirst, isLeave, isFreshAnnounce]
      · obtain ⟨y, -, rfl⟩ := Option.map_eq_some_iff.mp hfirst
        simp [isLeave, isFreshAnnounce]
    refine ⟨fun y hy _ => ?_, h.marks.of_same ⟨rfl, rfl⟩, ?_⟩
    · obtain rfl := Option.some.inj hy
      have hpos := encodeFrame_length_pos (offerFrame x s)
      exact ⟨hspan, fun hl => h.marks.leave (hitem.1 hl), fun hf => h.marks.fresh (hitem.2 hf), rfl, rfl,
        by simpa [transmissionOf] using hpos, by simp [transmissionOf], by simp [setTx, startReceiving, transmissionOf],
        by simp [setTx, startReceiving, transmissionOf]⟩
    · obtain ⟨h1, h2, h3, h4, h5⟩ := h.receiver
      exact ⟨by simp [setTx, startReceiving], fun hb => by simpa [hidle] using h2 hb, by simp [setTx], h4, h5⟩
  · exact h

theorem SameLine.itemSent_request (x : ReadyItem) (s : State) : SameLine s (itemSent (.request x) s) := by
  cases x with
  | read i inc => exact .of_agent ((AgentStep.unreadyItem _ s).trans (.readSent i inc _)) (by simp [itemSent])
  | write k => exact .of_agent ((AgentStep.unreadyItem _ s).trans (.writeSent k _)) (by simp [itemSent])

theorem SameLine.renewAnnounce (copy : List RegionGroup) (s : State) : SameLine s (renewAnnounce copy s) := by
  refine ⟨rfl, rfl, rfl, rfl, fun ha => ?_⟩
  simp only [Machine.renewAnnounce, State.setSel_sel] at ha
  split at ha <;> simp at ha

/-- A sent fresh ANNOUNCE takes the station ONLINE, and clears the mark that had asked for it (R115, R139). -/
theorem LineKept.freshSent (h : LineKept s) (htx : s.iface.tx = none) (hx : s.ctl.span = .announcing) (copy : List RegionGroup) :
    LineKept (renewAnnounce copy (freshSent s)) := by
  have hctl : (Machine.freshSent s).ctl = { s.ctl with span := .online } := by
    simp [Machine.freshSent, hx, startHeartbeat, setSpan_ctl]
  have hiface : (Machine.freshSent s).iface = s.iface := by simp [Machine.freshSent, hx, startHeartbeat]
  obtain ⟨h1, h2, h3, h4, h5⟩ := h.receiver
  obtain ⟨m1, m2, m3, m4, m5⟩ := h.marks
  refine ⟨by simp [htx], ⟨fun hl => ?_, fun ha => ?_, ?_, ?_, fun hd => ?_⟩, ?_⟩
  · have hl : s.sel.leaveMark = true := by
      simpa [Machine.renewAnnounce, Machine.freshSent, hx, startHeartbeat] using hl
    simpa [hx] using m1 hl
  · simp only [Machine.renewAnnounce, State.setSel_sel] at ha
    split at ha <;> simp at ha
  · simp [Machine.renewAnnounce, Machine.freshSent, hx, startHeartbeat]
  · simpa [hctl, hx] using m4
  · simpa [hx] using m5 (by simpa [hctl] using hd)
  · exact ⟨by simp [htx], by simpa [hctl] using h2, by simpa using h3, by simp [hctl], by simpa using h5⟩

theorem LineKept.itemSent (h : LineKept s) (htx : s.iface.tx = none) (x : Offered) : LineKept (itemSent x s) := by
  cases x with
  | response r => exact h.of_same (.of_sel (by simp [Machine.itemSent]))
  | leave =>
    have hmark : LineKept (s.setSel { s.sel with leaveMark := false }) :=
      ⟨by simp [htx], ⟨by simp, h.marks.fresh, h.marks.heartbeat, h.marks.listen, h.marks.drain⟩,
        ⟨h.receiver.idle, h.receiver.stopped, h.receiver.untaken, h.receiver.dropped, h.receiver.waiting⟩⟩
    exact hmark.enterOffline
  | announce fresh copy =>
    cases fresh with
    | false => exact h.of_same (.renewAnnounce copy s)
    | true =>
      simp only [Machine.itemSent, announceSent, if_true]
      by_cases hx : s.ctl.span = .announcing
      · exact h.freshSent htx hx copy
      · rw [Machine.freshSent, if_neg hx]
        exact h.of_same (.renewAnnounce copy s)
  | heartbeat => exact h
  | request y => exact h.of_same (.itemSent_request y s)

theorem LineKept.endSent (h : LineKept s) (hu : s.iface.untaken = false) : LineKept (endSent s) := by
  unfold Machine.endSent
  split
  next x hx =>
    refine LineKept.itemSent ?_ (by simp [heartbeatSent, ownBytesReceived]) x.item
    obtain ⟨h1, h2, h3, h4, h5⟩ := h.receiver
    obtain ⟨m1, m2, m3, m4, m5⟩ := h.marks
    refine ⟨by simp [heartbeatSent, ownBytesReceived], ⟨m1, m2, ?_, m4, m5⟩, ⟨fun _ => rfl, h2, ?_, h4, h5⟩⟩
    · simpa [heartbeatSent] using m3
    · simp [heartbeatSent, ownBytesReceived, hu]
  · exact h

/-! ### Frames -/

theorem SameLine.hear (n : Station) (s : State) : SameLine s (hear n s) := .of_sel (by simp)

theorem SameLine.takeRegions (n : Station) (gs : List RegionGroup) (s : State) : SameLine s (takeRegions n gs s) := by
  unfold Machine.takeRegions
  split
  · have hplaced : SameLine s (placeListed n gs [] (removeOwner n s)) := .of_sel (by simp)
    exact hplaced.trans (.returnRule _)
  · exact .refl s

theorem SameLine.takeAnnounce (f : Frame) (interval : Byte) (gs : List RegionGroup) (s : State) :
    SameLine s (takeAnnounce f interval gs s) := by
  have hasked (u : State) : SameLine u (if f.fresh && decide (u.ctl.span = .online) then Machine.requestAnnounce u else u) := by
    split
    · exact .requestAnnounce u
    · exact .refl u
  have hrecord : SameLine s (if f.fresh then takeFresh f.src (takeInterval f.src interval s) else takeInterval f.src interval s) := by
    split <;> exact .of_sel (by simp)
  exact (hrecord.trans (.takeRegions _ _ _)).trans (hasked _)

theorem SameLine.losePeer (n : Station) (s : State) : SameLine s (losePeer n s) := by
  have hrecord : SameLine s (removeOwner n (setPeer n (lostRecord (peerOf n s)) s)) := .of_sel (by simp)
  have hagents (u : State) : SameLine u (agentsLose n u) := .of_agent (.agentsLose n u) (by simp)
  have hpurged (u : State) : SameLine u (purgeResponses n u) := .of_sel (by simp)
  exact ((hrecord.trans (.returnRule _)).trans (hagents _)).trans (hpurged _)

theorem SameLine.frameContent (f : Frame) (s : State) : SameLine s (frameContent f s) := by
  unfold Machine.frameContent
  split
  · exact .of_agent (.takeReadRsp _ _ _ s) (by simp)
  · exact .of_agent (.takeWriteAck _ _ s) (by simp)
  · split
    · exact .of_agent (.takeWriteNack _ _ _ s) (by simp)
    · exact .of_agent (.takeReadNack _ _ _ s) (by simp)
  · exact .of_sel (by simp)
  · exact .of_sel (by simp)
  · exact .refl s
  · exact .takeAnnounce f _ _ s
  · unfold takeLeave
    split
    · exact .losePeer _ s
    · exact .refl s

theorem frameTaken_cases (bytes : List Byte) (s : State) :
    (frameTaken bytes s).iface.untaken = false ∧ (frameTaken bytes s).iface.tx = s.iface.tx := by
  unfold frameTaken
  split <;> simp

theorem LineKept.frameArrives (h : LineKept s) (bytes : List Byte) {f : Frame} (ht : takesValid f s = true) :
    LineKept (frameArrives bytes f s) := by
  simp only [takesValid, Bool.and_eq_true, Bool.or_eq_true, Option.isNone_iff_eq_none, bne_iff_ne, ne_eq] at ht
  obtain ⟨htakes, hclear⟩ := ht
  have htaken := h.frameTaken bytes htakes
  have hown : ownStation (Machine.frameTaken bytes s) = ownStation s := by
    unfold Machine.frameTaken
    split <;> rfl
  obtain ⟨huntaken, htx⟩ := frameTaken_cases bytes s
  simp only [Machine.frameArrives]
  split
  · exact htaken
  split
  next hsrc =>
    split
    · exact htaken
    unfold takeClash
    split
    · have hnone : s.iface.tx = none := hclear.resolve_right fun hne => hne (hsrc.trans hown)
      exact htaken.enterStopped .clash (by simp [htx, hnone]) huntaken
    · exact htaken
  split
  · exact htaken.of_same ((SameLine.hear _ _).trans (.frameContent f _))
  · exact htaken.of_same (.hear _ _)

/-! ### Events -/

theorem drainAgents_iface (s : State) : (drainAgents s).iface = s.iface := by
  simp only [drainAgents]
  split <;> simp

/-- Off the span no frame of this station is on the line. -/
theorem LineKept.off (h : LineKept s) (hx : onSpan s.ctl.span = false) : ∀ x ∈ s.iface.tx, onLine x.phase = false := by
  intro x hx'
  by_contra hon
  simpa [hx] using (h.line x hx' (by simpa using hon)).span

theorem LineKept.listenEnds (h : LineKept s) (hd : listenDue s = true) : LineKept (listenEnds s) := by
  simp only [listenDue, Bool.and_eq_true, beq_iff_eq] at hd
  have hctl : (Machine.listenEnds s).ctl = { s.ctl with span := .announcing, listenTimer := none } := by
    simp [Machine.listenEnds, setSpan_ctl]
  have hiface : (Machine.listenEnds s).iface = s.iface := by simp [Machine.listenEnds]
  have hsel : (Machine.listenEnds s).sel = { s.sel with announceMark := .pendingFresh } := by simp [Machine.listenEnds]
  have hoff := h.off (by rw [hd.1]; rfl)
  obtain ⟨h1, h2, h3, h4, h5⟩ := h.receiver
  obtain ⟨m1, m2, m3, m4, m5⟩ := h.marks
  refine ⟨fun x hx hon => ?_, ⟨?_, ?_, ?_, ?_, ?_⟩, ⟨?_, ?_, ?_, ?_, ?_⟩⟩
  · simp [hoff x (by rwa [hiface] at hx)] at hon
  · simpa [hsel, hctl, hd.1] using m1
  · simp [hctl]
  · simpa [hsel, hctl, hd.1] using m3
  · simp [hctl]
  · simpa [hctl, hd.1] using m5
  · rwa [hiface]
  · rwa [hiface, hctl]
  · rwa [hiface]
  · simp [hctl]
  · rwa [hiface]

theorem LineKept.effect (h : LineKept s) (hu : Effect c s u) : LineKept u := by
  cases hu with
  | attemptBegin hidle => exact h.beginAttempt hidle
  | attemptLost hun _ => exact h.loseAttempt hun
  | readbackMismatch _ _ => exact h.failReadback
  | breakEnd hun _ => exact h.endBreak hun
  | attemptSent hun _ => exact h.endSent hun
  | frameBroken _ htx =>
    have hlost := h.receiverLost (by simp [htx])
    unfold breakFrame
    split
    · exact hlost
    · exact hlost.count _ _
  | frameFormatError ht =>
    unfold discardFrame
    split
    · exact h.frameTaken _ ht
    · exact (h.frameTaken _ ht).count _ _
  | clashReport _ ht _ => exact h.frameArrives _ ht
  | frame _ ht _ => exact h.frameArrives _ ht
  | @readResponseTimeout _ i _ =>
    refine h.of_same ?_
    unfold readTimedOut
    split
    · exact .of_agent (.makeReady i s) (by simp)
    · exact (SameLine.of_agent (.failRead .noAnswer s i) (by simp)).trans (.of_sel (by simp))
  | @discardExpiry _ i _ =>
    refine h.of_same ?_
    have hfree : SameLine s (freeRead i s) := .of_agent (.freeRead i s) (by simp)
    unfold discardRead
    split
    · exact hfree
    · exact hfree.trans (.of_sel (by simp))
  | @writeResponseTimeout _ w _ _ _ =>
    refine h.of_same ?_
    unfold headTimedOut
    split
    · exact .of_agent (.readyHead w s) (by simp)
    · have hdrop : SameLine s (markSilent w.dest (dropHead w .noAnswer s)) :=
        (SameLine.of_agent (.dropHead w .noAnswer s) (by simp)).trans (.of_sel (by simp))
      exact hdrop.trans (.of_agent (.headGone _) (by simp))
  | @holdExpiry _ w _ _ _ => exact h.of_same (.of_agent (.readyHead w s) (by simp))
  | heartbeatTimerExpiry hd =>
    have hon : s.ctl.span = .online ∨ s.ctl.span = .leaving :=
      h.marks.heartbeat.mp (by simp only [heartbeatEnded, expired, beq_iff_eq] at hd; simp [hd])
    obtain ⟨m1, m2, -, m4, m5⟩ := h.marks
    obtain ⟨h1, h2, h3, h4, h5⟩ := h.receiver
    refine ⟨fun x hx hl => ?_, ⟨m1, m2, by simpa [heartbeatDue, startHeartbeat] using hon, m4, m5⟩, ⟨h1, h2, h3, h4, h5⟩⟩
    obtain ⟨l1, l2, l3, l4, l5, l6, l7, l8, l9⟩ := h.line x hx hl
    exact ⟨l1, l2, l3, l4, l5, l6, l7, l8, l9⟩
  | listenTimerExpiry hd => exact h.listenEnds hd
  | drainTimerExpiry _ => exact h.of_same (.of_agent (.drainAgents s) ⟨drainAgents_iface s, (drainAgents_frame s).2.2⟩)
  | @silenceLimit _ n _ =>
    have hsilent : SameLine s (markSilent n s) := .of_sel (by simp)
    exact h.of_same hsilent
  | absenceLimit _ => exact h.of_same (.losePeer _ s)
  | idleFound hi =>
    obtain ⟨h1, h2, h3, h4, h5⟩ := h.receiver
    unfold foundIdle
    split
    next ha =>
      simp only [awaitsIdle, Bool.and_eq_true, beq_iff_eq, Option.isNone_iff_eq_none] at ha
      refine h.of_quiet ⟨rfl, rfl⟩ (by simp [ha.1.2]) ⟨fun _ => ha.1.2, by simp [ha.2], fun _ _ => rfl, h4, h5⟩
    next ha =>
      have hp := hi.resolve_left ha
      simp only [receivingPeer, Bool.and_eq_true, beq_iff_eq, Option.isNone_iff_eq_none] at hp
      have hold : s.iface.untaken = false := by
        by_contra hun
        simpa [hp.1.1] using h3 (by simpa using hun) hp.1.2
      refine h.of_quiet ⟨rfl, rfl⟩ (by simp [hp.1.2])
        ⟨fun _ => hp.1.2, by simp [h.bitsRun (by simp [hp.1.1])], fun _ _ => rfl, fun hx => ?_, fun hf => ?_⟩
      · simpa using hx
      · simpa [hold] using h5 hf
  | startBitConfirmed hun hr =>
    obtain ⟨h1, h2, h3, h4, h5⟩ := h.receiver
    have htx := h1 hr
    exact h.of_quiet ⟨rfl, rfl⟩ (by simp [startReceiving, htx])
      ⟨fun _ => htx, by simp [startReceiving, h.bitsRun (by simp [hr])], by simp [startReceiving, hun], h4, h5⟩
  | ownFrameEnd hr _ htx =>
    obtain ⟨h1, h2, h3, h4, h5⟩ := h.receiver
    exact h.of_quiet ⟨rfl, rfl⟩ (by simp [htx])
      ⟨fun _ => htx, by simp [h.bitsRun (by simp [hr])], fun _ _ => rfl, h4, h5⟩

/-! ### Commands and cycles -/

theorem LineKept.commanded (h : LineKept s) (hu : Commanded c s u) : LineKept u := by
  obtain ⟨h1, h2, h3, h4, h5⟩ := h.receiver
  obtain ⟨m1, m2, m3, m4, m5⟩ := h.marks
  cases hu with
  | join hx hc =>
    have hctl : (startListening s).ctl = { s.ctl with span := .listening, listenTimer := some (listenTicks s.ctl.config) } := by
      simp [startListening, setSpan_ctl, markWaiting]
    have hiface : (startListening s).iface = { s.iface with fromOffline := s.iface.untaken } := by
      simp [startListening, markWaiting]
    have hsel : (startListening s).sel = s.sel := by simp [startListening, markWaiting]
    have hoff := h.off (by rw [hx]; rfl)
    refine ⟨fun x hx' hon => ?_, ⟨?_, ?_, ?_, ?_, ?_⟩, ⟨?_, ?_, ?_, ?_, ?_⟩⟩
    · simp [hoff x (by simpa [hiface] using hx')] at hon
    · simpa [hsel, hctl, hx] using m1
    · simpa [hsel, hctl, hx] using m2
    · simpa [hsel, hctl, hx] using m3
    · simp [hctl]
    · simpa [hctl, hx] using m5
    · simpa [hiface] using h1
    · simpa [hiface, hctl] using h2
    · simpa [hiface] using h3
    · simp [hctl]
    · simp [hiface]
  | leaveOnline hx =>
    have hctl : (startLeaving s).ctl = { s.ctl with span := .leaving, drainTimer := some drainTicks } := by
      simp [startLeaving, setSpan_ctl]
    have hiface : (startLeaving s).iface = s.iface := by simp [startLeaving]
    have hsel : (startLeaving s).sel = s.sel := by simp [startLeaving]
    refine ⟨fun x hx' hon => ?_, ⟨?_, ?_, ?_, ?_, ?_⟩, ⟨?_, ?_, ?_, ?_, ?_⟩⟩
    · obtain ⟨l1, l2, l3, l4, l5, l6, l7, l8, l9⟩ := h.line x (by rwa [hiface] at hx') hon
      refine ⟨by simp [hctl, onSpan], fun _ => by simp [hctl], fun hf => ?_, by rwa [hiface], by rwa [hiface], l6, l7,
        by rwa [hiface], by rwa [hiface]⟩
      simpa [hx] using l3 hf
    · simp [hctl]
    · rw [hsel]
      exact fun ha => by simpa [hx] using m2 ha
    · simp [hsel, hctl, m3, hx]
    · simpa [hctl, hx] using m4
    · simp [hctl]
    · rwa [hiface]
    · rwa [hiface, hctl]
    · rwa [hiface]
    · simp [hctl]
    · rwa [hiface]
  | leaveJoining _ => exact h.enterOffline
  | restart => exact h.enterOffline

/-- A stored configuration word leaves the clock of the line as it is, BIT_DIV having a row of its own (R2). -/
theorem writeConfigWord_bitDiv (w : ConfigWord) (be : Enables) (d : Word) (x : ConfigRecord) :
    (writeConfigWord w be d x).bitDiv = x.bitDiv := by
  unfold writeConfigWord storeConfigWord
  split <;> rfl

theorem LineKept.of_config (h : LineKept s) (hx : s.ctl.span = .offline) (hi : t.iface = s.iface) (hs : t.sel = s.sel)
    (hspan : t.ctl.span = s.ctl.span) (hl : t.ctl.listenTimer = s.ctl.listenTimer) (hd : t.ctl.drainTimer = s.ctl.drainTimer)
    (hb : t.ctl.config.bitDiv = s.ctl.config.bitDiv) : LineKept t := by
  obtain ⟨h1, h2, h3, h4, h5⟩ := h.receiver
  obtain ⟨m1, m2, m3, m4, m5⟩ := h.marks
  refine ⟨fun x hx' hon => ?_, ⟨?_, ?_, ?_, ?_, ?_⟩, ⟨?_, ?_, ?_, ?_, ?_⟩⟩
  · rw [hi] at hx'
    simp [h.off (by rw [hx]; rfl) x hx'] at hon
  · rwa [hs, hspan]
  · rwa [hs, hspan]
  · rwa [hs, hspan]
  · rwa [hl, hspan]
  · rwa [hd, hspan]
  · rwa [hi]
  · simpa only [Machine.bitsRun, hb, hi] using h2
  · rwa [hi]
  · rwa [hi, hspan]
  · rwa [hi]

/-- COMMAND_STATUS is no part of the line. -/
theorem LineKept.setCommandStatus (h : LineKept s) (hl : SameLine s t) (code : Byte) (r : RefusalCode) :
    LineKept (setCommandStatus code r t) := by
  obtain ⟨hline, ⟨m1, m2, m3, m4, m5⟩, ⟨h1, h2, h3, h4, h5⟩⟩ := h.of_same hl
  refine ⟨fun x hx hon => ?_, ⟨m1, m2, m3, m4, m5⟩, ⟨h1, h2, h3, h4, h5⟩⟩
  obtain ⟨l1, l2, l3, l4, l5, l6, l7, l8, l9⟩ := hline x hx hon
  exact ⟨l1, l2, l3, l4, l5, l6, l7, l8, l9⟩

theorem LineKept.owned (h : LineKept s) (hu : Owned c s u) : LineKept u := by
  cases hu with
  | ramWrite => exact h.of_same (.of_sel (by simp))
  | apertureRead _ =>
    obtain ⟨hi, -, -, -, -, -, hc⟩ := apertureReadTaken_frame (apertureAddr _ _ s) _ s
    exact h.of_same (.of_agent (.apertureReadTaken _ _ s) ⟨hi, hc⟩)
  | apertureWrite _ =>
    obtain ⟨hi, -, -, -, hc⟩ := apertureWriteTaken_frame (apertureAddr _ _ s) _ _ s
    exact h.of_same (.of_agent (.apertureWriteTaken _ _ _ s) ⟨hi, hc⟩)
  | status => exact h.setCommandStatus (.refl s) _ _
  | noticePop => exact h.setCommandStatus (.of_sel (t := popNotice s) ⟨rfl, rfl, rfl⟩) _ _
  | clearFault => exact h.setCommandStatus (.of_sel (t := clearFault s) ⟨rfl, rfl, rfl⟩) _ _
  | clearCounters => exact h.setCommandStatus (.of_sel (t := clearCounters s) ⟨rfl, rfl, rfl⟩) _ _
  | clearEvents => exact h.of_same (.of_sel (by simp [clearEvents]))
  | storeEnables => exact h.of_same (.of_sel (by simp [storeEnables]))
  | @storeConfig _ w be d hx =>
    obtain ⟨hset⟩ : Nonempty (LineKept (setConfig (writeConfigWord w be d s.ctl.config) s)) :=
      ⟨h.of_config hx rfl rfl rfl rfl rfl (writeConfigWord_bitDiv _ _ _ _)⟩
    unfold storeConfig configStored
    split
    · split
      · exact hset.of_same (.of_sel (by simp))
      · exact hset
    · exact hset.of_same (.of_sel (by simp))
    · exact hset
  | storeBitDiv hx =>
    unfold storeBitDiv
    split
    · have hoff := h.off (by rw [hx]; rfl)
      refine ⟨fun x hx' hon => ?_, ⟨h.marks.leave, h.marks.fresh, h.marks.heartbeat, h.marks.listen, h.marks.drain⟩, ?_⟩
      · simp [hoff x hx'] at hon
      · constructor <;> simp [Machine.receiverLost]
    · exact h
  | storeTickDiv hx =>
    unfold storeTickDiv
    split
    · exact h.of_config hx rfl rfl rfl rfl rfl rfl
    · exact h
  | readEffect =>
    unfold readEffect
    split
    · split
      · exact h.of_same (.of_sel (by simp))
      · exact h
    · exact h

end Sys2Proof.Machine


/-! ## Every step keeps the line right: every command, and the drain -/

namespace Sys2Proof.Machine

variable {s t u : State} {c : Instr}

theorem SameLine.directoryEventEnd (b : List DirEntry) (s : State) : SameLine s (directoryEventEnd b s) := by
  unfold Machine.directoryEventEnd
  split
  · exact .refl s
  · exact .of_sel (by simp)

theorem SameLine.peerEventEnd (b : List PeerRecord) (s : State) : SameLine s (peerEventEnd b s) := by
  unfold Machine.peerEventEnd
  split
  · exact .of_sel (by simp)
  · exact .refl s

theorem LineKept.drainCheck (h : LineKept s) : LineKept (drainCheck s) := by
  unfold Machine.drainCheck
  split
  next hx =>
    simp only [Bool.and_eq_true, decide_eq_true_eq] at hx
    obtain ⟨m1, m2, m3, m4, m5⟩ := h.marks
    obtain ⟨h1, h2, h3, h4, h5⟩ := h.receiver
    refine ⟨fun x hx hon => ?_, ⟨fun _ => hx.1, m2, m3, m4, by simp⟩, ⟨h1, h2, h3, h4, h5⟩⟩
    obtain ⟨l1, l2, l3, l4, l5, l6, l7, l8, l9⟩ := h.line x hx hon
    exact ⟨l1, l2, l3, l4, l5, l6, l7, l8, l9⟩
  · exact h

theorem LineKept.eventEnd (h : LineKept s) (b : State) : LineKept (eventEnd b s) :=
  (h.of_same ((SameLine.peerEventEnd b.peers s).trans (.directoryEventEnd b.dir.entries _))).drainCheck

theorem LineKept.of_reset (hi : t.iface = SpanInterface.reset) (hs : t.sel = Selector.reset) (hc : t.ctl = StationControl.reset) :
    LineKept t := by
  refine ⟨by simp [hi, SpanInterface.reset], ⟨?_, ?_, ?_, ?_, ?_⟩, ⟨?_, ?_, ?_, ?_, ?_⟩⟩
  all_goals simp [hi, hs, hc, SpanInterface.reset, Selector.reset, StationControl.reset]

theorem isSome_countDown (k : Option Nat) : (countDown k).isSome = k.isSome := Option.isSome_map

theorem LineKept.tickAll (h : LineKept s) : LineKept (tickAll s) := by
  obtain ⟨m1, m2, m3, m4, m5⟩ := h.marks
  obtain ⟨h1, h2, h3, h4, h5⟩ := h.receiver
  refine ⟨fun x hx hon => ?_, ⟨m1, m2, ?_, ?_, ?_⟩, ⟨h1, h2, h3, h4, h5⟩⟩
  · obtain ⟨l1, l2, l3, l4, l5, l6, l7, l8, l9⟩ := h.line x hx hon
    exact ⟨l1, l2, l3, l4, l5, l6, l7, l8, l9⟩
  · show (countDown s.sel.heartbeatTimer).isSome = true ↔ _
    rwa [isSome_countDown]
  · show (countDown s.ctl.listenTimer).isSome = true ↔ _
    rwa [isSome_countDown]
  · show (countDown s.ctl.drainTimer).isSome = true → _
    rwa [isSome_countDown]

theorem LineKept.does (h : LineKept s) (ht : Does c s t) : LineKept t := by
  cases ht with
  | powerOn => exact .of_reset rfl rfl rfl
  | clearEnd => exact h.of_same (.of_sel ⟨rfl, rfl, rfl⟩)
  | pinReset => exact .of_reset rfl rfl rfl
  | port p => exact h.of_same (.of_sel ⟨rfl, rfl, rfl⟩)
  | tick _ => exact h.tickAll
  | event hu => exact (h.effect hu).eventEnd s
  | @command _ _ u hu code p =>
    have hdone := ((h.commanded hu).eventEnd s).setCommandStatus (.refl _) code .none
    exact hdone.of_same (.of_sel ⟨rfl, rfl, rfl⟩)
  | cycle hu p => exact (h.owned hu).of_same (.of_sel ⟨rfl, rfl, rfl⟩)

/-- One bit of a frame on the line passes, and the last one stays (R3, R6). -/
theorem bitPassed_of_onLine {x : Transmission} (hx : onLine x.phase = true) :
    bitPassed x = { x with
      bitsSent := min (x.bitsSent + 1) (10 * x.image.length - 1)
      phase := if 9 ≤ min (x.bitsSent + 1) (10 * x.image.length - 1) then .sending else x.phase } := by
  simp [bitPassed, hx, frameBits, Config.bitsPerByte]

theorem bitPassed_of_breaking {x : Transmission} (hx : onLine x.phase = false) : bitPassed x = x := by
  simp [bitPassed, hx]

/-- A bit time of the own frame on the line (R3, R6). -/
theorem LineKept.idleStep (h : LineKept s) : LineKept (idleStep s) := by
  unfold Machine.idleStep
  split
  · exact h
  next hgo =>
    simp only [Bool.or_eq_true, not_or, Bool.not_eq_true] at hgo
    split
    next x hx =>
      have hout := h.receiver_of_tx hx
      obtain ⟨h1, h2, h3, h4, h5⟩ := h.receiver
      have hr (y : SpanInterface) (hy : y.receiver = s.iface.receiver ∧ y.untaken = s.iface.untaken ∧
          y.fromOffline = s.iface.fromOffline) : ReceiverKept (s.setIface y) := by
        obtain ⟨hy1, hy2, hy3⟩ := hy
        exact ⟨fun hi => absurd (hy1.symm.trans hi) hout, fun hb => hy1.trans (h2 hb), fun hu => by simp [hy2, hgo.2] at hu,
          fun hs => hy2.trans (h4 hs), fun hf => hy2.trans (h5 (hy3.symm.trans hf))⟩
      by_cases hon : onLine x.phase = true
      · obtain ⟨l1, l2, l3, l4, l5, l6, l7, l8, l9⟩ := h.line x hx hon
        have hphase : onLine (bitPassed x).phase = true := by
          rw [bitPassed_of_onLine hon]
          show onLine (if _ then _ else _) = true
          split
          · rfl
          · exact hon
        refine ⟨fun y hy _ => ?_, h.marks.of_same ⟨rfl, rfl⟩, hr _ (by simp [ownBitsReceived, hphase, ownBytesReceived])⟩
        have hy : y = bitPassed x := by simpa [ownBitsReceived, hphase, ownBytesReceived] using hy.symm
        subst hy
        refine ⟨l1, ?_, ?_, ?_, ?_, ?_, ?_, ?_, ?_⟩
        · simpa [bitPassed_of_onLine hon] using l2
        · simpa [bitPassed_of_onLine hon] using l3
        · simpa [ownBitsReceived, hphase, ownBytesReceived] using l4
        · simpa [ownBitsReceived, hphase, ownBytesReceived] using l5
        · simp only [bitPassed_of_onLine hon]
          omega
        · simp only [bitPassed_of_onLine hon]
          by_cases hk : 9 ≤ min (x.bitsSent + 1) (10 * x.image.length - 1)
          · rw [if_pos hk]
            simp only [reduceCtorEq, false_iff]
            omega
          · rw [if_neg hk, l7]
            omega
        · simp [ownBitsReceived, hphase, ownBytesReceived, Config.bitsPerByte]
        · simp [ownBitsReceived, hphase, ownBytesReceived, Config.bitsPerByte, Config.frameBufferSize]
      · have hsame : bitPassed x = x := bitPassed_of_breaking (by simpa using hon)
        rw [hsame, ownBitsReceived, if_neg hon]
        refine h.of_quiet ⟨rfl, rfl⟩ (fun y hy => ?_) (hr _ ⟨rfl, rfl, rfl⟩)
        rw [← Option.some.inj hy]
        simpa using hon
    · exact h

/-! ### The drain (R143) -/

theorem drainSettled_of_not_leaving (h : s.ctl.span ≠ .leaving) : drainSettled s := fun hx => absurd hx h

/-- What changes neither the requests' end, nor the LEAVE mark, nor the drain timer. -/
theorem drainSettled_of_same (h : drainSettled s) (hs : t.ctl.span = s.ctl.span ∧ t.ctl.drainTimer = s.ctl.drainTimer)
    (hl : t.sel.leaveMark = s.sel.leaveMark) (hd : s.ctl.span = .leaving → drained t = true → drained s = true) : drainSettled t := by
  intro hx hdt
  rw [hs.1] at hx
  obtain ⟨hm, ht⟩ := h hx (hd hx hdt)
  exact ⟨hl.trans hm, hs.2.trans ht⟩

theorem drainSettled_drainCheck (s : State) : drainSettled (drainCheck s) := by
  unfold drainCheck
  split
  · exact fun _ _ => ⟨rfl, rfl⟩
  next h => exact fun hx hd => absurd (by simp [hx, hd]) h

theorem drainSettled_eventEnd (b s : State) : drainSettled (eventEnd b s) := drainSettled_drainCheck _

theorem setRead_entries (i : ReadIndex) (e : ReadEntry) (s : State) :
    (setRead i e s).reads.entries = s.reads.entries.set i.toNat e := rfl

theorem freeRead_entries (i : ReadIndex) (s : State) :
    (freeRead i s).reads.entries = s.reads.entries.set i.toNat (ReadEntry.free (readAt i s).incarnation) := rfl

/-- Outside ONLINE a read of the aperture takes an outcome away at most, and so ends no drain. -/
theorem drained_apertureReadTaken (hx : s.ctl.span ≠ .online) (a : GlobalAddr) (be : Enables)
    (hd : drained (apertureReadTaken a be s).next = true) : drained s = true := by
  have hset (i : ReadIndex) (hc : (readAt i s).state = .complete) (e : ReadEntry) (w : State)
      (hw : w.reads.entries = s.reads.entries.set i.toNat e ∧ w.writes = s.writes) (hdw : drained w = true) : drained s = true := by
    simp only [drained, hw.1, hw.2, Bool.and_eq_true, List.all_eq_true] at hdw ⊢
    refine ⟨hdw.1, fun x hxs => ?_⟩
    obtain ⟨k, hk, rfl⟩ := List.mem_iff_getElem.mp hxs
    by_cases hki : i.toNat = k
    · have hat : s.reads.entries[k] = readAt i s := by
        simp [readAt, hki, List.getElem?_eq_getElem hk]
      simp [hat, hc, fetching]
    · exact hdw.2 _ (List.mem_iff_getElem.mpr ⟨k, by simpa using hk, by simp [List.getElem_set_ne hki]⟩)
  unfold apertureReadTaken at hd
  split at hd
  next i _ =>
    split at hd
    next hc =>
      simp only [deliver] at hd
      split at hd
      · split at hd
        · exact hset i hc _ _ ⟨setRead_entries i _ s, by simp⟩ hd
        · exact hset i hc _ _ ⟨freeRead_entries i s, by simp⟩ hd
      · exact hset i hc _ _ ⟨freeRead_entries i s, by simp⟩ hd
    · exact hd
  · rw [newRead_of_not_online hx] at hd
    exact hd

theorem drainSettled_owned (h : drainSettled s) (hu : Owned c s u) : drainSettled u := by
  by_cases hleave : s.ctl.span = .leaving
  · have hoff : s.ctl.span ≠ .offline := by simp [hleave]
    cases hu with
    | apertureRead _ =>
      obtain ⟨-, -, -, -, -, -, hc⟩ := apertureReadTaken_frame (apertureAddr _ _ s) _ s
      refine drainSettled_of_same h (by rw [hc]; exact ⟨rfl, rfl⟩) ?_ fun _ => drained_apertureReadTaken (by simp [hleave]) _ _
      rw [(AgentStep.apertureReadTaken _ _ s).sel]
    | apertureWrite _ =>
      rw [apertureWriteTaken_of_not_online (by simp [hleave])]
      exact h
    | storeConfig hx => exact absurd hx hoff
    | storeBitDiv hx => exact absurd hx hoff
    | storeTickDiv hx => exact absurd hx hoff
    | readEffect =>
      unfold readEffect
      split
      · split
        · exact drainSettled_of_same h (by simp) (by simp) fun _ hd => by simpa [drained] using hd
        · exact h
      · exact h
    | _ => exact h
  · refine drainSettled_of_not_leaving fun hx => hleave ?_
    rw [← hx]
    cases hu with
    | apertureRead _ =>
      obtain ⟨-, -, -, -, -, -, hc⟩ := apertureReadTaken_frame (apertureAddr _ _ s) _ s
      rw [hc]
    | apertureWrite _ =>
      obtain ⟨-, -, -, -, hc⟩ := apertureWriteTaken_frame (apertureAddr _ _ s) _ _ s
      rw [hc]
    | @storeConfig _ w be d _ =>
      have hctl : (storeConfig w be d s).ctl.span = s.ctl.span := by
        unfold storeConfig configStored
        split
        · split <;> simp [setConfig]
        · simp [setConfig]
        · rfl
      exact hctl.symm
    | storeBitDiv _ =>
      unfold storeBitDiv
      split <;> rfl
    | storeTickDiv _ =>
      unfold storeTickDiv
      split <;> rfl
    | readEffect =>
      unfold readEffect
      split
      · split <;> simp
      · rfl
    | _ => rfl

theorem drained_tickAll (s : State) : drained (tickAll s) = drained s := by
  simp [drained, tickAll, tickControl, tickPeers, tickSelector, tickWrites, tickReads, setQueue, List.all_map, Function.comp_def]

theorem drainSettled_does (hk : WellKept s) (ht : Does c s t) : drainSettled t := by
  have h := hk.drain
  cases ht with
  | powerOn => exact drainSettled_of_not_leaving (by simp [powerOnState, State.reset, StationControl.reset])
  | clearEnd => exact h
  | pinReset => exact drainSettled_of_not_leaving (by simp [pinResetState, State.reset, StationControl.reset])
  | port p => exact h
  | tick _ =>
    intro hx hd
    obtain ⟨hl, ht⟩ := h hx ((drained_tickAll s).symm.trans hd)
    exact ⟨hl, show countDown s.ctl.drainTimer = none by rw [ht]; rfl⟩
  | event hu => exact drainSettled_eventEnd _ _
  | @command _ _ u hu code p =>
    have hended := drainSettled_eventEnd s u
    generalize eventEnd s u = v at hended
    exact hended
  | @cycle _ _ u hu p =>
    have hdone : drainSettled u := drainSettled_owned h hu
    exact hdone

/-- Settles O53: `LineKept` is kept by every way in which a command makes a next state, and every event ends with the drain condition
examined. -/
theorem stepKeepsSilenceAndMarks : Obligations.StepKeepsSilenceAndMarks := by
  intro s t hs ht
  have hline : LineKept t := of_step hs ht hs.lineKept.idleStep fun c u hu hd => hu.lineKept.does hd
  have hdrain : drainSettled t := by
    refine of_step hs ht ?_ fun c u hu hd => drainSettled_does hu hd
    obtain ⟨x, hx, -⟩ := idleStep_eq s
    rw [hx]
    exact hs.drain
  obtain ⟨h1, h2, h3, h4⟩ := hline.statement
  exact ⟨h1, h2, h3, h4, hdrain⟩

end Sys2Proof.Machine


/-! ## Nothing that the event unit holds is lost but to the host and to a reset (R166, R168, R170) -/

namespace Sys2Proof.Machine

variable {s t u : State} {c : Instr}

/-! ### The directory, the peer table and the responder -/

theorem EvKept.foldl {α : Type} {f : State → α → State} (h : ∀ s a, EvKept s.ev (f s a).ev) :
    ∀ (l : List α) (s : State), EvKept s.ev (l.foldl f s).ev
  | [], s => .refl s.ev
  | a :: l, s => (h s a).trans (EvKept.foldl h l (f s a))

theorem EvKept.eclipse (n : RegionIndex) (s : State) : EvKept s.ev (eclipse n s).ev := .raise .eclipse (setStatus n .eclipsed s)

theorem EvKept.refuseConflict (s : State) : EvKept s.ev (refuseConflict s).ev :=
  (EvKept.count .refusedRegions 1 s).trans (.raise .conflict _)

theorem EvKept.refuseCapacity (s : State) : EvKept s.ev (refuseCapacity s).ev :=
  (EvKept.count .refusedRegions 1 s).trans (.raise .directory _)

theorem EvKept.evictFor (e : DirEntry) (s : State) : EvKept s.ev (evictFor e s).ev := by
  have hfold (v : State) (l : List DirEntry) : EvKept v.ev (l.foldl eclipseEvicted v).ev := .foldl (fun w g => by
    unfold eclipseEvicted
    split
    · exact .eclipse _ w
    · exact .refl w.ev) l v
  exact (EvKept.raise .conflict (s.setDir { s.dir with entries := s.dir.entries.filter (fun g => !dirOverlaps e g) })).trans (hfold _ _)

theorem EvKept.place (e : DirEntry) (s : State) : EvKept s.ev (place e s).ev := by
  unfold Machine.place
  split
  · exact .refl s.ev
  · exact .evictFor e s
  · exact .refuseConflict s
  · exact .refuseCapacity s

theorem EvKept.placeListed (n : Station) (gs : List RegionGroup) :
    ∀ (earlier : List DirEntry) (s : State), EvKept s.ev (placeListed n gs earlier s).ev := by
  induction gs with
  | nil => exact fun _ s => .refl s.ev
  | cons g gs ih =>
    intro earlier s
    refine EvKept.trans ?_ (ih _ _)
    split
    · exact .refuseConflict s
    · exact .place _ s

theorem EvKept.placeOwn (s : State) (n : RegionIndex) : EvKept s.ev (placeOwn s n).ev := by
  unfold Machine.placeOwn
  split
  · split
    · exact .place _ s
    · exact (EvKept.place _ s).trans (.eclipse n _)
  · exact .refl s.ev

theorem EvKept.returnRule (s : State) : EvKept s.ev (returnRule s).ev := by
  have hfold : EvKept s.ev (allRegionIndexes.foldl returnRegion s).ev := .foldl (fun v n => by
    unfold returnRegion
    split
    · exact .raise .eclipse (setStatus n .entered (insertEntry (ownEntry n v) v))
    · exact .refl v.ev) _ s
  unfold Machine.returnRule
  split
  · refine hfold.trans (.of_eq ?_)
    unfold requestIfReturned
    split <;> simp
  · exact .refl s.ev

theorem EvKept.takeAnnounce (f : Frame) (interval : Byte) (gs : List RegionGroup) (s : State) :
    EvKept s.ev (takeAnnounce f interval gs s).ev := by
  have hasked (v : State) : EvKept v.ev (if f.fresh && decide (v.ctl.span = .online) then requestAnnounce v else v).ev := by
    refine .of_eq ?_
    split <;> simp
  have hregions (v : State) : EvKept v.ev (takeRegions f.src gs v).ev := by
    unfold takeRegions
    split
    · exact (EvKept.placeListed f.src gs [] (removeOwner f.src v)).trans (.returnRule _)
    · exact .refl v.ev
  have hrecord : EvKept s.ev (if f.fresh then takeFresh f.src (takeInterval f.src interval s) else takeInterval f.src interval s).ev := by
    refine .of_eq ?_
    split <;> simp
  exact (hrecord.trans (hregions _)).trans (hasked _)

theorem EvKept.losePeer (n : Station) (s : State) : EvKept s.ev (losePeer n s).ev := by
  have hloses : EvKept s.ev (directoryLoses n (setPeer n (lostRecord (peerOf n s)) s)).ev :=
    (EvKept.of_eq (by simp)).trans (.returnRule (removeOwner n (setPeer n (lostRecord (peerOf n s)) s)))
  exact hloses.trans (AgentStep.agentsLose n _).ev

theorem EvKept.dropRequest (s : State) : EvKept s.ev (dropRequest s).ev :=
  (EvKept.count .overrun 1 s).trans (.raise .overrun _)

theorem EvKept.takeReadReq (n : Station) (tag : Byte) (a : GlobalAddr) (len : Nat) (s : State) :
    EvKept s.ev (takeReadReq n tag a len s).ev := by
  unfold Machine.takeReadReq
  split
  · exact .refl s.ev
  split
  · exact .dropRequest s
  · split <;> exact .refl s.ev

theorem EvKept.takeWrite (n : Station) (tag : Byte) (a : GlobalAddr) (data : List Byte) (x : Bool) (s : State) :
    EvKept s.ev (takeWrite n tag a data x s).ev := by
  unfold Machine.takeWrite
  split
  · exact .refl s.ev
  split
  · exact .dropRequest s
  refine .of_eq ?_
  repeat' split
  all_goals simp

theorem EvKept.frameContent (f : Frame) (s : State) : EvKept s.ev (frameContent f s).ev := by
  unfold Machine.frameContent
  split
  · exact (AgentStep.takeReadRsp _ _ _ s).ev
  · exact (AgentStep.takeWriteAck _ _ s).ev
  · split
    · exact (AgentStep.takeWriteNack _ _ _ s).ev
    · exact (AgentStep.takeReadNack _ _ _ s).ev
  · exact .takeReadReq _ _ _ _ s
  · exact .takeWrite _ _ _ _ _ s
  · exact .refl s.ev
  · exact .takeAnnounce f _ _ s
  · unfold takeLeave
    split
    · exact .losePeer _ s
    · exact .refl s.ev

/-! ### The life of the station -/

theorem EvKept.setSpan (x : SpanState) (s : State) : EvKept s.ev (setSpan x s).ev := by
  unfold Machine.setSpan
  split
  · exact .refl s.ev
  · exact .raise .span (s.setCtl { s.ctl with span := x })

theorem EvKept.purgeAll (s : State) : EvKept s.ev (purgeAll s).ev := by
  have hdir : EvKept s.ev (emptyDirectory s).ev := by
    simp only [emptyDirectory]
    split
    · exact .raise .eclipse (s.setDir _)
    · exact .refl s.ev
  exact hdir.trans (.of_eq (by simp [Machine.purgeAll, clearPeers, clearSelector]))

theorem EvKept.enterStopped (cause : StopCause) (s : State) : EvKept s.ev (enterStopped cause s).ev :=
  (EvKept.purgeAll s).trans (.setSpan .stopped (setStopCause (some cause) (Machine.purgeAll s)))

theorem EvKept.enterOffline (s : State) : EvKept s.ev (enterOffline s).ev := by
  unfold Machine.enterOffline
  split
  · exact .refl s.ev
  · exact (EvKept.purgeAll (cut s)).trans (.setSpan .offline (setStopCause none (Machine.purgeAll (cut s))))

theorem EvKept.frameArrives (bytes : List Byte) (f : Frame) (s : State) : EvKept s.ev (frameArrives bytes f s).ev := by
  have ht : EvKept s.ev (frameTaken bytes s).ev := .of_eq (by unfold frameTaken; split <;> simp)
  have hheard : EvKept s.ev (hear f.src (frameTaken bytes s)).ev := ht.trans (.of_eq (by simp))
  simp only [Machine.frameArrives]
  split
  · exact ht
  split
  · split
    · exact ht
    · unfold takeClash
      split
      · exact ht.trans (.enterStopped .clash _)
      · exact ht
  split
  · exact hheard.trans (.frameContent f _)
  · exact hheard

theorem EvKept.itemSent (x : Offered) (s : State) : EvKept s.ev (itemSent x s).ev := by
  cases x with
  | response r => exact .of_eq (by simp [Machine.itemSent])
  | leave => exact .enterOffline (s.setSel { s.sel with leaveMark := false })
  | announce fresh copy =>
    cases fresh with
    | false => exact .refl s.ev
    | true =>
      simp only [Machine.itemSent, announceSent, freshSent, if_true]
      split
      · exact .setSpan .online s
      · exact .refl s.ev
  | heartbeat => exact .refl s.ev
  | request y =>
    cases y with
    | read i inc => exact ((AgentStep.unreadyItem _ s).trans (.readSent i inc _)).ev
    | write k => exact ((AgentStep.unreadyItem _ s).trans (.writeSent k _)).ev

theorem EvKept.breakOutcome (b : BreakCause) (s : State) : EvKept s.ev (breakOutcome b s).ev := by
  cases b with
  | failure =>
    have hcount : EvKept s.ev (countFailure (Machine.count .txFail 1 s)).ev := .count .txFail 1 s
    simp only [Machine.breakOutcome, stopIfFailing]
    split
    · exact hcount.trans (.enterStopped .txFailures _)
    · exact hcount
  | failureThenOffline => exact .count .txFail 1 s
  | cut => exact .refl s.ev

theorem EvKept.listenEnds (s : State) : EvKept s.ev (listenEnds s).ev := by
  have hspan := EvKept.setSpan .announcing (s.setCtl { s.ctl with listenTimer := none })
  have hplaced (v : State) : EvKept v.ev (placeOwnRegions v).ev := .foldl EvKept.placeOwn allRegionIndexes v
  have hev : (Machine.listenEnds s).ev =
      (placeOwnRegions (Machine.setSpan .announcing (s.setCtl { s.ctl with listenTimer := none }))).ev := by
    simp [Machine.listenEnds]
  rw [hev]
  exact EvKept.trans hspan (hplaced _)

theorem EvKept.eventEnd (b s : State) : EvKept s.ev (eventEnd b s).ev := by
  have hpeers : EvKept s.ev (peerEventEnd b.peers s).ev := by
    unfold peerEventEnd
    split
    · exact .raise .peer (s.setPeers _)
    · exact .refl s.ev
  have hdir (v : State) : EvKept v.ev (directoryEventEnd b.dir.entries v).ev := by
    unfold directoryEventEnd
    split
    · exact .refl v.ev
    · exact .raise .directory (v.setDir _)
  have hdrain (v : State) : EvKept v.ev (drainCheck v).ev := by
    unfold drainCheck
    split <;> exact .refl v.ev
  exact (hpeers.trans (hdir _)).trans (hdrain _)

/-! ### Every command -/

theorem EvKept.effect (hu : Effect c s u) : EvKept s.ev u.ev := by
  cases hu with
  | attemptBegin _ =>
    unfold beginAttempt
    split <;> exact .of_eq (by simp)
  | attemptLost _ _ => exact .count .arbLost 1 (s.setIface _)
  | readbackMismatch _ _ => exact .refl s.ev
  | breakEnd _ _ =>
    have hlost : EvKept s.ev (receiverLost (setTx none s)).ev := .refl s.ev
    unfold endBreak
    split
    · split
      · exact hlost.trans (.breakOutcome _ _)
      · exact .refl s.ev
    · exact .refl s.ev
  | attemptSent _ _ =>
    unfold endSent
    split
    next x _ =>
      have hsent : EvKept s.ev (heartbeatSent (s.setIface
          (ownBytesReceived x.image x.image.length { s.iface with tx := none, lossCount := 0, failCount := 0 }))).ev := .refl s.ev
      exact hsent.trans (.itemSent x.item _)
    · exact .refl s.ev
  | frameBroken _ _ =>
    unfold breakFrame
    split
    · exact .refl s.ev
    · exact .count .rxBroken 1 (receiverLost s)
  | frameFormatError _ =>
    have ht (l : List Byte) : EvKept s.ev (frameTaken l s).ev := .of_eq (by unfold frameTaken; split <;> simp)
    unfold discardFrame
    split
    · exact ht _
    · exact (ht []).trans (.count .rxError 1 _)
  | clashReport _ _ _ => exact .frameArrives _ _ s
  | frame _ _ _ => exact .frameArrives _ _ s
  | @readResponseTimeout _ i _ =>
    unfold readTimedOut
    split
    · exact (AgentStep.makeReady i s).ev
    · exact (AgentStep.failRead .noAnswer s i).ev.trans (.of_eq (by simp))
  | @discardExpiry _ i _ =>
    unfold discardRead
    split
    · exact (AgentStep.freeRead i s).ev
    · exact ((AgentStep.freeRead i s).ev.trans (.count .discards 1 _)).trans (.raise .discard _)
  | @writeResponseTimeout _ w _ _ _ =>
    unfold headTimedOut
    split
    · exact (AgentStep.readyHead w s).ev
    · have hdrop : EvKept s.ev (markSilent w.dest (dropHead w .noAnswer s)).ev :=
        (AgentStep.dropHead w .noAnswer s).ev.trans (.of_eq (by simp))
      exact hdrop.trans (AgentStep.headGone _).ev
  | @holdExpiry _ w _ _ _ => exact (AgentStep.readyHead w s).ev
  | heartbeatTimerExpiry _ => exact .refl s.ev
  | listenTimerExpiry _ => exact .listenEnds s
  | drainTimerExpiry _ => exact (AgentStep.drainAgents s).ev
  | @silenceLimit _ n _ =>
    have hsilent : (markSilent n s).ev = s.ev := by simp
    exact .of_eq hsilent
  | absenceLimit _ => exact .losePeer _ s
  | idleFound _ =>
    unfold foundIdle
    split <;> exact .refl s.ev
  | startBitConfirmed _ _ => exact .refl s.ev
  | ownFrameEnd _ _ _ => exact .refl s.ev

theorem EvKept.commanded (hu : Commanded c s u) : EvKept s.ev u.ev := by
  cases hu with
  | join _ _ => exact .setSpan .listening (markWaiting (s.setCtl { s.ctl with listenTimer := some (listenTicks s.ctl.config) }))
  | leaveOnline _ => exact .setSpan .leaving (s.setCtl { s.ctl with drainTimer := some drainTicks })
  | leaveJoining _ => exact .enterOffline s
  | restart => exact .enterOffline s

theorem ev_storeConfig (w : ConfigWord) (be : Enables) (d : Word) (s : State) : (storeConfig w be d s).ev = s.ev := by
  unfold storeConfig configStored setConfig
  split
  · split <;> simp
  all_goals simp

theorem ev_readEffect (area : Area) (be : Enables) (s : State) : (readEffect area be s).ev = s.ev := by
  unfold readEffect
  split
  · split <;> simp
  · rfl

/-- Settles O58: each event only adds to the event unit, and of the cycles CLEAR_FAULT, CLEAR_COUNTERS and the write of EVENT_FLAGS
take away one part each. -/
theorem eventsAreKept : Obligations.EventsAreKept := by
  intro c s t ht hpower hpin
  have hall (h : EvKept s.ev t.ev) : ((∀ hi, c ≠ .clearFault hi) → ∀ r, s.ev.fault = some r →
        t.ev.fault = some r ∨ t.ev.fault = some { r with overflow := true }) ∧
      ((∀ be d, c ≠ .eventFlagsWrite be d) → flagsOf t.ev.flags = flagsOf t.ev.flags ||| flagsOf s.ev.flags) ∧
      ((∀ hi, c ≠ .clearCounters hi) → ∀ k, (counterOf s.ev.counters k).toNat ≤ (counterOf t.ev.counters k).toNat) :=
    ⟨fun _ => h.fault, fun _ => h.flags, fun _ => h.counters⟩
  cases exec_does ht with
  | powerOn => exact absurd rfl hpower
  | clearEnd => exact hall (.refl s.ev)
  | pinReset => exact absurd rfl hpin
  | port p => exact hall (.refl s.ev)
  | tick _ => exact hall (.refl s.ev)
  | event hu => exact hall ((EvKept.effect hu).trans (.eventEnd s _))
  | @command _ _ u hu code p =>
    have hended := (EvKept.commanded hu).trans (.eventEnd s u)
    generalize eventEnd s u = v at hended hall
    exact hall hended
  | cycle hu p =>
    cases hu with
    | clearFault => exact ⟨fun h => absurd rfl (h _), fun _ => BitVec.or_self.symm, fun _ _ => le_rfl⟩
    | clearCounters => exact ⟨fun _ _ h => .inl h, fun _ => BitVec.or_self.symm, fun h => absurd rfl (h _)⟩
    | clearEvents => exact ⟨fun _ _ h => .inl h, fun h => absurd rfl (h _ _), fun _ _ => le_rfl⟩
    | apertureRead _ => exact hall (AgentStep.apertureReadTaken _ _ s).ev
    | apertureWrite _ => exact hall (AgentStep.apertureWriteTaken _ _ _ s).ev
    | storeConfig _ => exact hall (.of_eq (ev_storeConfig _ _ _ s))
    | storeBitDiv _ => exact hall (.of_eq (by unfold storeBitDiv; split <;> simp [setConfig]))
    | storeTickDiv _ => exact hall (.of_eq (by unfold storeTickDiv; split <;> simp))
    | readEffect => exact hall (.of_eq (ev_readEffect _ _ s))
    | storeEnables => exact hall ⟨fun _ h => .inl h, BitVec.or_self.symm, fun _ => le_rfl⟩
    | _ => exact hall (.refl s.ev)

end Sys2Proof.Machine


/-! ## What the end of an event marks, and what an event leaves to it (R20, R120) -/

namespace Sys2Proof.Machine

variable {s t u : State} {c : Instr}

/-! ### Before the end of an event nothing is marked -/

/-- The generation, the number of peer records and the configuration are those of `s`. -/
structure Unmarked (s t : State) : Prop where
  generation : t.dir.generation = s.dir.generation
  records : t.peers.length = s.peers.length
  config : t.ctl.config = s.ctl.config

theorem Unmarked.of_same (h : t.dir.generation = s.dir.generation ∧ t.peers = s.peers ∧ t.ctl.config = s.ctl.config) : Unmarked s t :=
  ⟨h.1, by rw [h.2.1], h.2.2⟩

theorem Unmarked.refl (s : State) : Unmarked s s := .of_same ⟨rfl, rfl, rfl⟩

theorem Unmarked.trans (h : Unmarked s t) (h' : Unmarked t u) : Unmarked s u :=
  ⟨h'.generation.trans h.generation, h'.records.trans h.records, h'.config.trans h.config⟩

theorem Unmarked.foldl {α : Type} {f : State → α → State} (h : ∀ s a, Unmarked s (f s a)) :
    ∀ (l : List α) (s : State), Unmarked s (l.foldl f s)
  | [], s => .refl s
  | a :: l, s => (h s a).trans (Unmarked.foldl h l (f s a))

theorem Unmarked.setPeer (n : Station) (r : PeerRecord) (s : State) : Unmarked s (setPeer n r s) :=
  ⟨by simp, by simp, by simp⟩

theorem Unmarked.evictFor (e : DirEntry) (s : State) : Unmarked s (evictFor e s) := by
  have hfold (v : State) (l : List DirEntry) : Unmarked v (l.foldl eclipseEvicted v) := .foldl (fun w g => by
    unfold eclipseEvicted
    split
    · exact .of_same (by simp [eclipse, setStatus, raise])
    · exact .refl w) l v
  have hgone : Unmarked s
      (raise .conflict (s.setDir { s.dir with entries := s.dir.entries.filter (fun g => !dirOverlaps e g) })) :=
    .of_same (by simp [raise])
  exact hgone.trans (hfold _ _)

theorem Unmarked.insertEntry (e : DirEntry) (s : State) : Unmarked s (insertEntry e s) := .of_same ⟨rfl, rfl, rfl⟩

theorem Unmarked.place (e : DirEntry) (s : State) : Unmarked s (place e s) := by
  unfold Machine.place
  split
  · exact .insertEntry e s
  · exact (Unmarked.evictFor e s).trans (.insertEntry e _)
  · exact .of_same ⟨rfl, rfl, rfl⟩
  · exact .of_same ⟨rfl, rfl, rfl⟩

theorem Unmarked.placeListed (n : Station) (gs : List RegionGroup) :
    ∀ (earlier : List DirEntry) (s : State), Unmarked s (placeListed n gs earlier s) := by
  induction gs with
  | nil => exact fun _ s => .refl s
  | cons g gs ih =>
    intro earlier s
    refine Unmarked.trans ?_ (ih _ _)
    split
    · exact .of_same ⟨rfl, rfl, rfl⟩
    · exact .place _ s

theorem Unmarked.placeOwn (s : State) (n : RegionIndex) : Unmarked s (placeOwn s n) := by
  have hstatus (x : OwnStatus) (v : State) : Unmarked v (setStatus n x v) := .of_same ⟨rfl, rfl, rfl⟩
  unfold Machine.placeOwn
  split
  · split
    · exact (Unmarked.place _ s).trans (hstatus .entered _)
    · exact (Unmarked.place _ s).trans (Unmarked.trans (hstatus .eclipsed _) (.of_same ⟨rfl, rfl, rfl⟩))
  · exact .refl s

theorem Unmarked.returnRule (s : State) : Unmarked s (returnRule s) := by
  have hfold : Unmarked s (allRegionIndexes.foldl returnRegion s) := .foldl (fun v n => by
    unfold returnRegion
    split
    · exact .of_same ⟨rfl, rfl, rfl⟩
    · exact .refl v) _ s
  unfold Machine.returnRule
  split
  · refine hfold.trans ?_
    unfold requestIfReturned
    split
    · exact .of_same (by simp)
    · exact .refl _
  · exact .refl s

theorem Unmarked.hear (n : Station) (s : State) : Unmarked s (hear n s) := by
  unfold Machine.hear
  split
  · exact .setPeer n _ s
  · exact .refl s

theorem Unmarked.takeAnnounce (f : Frame) (interval : Byte) (gs : List RegionGroup) (s : State) :
    Unmarked s (takeAnnounce f interval gs s) := by
  have hasked (v : State) : Unmarked v (if f.fresh && decide (v.ctl.span = .online) then requestAnnounce v else v) :=
    .of_same (by split <;> simp)
  have hregions (v : State) : Unmarked v (takeRegions f.src gs v) := by
    unfold takeRegions
    split
    · have hgone : Unmarked v (removeOwner f.src v) := .of_same ⟨rfl, rfl, rfl⟩
      exact (hgone.trans (.placeListed f.src gs [] _)).trans (.returnRule _)
    · exact .refl v
  have hinterval (v : State) : Unmarked v (takeInterval f.src interval v) := by
    unfold takeInterval
    split
    · exact .setPeer _ _ v
    · exact .refl v
  have hfresh (v : State) : Unmarked v (takeFresh f.src v) := by
    unfold takeFresh
    split
    · exact .setPeer _ _ v
    · exact .refl v
  have hrecord : Unmarked s (if f.fresh then takeFresh f.src (takeInterval f.src interval s) else takeInterval f.src interval s) := by
    split
    · exact (hinterval s).trans (hfresh _)
    · exact hinterval s
  exact (hrecord.trans (hregions _)).trans (hasked _)

theorem Unmarked.losePeer (n : Station) (s : State) : Unmarked s (losePeer n s) := by
  have hloses : Unmarked s (directoryLoses n (Machine.setPeer n (lostRecord (peerOf n s)) s)) := by
    have hgone : Unmarked s (removeOwner n (Machine.setPeer n (lostRecord (peerOf n s)) s)) :=
      (Unmarked.setPeer n _ s).trans (.of_same ⟨rfl, rfl, rfl⟩)
    exact hgone.trans (.returnRule _)
  exact hloses.trans (.of_same (by simp [Machine.losePeer]))

theorem Unmarked.takeWrite (n : Station) (tag : Byte) (a : GlobalAddr) (data : List Byte) (x : Bool) (s : State) :
    Unmarked s (takeWrite n tag a data x s) := by
  unfold Machine.takeWrite
  split
  · exact .refl s
  split
  · exact .of_same ⟨rfl, rfl, rfl⟩
  split
  · exact .of_same ⟨rfl, rfl, rfl⟩
  · exact .of_same ⟨rfl, rfl, rfl⟩
  split
  · exact .of_same ⟨rfl, rfl, rfl⟩
  split
  · exact .of_same ⟨rfl, rfl, rfl⟩
  split
  · exact .of_same ⟨rfl, rfl, rfl⟩
  · rename_i l _ _ _ _
    have hset := Unmarked.setPeer n { peerOf n s with lastApplied := some tag } (ramWrite l data s)
    refine ⟨?_, ?_, ?_⟩
    all_goals simp only [applyWrite]; split
    · exact hset.generation
    · exact hset.generation
    · exact hset.records
    · exact hset.records
    · exact hset.config
    · exact hset.config

theorem Unmarked.frameContent (f : Frame) (s : State) : Unmarked s (frameContent f s) := by
  unfold Machine.frameContent
  split
  · exact .of_same (by simp)
  · exact .of_same (by simp)
  · split <;> exact .of_same (by simp)
  · exact .of_same (by simp)
  · exact .takeWrite _ _ _ _ _ s
  · exact .refl s
  · exact .takeAnnounce f _ _ s
  · unfold takeLeave
    split
    · exact .losePeer _ s
    · exact .refl s

theorem Unmarked.setSpan (x : SpanState) (s : State) : Unmarked s (setSpan x s) :=
  .of_same ⟨by simp, by simp, by simp [setSpan_ctl]⟩

theorem Unmarked.purged (x : SpanState) (cause : Option StopCause) (s : State) :
    Unmarked s (Machine.setSpan x (setStopCause cause (purgeAll s))) := by
  refine Unmarked.trans ?_ (.setSpan x _)
  have hdir : (emptyDirectory s).dir.generation = s.dir.generation := by
    simp only [emptyDirectory]
    split <;> rfl
  exact ⟨by simpa [purgeAll, setStopCause] using hdir, by simp [purgeAll, clearPeers], by simp [setStopCause, purgeAll_ctl]⟩

theorem Unmarked.enterOffline (s : State) : Unmarked s (enterOffline s) := by
  unfold Machine.enterOffline
  split
  · exact .refl s
  · exact Unmarked.trans (.of_same (by simp [cut])) (.purged .offline none (cut s))

theorem Unmarked.enterStopped (cause : StopCause) (s : State) : Unmarked s (enterStopped cause s) := .purged .stopped (some cause) s

theorem Unmarked.frameArrives (bytes : List Byte) (f : Frame) (s : State) : Unmarked s (frameArrives bytes f s) := by
  have ht : Unmarked s (frameTaken bytes s) := .of_same (by unfold frameTaken; split <;> simp)
  have hheard := ht.trans (.hear f.src _)
  simp only [Machine.frameArrives]
  split
  · exact ht
  split
  · split
    · exact ht
    · unfold takeClash
      split
      · exact ht.trans (.enterStopped .clash _)
      · exact ht
  split
  · exact hheard.trans (.frameContent f _)
  · exact hheard

theorem Unmarked.itemSent (x : Offered) (s : State) : Unmarked s (itemSent x s) := by
  cases x with
  | response r => exact .of_same (by simp [Machine.itemSent])
  | leave =>
    have hmark : Unmarked s (s.setSel { s.sel with leaveMark := false }) := .of_same ⟨rfl, rfl, rfl⟩
    exact hmark.trans (.enterOffline _)
  | announce fresh copy =>
    cases fresh with
    | false => exact .of_same ⟨rfl, rfl, rfl⟩
    | true =>
      simp only [Machine.itemSent, announceSent, freshSent, if_true]
      split
      · exact (Unmarked.setSpan .online s).trans (.of_same ⟨rfl, rfl, rfl⟩)
      · exact .of_same ⟨rfl, rfl, rfl⟩
  | heartbeat => exact .refl s
  | request y => cases y <;> exact .of_same (by simp [Machine.itemSent])

theorem Unmarked.markSilent (n : Station) (s : State) : Unmarked s (markSilent n s) := by
  unfold Machine.markSilent
  split
  · exact .setPeer n _ s
  · exact .refl s

theorem Unmarked.listenEnds (s : State) : Unmarked s (listenEnds s) := by
  have hplaced (v : State) : Unmarked v (placeOwnRegions v) := .foldl Unmarked.placeOwn allRegionIndexes v
  have hopen : Unmarked s (Machine.setSpan .announcing (s.setCtl { s.ctl with listenTimer := none })) :=
    .of_same ⟨by simp, by simp, by simp [setSpan_ctl]⟩
  exact (hopen.trans (hplaced _)).trans (.of_same (by simp [Machine.listenEnds]))

theorem Unmarked.endBreak (s : State) : Unmarked s (endBreak s) := by
  unfold Machine.endBreak
  split
  · split
    next b _ =>
      have hcount (v : State) : Unmarked v (countFailure (count .txFail 1 v)) := .of_same ⟨rfl, rfl, rfl⟩
      have hlost : Unmarked s (receiverLost (setTx none s)) := .of_same ⟨rfl, rfl, rfl⟩
      cases b with
      | failure =>
        simp only [breakOutcome, stopIfFailing]
        split
        · exact (hlost.trans (hcount _)).trans (.enterStopped _ _)
        · exact hlost.trans (hcount _)
      | failureThenOffline => exact .of_same ⟨rfl, rfl, rfl⟩
      | cut => exact hlost
    · exact .refl s
  · exact .refl s

theorem Unmarked.effect (hu : Effect c s u) : Unmarked s u := by
  cases hu with
  | attemptBegin _ =>
    unfold beginAttempt
    split <;> exact .of_same ⟨rfl, rfl, rfl⟩
  | attemptLost _ _ => exact .of_same ⟨rfl, rfl, rfl⟩
  | readbackMismatch _ _ => exact .of_same ⟨rfl, rfl, rfl⟩
  | breakEnd _ _ => exact .endBreak s
  | attemptSent _ _ =>
    unfold endSent
    split
    next x _ =>
      have hsent : Unmarked s (heartbeatSent (s.setIface
          (ownBytesReceived x.image x.image.length { s.iface with tx := none, lossCount := 0, failCount := 0 }))) :=
        .of_same ⟨rfl, rfl, rfl⟩
      exact hsent.trans (.itemSent x.item _)
    · exact .refl s
  | frameBroken _ _ =>
    unfold breakFrame
    split <;> exact .of_same ⟨rfl, rfl, rfl⟩
  | frameFormatError _ =>
    unfold discardFrame frameTaken
    repeat' split
    all_goals exact .of_same ⟨rfl, rfl, rfl⟩
  | clashReport _ _ _ => exact .frameArrives _ _ s
  | frame _ _ _ => exact .frameArrives _ _ s
  | @readResponseTimeout _ i _ =>
    unfold readTimedOut
    split
    · exact .of_same ⟨rfl, rfl, rfl⟩
    · have hfail : Unmarked s (failRead .noAnswer s i) := .of_same (by simp)
      exact hfail.trans (.markSilent _ _)
  | @discardExpiry _ i _ =>
    unfold discardRead
    split <;> exact .of_same ⟨rfl, rfl, rfl⟩
  | @writeResponseTimeout _ w _ _ _ =>
    unfold headTimedOut
    split
    · exact .of_same ⟨rfl, rfl, rfl⟩
    · have hdrop : Unmarked s (dropHead w .noAnswer s) := .of_same ⟨rfl, rfl, rfl⟩
      exact (hdrop.trans (.markSilent w.dest _)).trans (.of_same (by simp))
  | @holdExpiry _ w _ _ _ => exact .of_same ⟨rfl, rfl, rfl⟩
  | heartbeatTimerExpiry _ => exact .of_same ⟨rfl, rfl, rfl⟩
  | listenTimerExpiry _ => exact .listenEnds s
  | drainTimerExpiry _ =>
    obtain ⟨hd, hp, hc⟩ := drainAgents_frame s
    exact .of_same ⟨by rw [hd], hp, by rw [hc]⟩
  | silenceLimit _ => exact .markSilent _ s
  | absenceLimit _ => exact .losePeer _ s
  | idleFound _ =>
    unfold foundIdle
    split <;> exact .of_same ⟨rfl, rfl, rfl⟩
  | startBitConfirmed _ _ => exact .of_same ⟨rfl, rfl, rfl⟩
  | ownFrameEnd _ _ _ => exact .of_same ⟨rfl, rfl, rfl⟩

theorem Unmarked.commanded (hu : Commanded c s u) : Unmarked s u := by
  cases hu with
  | join _ _ => exact .of_same ⟨by simp [startListening, markWaiting], by simp [startListening, markWaiting],
      by simp [startListening, setSpan_ctl, markWaiting]⟩
  | leaveOnline _ => exact .of_same ⟨by simp [startLeaving], by simp [startLeaving], by simp [startLeaving, setSpan_ctl]⟩
  | leaveJoining _ => exact .enterOffline s
  | restart => exact .enterOffline s

/-! ### The marks of an event -/

theorem eventEnd_config (b s : State) : (eventEnd b s).ctl.config = s.ctl.config := by
  obtain ⟨-, -, -, -, -, -, h, -⟩ := eventEnd_kept b s
  exact h

/-- The generation rises with DIRECTORY exactly where the content has changed (R20). -/
theorem eventEnd_marks_content (b : State) (hg : s.dir.generation = b.dir.generation) :
    if (eventEnd b s).dir.entries = b.dir.entries then (eventEnd b s).dir.generation = b.dir.generation
    else (eventEnd b s).dir.generation = b.dir.generation + 1 ∧ (eventEnd b s).ev.flags.directory = true := by
  have hpeers : (peerEventEnd b.peers s).dir = s.dir := by simp
  have hdrain (v : State) : (drainCheck v).dir = v.dir ∧ (drainCheck v).ev = v.ev := by simp
  unfold eventEnd
  rw [(hdrain _).1, (hdrain _).2]
  unfold directoryEventEnd
  rw [hpeers]
  by_cases he : s.dir.entries = b.dir.entries
  · simp [he, hg]
  · simp [he, hg, raise, setFlag]

/-- A record whose presence an event changes has its changed mark and PEER set (R120). -/
theorem eventEnd_marks_presence {b : State} (hl : b.peers.length = s.peers.length) (n : Station)
    (hn : (peerOf n (eventEnd b s)).presence ≠ (peerOf n b).presence) :
    (peerOf n (eventEnd b s)).changed = true ∧ (eventEnd b s).ev.flags.peer = true := by
  have hmoved : (peerOf n b).presence ≠ (peerOf n s).presence := fun h => hn ((peerOf_eventEnd hl n).1.trans h.symm)
  have hany : (List.zipWith presenceMoved b.peers s.peers).any id = true := by
    by_contra hnone
    refine hmoved ?_
    unfold peerOf
    split
    · simp only [List.getD_eq_getElem?_getD]
      by_cases hk : n.toNat - 1 < s.peers.length
      · have hb : n.toNat - 1 < b.peers.length := by omega
        rw [List.getElem?_eq_getElem hk, List.getElem?_eq_getElem hb]
        by_contra hne
        refine hnone (List.any_eq_true.mpr ⟨true, ?_, rfl⟩)
        refine List.mem_iff_getElem.mpr ⟨n.toNat - 1, by simp; omega, ?_⟩
        simpa [presenceMoved] using hne
      · simp [hk, show ¬n.toNat - 1 < b.peers.length by omega]
    · rfl
  have hend : peerEventEnd b.peers s = raise .peer (s.setPeers (List.zipWith markChanged b.peers s.peers)) := by
    rw [peerEventEnd, if_pos hany]
  constructor
  · have hp : (eventEnd b s).peers = List.zipWith markChanged b.peers s.peers := by
      rw [eventEnd_peers, hend]
      simp
    rw [peerOf_zipWith markChanged rfl hl hp, markChanged, if_neg hmoved]
  · have hflag (v : State) : (directoryEventEnd b.dir.entries v).ev.flags.peer = v.ev.flags.peer := by
      unfold directoryEventEnd
      split <;> rfl
    unfold eventEnd
    rw [show ∀ v : State, (drainCheck v).ev = v.ev from fun v => by simp, hflag, hend]
    rfl

theorem presence_setPeer (m n : Station) (r : PeerRecord) (hr : r.presence = (peerOf n s).presence) :
    (peerOf m (setPeer n r s)).presence = (peerOf m s).presence := by
  by_cases hmn : m = n
  · subst hmn
    unfold peerOf at hr ⊢
    unfold setPeer
    split
    next hv =>
      rw [if_pos hv] at hr
      simp only [State.setPeers_peers, List.getD_eq_getElem?_getD] at hr ⊢
      by_cases hk : m.toNat - 1 < s.peers.length
      · simpa [hk] using hr
      · simp [hk]
    · rfl
  · rw [peerOf_setPeer_other s m n r hmn]

theorem presence_apertureWriteTaken (a : GlobalAddr) (data : List Byte) (x : Bool) (n : Station) (s : State) :
    (peerOf n (apertureWriteTaken a data x s).next).presence = (peerOf n s).presence := by
  have hadmit (m : Station) : (peerOf n (admitWrite m a data x s)).presence = (peerOf n s).presence := by
    have hp : (admitWrite m a data x s).peers = (setPeer m { peerOf m s with outbound := (peerOf m s).outbound + 1 } s).peers := by
      have hq : (enqueueWrite m a data x s).peers = (setPeer m { peerOf m s with outbound := (peerOf m s).outbound + 1 } s).peers := by
        unfold enqueueWrite setPeer
        split <;> rfl
      simp only [admitWrite]
      split <;> simp [hq]
    rw [peerOf_congr n hp]
    exact presence_setPeer n m _ rfl
  have hrefused (r : FaultReason) (m : Station) : (peerOf n (refuseAccess .write r a m s).next).presence = (peerOf n s).presence := rfl
  have hloop (e : DirEntry) (k : RegionIndex) : (loopbackWrite e k a data x s).next.peers = s.peers := by
    unfold loopbackWrite
    repeat' split
    all_goals simp [refuseAccess, answerOnly]
  unfold apertureWriteTaken
  split
  · exact hrefused _ _
  split
  · exact hrefused _ _
  split
  · rw [peerOf_congr n (hloop _ _)]
  split
  · exact hrefused _ _
  split
  · split
    · rfl
    · exact hadmit _
  · exact hrefused _ _

/-- What no cycle changes (R118, R150). -/
structure CycleKept (s u : State) : Prop where
  entries : u.dir.entries = s.dir.entries
  generation : u.dir.generation = s.dir.generation
  presence : ∀ n, (peerOf n u).presence = (peerOf n s).presence
  span : u.ctl.span = s.ctl.span
  config : s.ctl.span ≠ .offline → u.ctl.config = s.ctl.config

theorem CycleKept.of_same (h : u.dir = s.dir ∧ u.peers = s.peers ∧ u.ctl.span = s.ctl.span)
    (hc : s.ctl.span ≠ .offline → u.ctl.config = s.ctl.config) : CycleKept s u :=
  ⟨by rw [h.1], by rw [h.1], fun n => by rw [peerOf_congr n h.2.1], h.2.2, hc⟩

theorem CycleKept.clearChanged (n : Station) (s : State) : CycleKept s (setPeer n { peerOf n s with changed := false } s) :=
  ⟨by simp, by simp, fun m => presence_setPeer m n _ rfl, by simp, fun _ => by simp⟩

theorem CycleKept.owned (hu : Owned c s u) : CycleKept s u := by
  cases hu with
  | apertureRead _ =>
    obtain ⟨-, hd, hp, -, -, -, hc⟩ := apertureReadTaken_frame (apertureAddr _ _ s) _ s
    exact .of_same ⟨hd, hp, by rw [hc]⟩ fun _ => by rw [hc]
  | apertureWrite _ =>
    obtain ⟨-, hd, -, -, hc⟩ := apertureWriteTaken_frame (apertureAddr _ _ s) _ _ s
    exact ⟨by rw [hd], by rw [hd], fun n => presence_apertureWriteTaken _ _ _ n s, by rw [hc], fun _ => by rw [hc]⟩
  | @storeConfig _ w be d hx =>
    have hset : CycleKept s (setConfig (writeConfigWord w be d s.ctl.config) s) := .of_same ⟨rfl, rfl, rfl⟩ fun hne => absurd hx hne
    unfold storeConfig configStored
    split
    · split
      · obtain ⟨h1, h2, h3, h4, -⟩ := CycleKept.clearChanged (ownStation (setConfig (writeConfigWord .station be d s.ctl.config) s))
          (setConfig (writeConfigWord .station be d s.ctl.config) s)
        exact ⟨h1, h2, h3, h4, fun hne => absurd hx hne⟩
      · exact hset
    · exact ⟨rfl, rfl, fun _ => rfl, rfl, fun hne => absurd hx hne⟩
    · exact hset
  | storeBitDiv hx =>
    unfold storeBitDiv
    split
    · exact .of_same ⟨rfl, rfl, rfl⟩ fun hne => absurd hx hne
    · exact .of_same ⟨rfl, rfl, rfl⟩ fun _ => rfl
  | storeTickDiv hx =>
    unfold storeTickDiv
    split
    · exact .of_same ⟨rfl, rfl, rfl⟩ fun hne => absurd hx hne
    · exact .of_same ⟨rfl, rfl, rfl⟩ fun _ => rfl
  | readEffect =>
    unfold readEffect
    split
    · split
      · exact .clearChanged _ s
      · exact .of_same ⟨rfl, rfl, rfl⟩ fun _ => rfl
    · exact .of_same ⟨rfl, rfl, rfl⟩ fun _ => rfl
  | _ => exact .of_same ⟨rfl, rfl, rfl⟩ fun _ => rfl

/-- Settles O60: nothing before the end of an event marks a change, and the end of the event marks every one. -/
theorem changesAreMarked : Obligations.ChangesAreMarked := by
  intro c s t hk ht hpower hpin
  have hkept (u : State) (h : CycleKept s u) :
      (if u.dir.entries = s.dir.entries then u.dir.generation = s.dir.generation
        else u.dir.generation = s.dir.generation + 1 ∧ u.ev.flags.directory = true) ∧
      ∀ n, (peerOf n u).presence ≠ (peerOf n s).presence → (peerOf n u).changed = true ∧ u.ev.flags.peer = true :=
    ⟨by rw [if_pos h.entries]; exact h.generation, fun n hn => absurd (h.presence n) hn⟩
  have hevent (u : State) (h : Unmarked s u) :
      (if (eventEnd s u).dir.entries = s.dir.entries then (eventEnd s u).dir.generation = s.dir.generation
        else (eventEnd s u).dir.generation = s.dir.generation + 1 ∧ (eventEnd s u).ev.flags.directory = true) ∧
      ∀ n, (peerOf n (eventEnd s u)).presence ≠ (peerOf n s).presence →
        (peerOf n (eventEnd s u)).changed = true ∧ (eventEnd s u).ev.flags.peer = true :=
    ⟨eventEnd_marks_content s h.generation, fun n hn => eventEnd_marks_presence h.records.symm n hn⟩
  cases exec_does ht with
  | powerOn => exact absurd rfl hpower
  | clearEnd => exact hkept _ (.of_same ⟨rfl, rfl, rfl⟩ fun _ => rfl)
  | pinReset => exact absurd rfl hpin
  | port p => exact hkept _ (.of_same ⟨rfl, rfl, rfl⟩ fun _ => rfl)
  | tick _ =>
    refine hkept _ ⟨rfl, rfl, fun n => ?_, rfl, fun _ => rfl⟩
    have hp : peerOf n (tickAll s) = tickRecord (peerOf n s) := peerOf_map tickRecord rfl n s
    rw [hp, tickRecord]
    split <;> rfl
  | event hu => exact hevent _ (.effect hu)
  | @command _ _ u hu code p =>
    have hended := hevent u (.commanded hu)
    generalize eventEnd s u = v at hended
    exact hended
  | @cycle _ _ u hu p =>
    obtain ⟨h1, h2, h3, h4, h5⟩ : CycleKept s u := .owned hu
    exact hkept _ ⟨h1, h2, h3, h4, h5⟩

end Sys2Proof.Machine


/-! ## The moves of the span state, and the changes of shared RAM -/

namespace Sys2Proof.Machine

variable {s t u : State} {c : Instr}

/-! ### Where the span state goes (Table 8.3) -/

/-- The rows of Table 8.3, each with the stop cause that it leaves; a clash may stop the station in any row of a frame. -/
inductive Moves : Instr → SpanState → SpanState → Option StopCause → Prop where
  | listened {o : Option StopCause} : Moves .listenTimerExpiry .listening .announcing o
  | announced {o : Option StopCause} : Moves .attemptSent .announcing .online o
  | left {o : Option StopCause} : Moves .attemptSent .leaving .offline o
  | failed {x : SpanState} (hx : onSpan x = true) : Moves .breakEnd x .stopped (some .txFailures)
  | clashed {c : Instr} {x : SpanState} (hx : hearing x = true) : Moves c x .stopped (some .clash)
  | joined {hi : Bool} {o : Option StopCause} : Moves (.join hi) .offline .listening o
  | leaving {hi : Bool} {o : Option StopCause} : Moves (.leave hi) .online .leaving o
  | abandoned {hi : Bool} {x : SpanState} {o : Option StopCause} (hx : x = .listening ∨ x = .announcing) :
      Moves (.leave hi) x .offline o
  | restarted {hi : Bool} {x : SpanState} {o : Option StopCause} (hx : x ≠ .offline) : Moves (.restart hi) x .offline o

/-- The span state stays, or it moves by a row of Table 8.3 with SPAN set. -/
def SpanMoved (c : Instr) (s t : State) : Prop :=
  t.ctl.span = s.ctl.span ∨ t.ev.flags.span = true ∧ Moves c s.ctl.span t.ctl.span t.ctl.stopCause

theorem SpanMoved.of_ctl (h : t.ctl = s.ctl) : SpanMoved c s t := .inl (by rw [h])

theorem setSpan_flag {x : SpanState} (h : s.ctl.span ≠ x) : (setSpan x s).ev.flags.span = true := by
  rw [setSpan, if_neg h]
  rfl

theorem EvKept.span {a b : EventUnit} (h : EvKept a b) (ha : a.flags.span = true) : b.flags.span = true := by
  have hbit (f : EventFlags) : (flagsOf f).getLsbD 2 = f.span := by
    obtain ⟨a, b, c, d, e, g, h⟩ := f
    revert a b c d e g h
    decide
  have hor := congrArg (·.getLsbD 2) h.flags
  simp only [BitVec.getLsbD_or, hbit] at hor
  simpa [ha] using hor

theorem purgeAll_span (s : State) : (purgeAll s).ctl.span = s.ctl.span := by rw [purgeAll_ctl]

theorem enterStopped_span (cause : StopCause) (s : State) (h : s.ctl.span ≠ .stopped) :
    (enterStopped cause s).ctl.span = .stopped ∧ (enterStopped cause s).ctl.stopCause = some cause ∧
      (enterStopped cause s).ev.flags.span = true := by
  unfold enterStopped
  refine ⟨by simp [setSpan_ctl], by simp [setSpan_ctl, setStopCause], setSpan_flag ?_⟩
  simpa [setStopCause, purgeAll_span] using h

theorem enterOffline_span (s : State) (h : s.ctl.span ≠ .offline) :
    (enterOffline s).ctl.span = .offline ∧ (enterOffline s).ev.flags.span = true := by
  rw [enterOffline, if_neg h]
  refine ⟨by simp [setSpan_ctl], setSpan_flag ?_⟩
  simpa [setStopCause, purgeAll_span, cut] using h

theorem SpanMoved.enterOffline {s₀ : State} (h : s.ctl.span = s₀.ctl.span)
    (hm : s₀.ctl.span ≠ .offline → ∀ o, Moves c s₀.ctl.span .offline o) : SpanMoved c s₀ (enterOffline s) := by
  by_cases hx : s.ctl.span = .offline
  · exact .inl (by rw [Machine.enterOffline, if_pos hx, h])
  · obtain ⟨hspan, hflag⟩ := enterOffline_span s hx
    exact .inr ⟨hflag, hspan ▸ hm (h ▸ hx) _⟩

theorem SpanMoved.frameArrives (bytes : List Byte) (f : Frame) (s : State) : SpanMoved c s (frameArrives bytes f s) := by
  have hctl : (frameTaken bytes s).ctl = s.ctl := by
    unfold frameTaken
    split <;> simp
  simp only [Machine.frameArrives]
  split
  · exact .of_ctl hctl
  next hx =>
    split
    · split
      · exact .of_ctl hctl
      · unfold takeClash
        split
        next hhear =>
          obtain ⟨hspan, hcause, hflag⟩ := enterStopped_span .clash (frameTaken bytes s) hx
          exact .inr ⟨hflag, by rw [hspan, hcause]; exact .clashed (by rwa [hctl] at hhear)⟩
        · exact .of_ctl hctl
    split
    · exact .of_ctl ((SameLine.frameContent f _).ctl.trans ((SameLine.hear f.src _).ctl.trans hctl))
    · exact .of_ctl ((SameLine.hear f.src _).ctl.trans hctl)

theorem SpanMoved.endSent (h : LineKept s) (hp : inPhase onLine s = true) : SpanMoved .attemptSent s (endSent s) := by
  unfold Machine.endSent
  split
  next x hx =>
    obtain ⟨y, hy, hon⟩ := inPhase_iff.mp hp
    obtain rfl : x = y := Option.some.inj (hx.symm.trans hy)
    have hline := h.line x hx hon
    simp only [attemptSentOn]
    cases hitem : x.item with
    | response r => exact .of_ctl (by simp [itemSent])
    | leave =>
      have hleave : s.ctl.span = .leaving := hline.leave (by rw [hitem]; rfl)
      exact .enterOffline rfl fun _ o => by rw [hleave]; exact .left
    | announce fresh copy =>
      cases fresh with
      | false => exact .of_ctl rfl
      | true =>
        have hjoin : s.ctl.span = .announcing := hline.fresh (by rw [hitem]; rfl)
        right
        rw [hjoin]
        refine ⟨?_, ?_⟩
        · simpa [itemSent, announceSent, renewAnnounce, freshSent, startHeartbeat, heartbeatSent, hjoin]
            using setSpan_flag (by simp [hjoin])
        · simpa [itemSent, announceSent, freshSent, startHeartbeat, heartbeatSent, hjoin, setSpan_ctl] using .announced
    | heartbeat => exact .of_ctl rfl
    | request y => exact .of_ctl (SameLine.itemSent_request y _).ctl
  · exact .of_ctl rfl

theorem SpanMoved.endBreak (s : State) : SpanMoved .breakEnd s (endBreak s) := by
  unfold Machine.endBreak
  split
  · split
    next b _ =>
      cases b with
      | failure =>
        simp only [breakOutcome, stopIfFailing]
        split
        next hstop =>
          simp only [Bool.and_eq_true] at hstop
          have hon : onSpan s.ctl.span = true := hstop.2
          have hne : s.ctl.span ≠ .stopped := by rintro hx; simp [hx, onSpan] at hon
          obtain ⟨hspan, hcause, hflag⟩ :=
            enterStopped_span .txFailures (countFailure (count .txFail 1 (receiverLost (setTx none s)))) hne
          exact .inr ⟨hflag, by rw [hspan, hcause]; exact .failed hon⟩
        · exact .of_ctl rfl
      | failureThenOffline => exact .of_ctl rfl
      | cut => exact .of_ctl rfl
    · exact .of_ctl rfl
  · exact .of_ctl rfl

theorem SpanMoved.effect (h : LineKept s) (hu : Effect c s u) : SpanMoved c s u := by
  cases hu with
  | attemptBegin _ =>
    unfold beginAttempt
    split <;> exact .of_ctl rfl
  | attemptLost _ _ => exact .of_ctl rfl
  | readbackMismatch _ _ => exact .of_ctl rfl
  | breakEnd _ _ => exact .endBreak s
  | attemptSent _ hp => exact .endSent h hp
  | frameBroken _ _ =>
    unfold breakFrame
    split <;> exact .of_ctl rfl
  | frameFormatError _ =>
    unfold discardFrame frameTaken
    repeat' split
    all_goals exact .of_ctl rfl
  | clashReport _ _ _ => exact .frameArrives _ _ s
  | frame _ _ _ => exact .frameArrives _ _ s
  | @readResponseTimeout _ i _ => exact .of_ctl (by unfold readTimedOut; split <;> simp)
  | @discardExpiry _ i _ => exact .of_ctl (by unfold discardRead; split <;> simp)
  | @writeResponseTimeout _ w _ _ _ => exact .of_ctl (by unfold headTimedOut; split <;> simp)
  | @holdExpiry _ w _ _ _ => exact .of_ctl (by simp)
  | heartbeatTimerExpiry _ => exact .of_ctl rfl
  | listenTimerExpiry hd =>
    simp only [listenDue, Bool.and_eq_true, beq_iff_eq] at hd
    have hctl : (listenEnds s).ctl = { s.ctl with span := .announcing, listenTimer := none } := by
      simp [listenEnds, setSpan_ctl]
    have hopen : (setSpan .announcing (s.setCtl { s.ctl with listenTimer := none })).ev.flags.span = true :=
      setSpan_flag (by simp [hd.1])
    have hplaced (v : State) : EvKept v.ev (placeOwnRegions v).ev := .foldl EvKept.placeOwn allRegionIndexes v
    refine .inr ⟨?_, by rw [hctl, hd.1]; exact .listened⟩
    simpa [listenEnds] using (hplaced _).span hopen
  | drainTimerExpiry _ => exact .of_ctl (drainAgents_frame s).2.2
  | @silenceLimit _ n _ => exact .of_ctl (show (markSilent n s).ctl = s.ctl by simp)
  | @absenceLimit _ n _ => exact .of_ctl (show (losePeer n s).ctl = s.ctl by simp)
  | idleFound _ =>
    unfold foundIdle
    split <;> exact .of_ctl rfl
  | startBitConfirmed _ _ => exact .of_ctl rfl
  | ownFrameEnd _ _ _ => exact .of_ctl rfl

theorem SpanMoved.commanded (hu : Commanded c s u) : SpanMoved c s u := by
  cases hu with
  | join hx _ =>
    refine .inr ⟨setSpan_flag (by simp [markWaiting, hx]), ?_⟩
    rw [hx]
    simpa [startListening, setSpan_ctl] using .joined
  | leaveOnline hx =>
    refine .inr ⟨setSpan_flag (by simp [hx]), ?_⟩
    rw [hx]
    simpa [startLeaving, setSpan_ctl] using .leaving
  | leaveJoining hx => exact .enterOffline rfl fun _ _ => .abandoned hx
  | restart => exact .enterOffline rfl fun hne _ => .restarted hne

theorem SpanMoved.eventEnd (h : SpanMoved c s u) : SpanMoved c s (eventEnd s u) := by
  unfold SpanMoved at h ⊢
  rw [eventEnd_span, eventEnd_stopCause]
  exact h.imp_right fun ⟨hf, hm⟩ => ⟨(EvKept.eventEnd s u).span hf, hm⟩

/-- What the obligation says of a step from `s` to `t`. -/
def movesAsListed (c : Instr) (s t : State) : Prop :=
  (s.ctl.span ≠ .offline → t.ctl.config = s.ctl.config) ∧
    (t.ctl.span ≠ s.ctl.span →
      t.ev.flags.span = true ∧
      match s.ctl.span, t.ctl.span with
      | .offline, .listening => ∃ hi, c = .join hi
      | .listening, .announcing => c = .listenTimerExpiry
      | .announcing, .online => c = .attemptSent
      | .online, .leaving => ∃ hi, c = .leave hi
      | .leaving, .offline => c = .attemptSent ∨ ∃ hi, c = .restart hi
      | .listening, .offline => ∃ hi, c = .leave hi ∨ c = .restart hi
      | .announcing, .offline => ∃ hi, c = .leave hi ∨ c = .restart hi
      | .online, .offline => ∃ hi, c = .restart hi
      | .stopped, .offline => ∃ hi, c = .restart hi
      | .listening, .stopped => t.ctl.stopCause = some .clash
      | .announcing, .stopped => c = .breakEnd ∧ t.ctl.stopCause = some .txFailures ∨ t.ctl.stopCause = some .clash
      | .online, .stopped => c = .breakEnd ∧ t.ctl.stopCause = some .txFailures ∨ t.ctl.stopCause = some .clash
      | .leaving, .stopped => c = .breakEnd ∧ t.ctl.stopCause = some .txFailures ∨ t.ctl.stopCause = some .clash
      | _, _ => False)

theorem movesAsListed_of_moved (hc : s.ctl.span ≠ .offline → t.ctl.config = s.ctl.config) (h : SpanMoved c s t) :
    movesAsListed c s t := by
  refine ⟨hc, fun hne => ?_⟩
  obtain ⟨hf, hm⟩ := h.resolve_left hne
  refine ⟨hf, ?_⟩
  generalize s.ctl.span = x, t.ctl.span = y, t.ctl.stopCause = o at hm hne ⊢
  cases hm with
  | listened => rfl
  | announced => rfl
  | left => exact .inl rfl
  | failed hx =>
    cases x with
    | announcing => exact .inl ⟨rfl, rfl⟩
    | online => exact .inl ⟨rfl, rfl⟩
    | leaving => exact .inl ⟨rfl, rfl⟩
    | _ => simp [onSpan] at hx
  | clashed hx =>
    cases x with
    | listening => rfl
    | announcing => exact .inr rfl
    | online => exact .inr rfl
    | leaving => exact .inr rfl
    | _ => simp [hearing] at hx
  | joined => exact ⟨_, rfl⟩
  | leaving => exact ⟨_, rfl⟩
  | abandoned hx => obtain rfl | rfl := hx <;> exact ⟨_, .inl rfl⟩
  | restarted hx =>
    cases x with
    | offline => exact absurd rfl hx
    | listening => exact ⟨_, .inr rfl⟩
    | announcing => exact ⟨_, .inr rfl⟩
    | online => exact ⟨_, rfl⟩
    | leaving => exact .inr ⟨_, rfl⟩
    | stopped => exact ⟨_, rfl⟩

/-- Settles O59: every event and every command of COMMAND moves the span state by a row of `Moves`, and no cycle moves it. -/
theorem spanStateMoves : Obligations.SpanStateMoves := by
  intro c s t hk ht hpower hpin
  show movesAsListed c s t
  cases exec_does ht with
  | powerOn => exact absurd rfl hpower
  | clearEnd => exact movesAsListed_of_moved (fun _ => rfl) (.of_ctl rfl)
  | pinReset => exact absurd rfl hpin
  | port p => exact movesAsListed_of_moved (fun _ => rfl) (.of_ctl rfl)
  | tick _ => exact movesAsListed_of_moved (fun _ => rfl) (.inl rfl)
  | @event _ _ u hu =>
    exact movesAsListed_of_moved (fun _ => (eventEnd_config s u).trans (Unmarked.effect hu).config) (SpanMoved.effect hk.lineKept hu).eventEnd
  | @command _ _ u hu code p =>
    have hconfig := (eventEnd_config s u).trans (Unmarked.commanded hu).config
    have hmoved := (SpanMoved.commanded hu).eventEnd
    generalize eventEnd s u = v at hconfig hmoved
    exact movesAsListed_of_moved (s := s) (t := v) (fun _ => hconfig) hmoved
  | @cycle _ _ u hu p =>
    have hkept : CycleKept s u := .owned hu
    exact movesAsListed_of_moved hkept.config (.inl hkept.span)

/-! ### Shared RAM -/

theorem lastApplied_setPeer (m n : Station) (r : PeerRecord) (hr : r.lastApplied = (peerOf n s).lastApplied) :
    (peerOf m (setPeer n r s)).lastApplied = (peerOf m s).lastApplied := by
  by_cases hmn : m = n
  · subst hmn
    unfold peerOf at hr ⊢
    unfold setPeer
    split
    next hv =>
      rw [if_pos hv] at hr
      simp only [State.setPeers_peers, List.getD_eq_getElem?_getD] at hr ⊢
      by_cases hk : m.toNat - 1 < s.peers.length
      · simpa [hk] using hr
      · simp [hk]
    · rfl
  · rw [peerOf_setPeer_other s m n r hmn]

/-- A WRITE changes shared RAM only where it is applied: a WRITE_ACK is appended for a sequence not applied last (R92, R94). -/
theorem takeWrite_changes_ram {n : Station} {tag : Byte} {a : GlobalAddr} {data : List Byte} {x : Bool}
    (h : (takeWrite n tag a data x s).ram ≠ s.ram) :
    (takeWrite n tag a data x s).resp.responses =
        s.resp.responses ++ [{ dest := n, tag := tag, answer := .writeAck, serial := s.resp.appended }] ∧
      (peerOf n s).lastApplied ≠ some tag := by
  unfold takeWrite at h ⊢
  split at h
  · exact absurd rfl h
  next hon =>
    split at h
    · exact absurd rfl h
    next hroom =>
      split at h
      · exact absurd rfl h
      · exact absurd rfl h
      next writable l hreg =>
        split at h
        · exact absurd rfl h
        next hw =>
          split at h
          · exact absurd rfl h
          next hlast =>
            split at h
            · exact absurd rfl h
            next hfull =>
              refine ⟨?_, hlast⟩
              simp only [hon, hroom, hw, hlast, hfull, Bool.false_eq_true, if_false, applyWrite]
              split <;> simp [respond, appendNotice]

theorem takeAnnounce_ram (f : Frame) (interval : Byte) (gs : List RegionGroup) (s : State) :
    (takeAnnounce f interval gs s).ram = s.ram := by
  have hasked (v : State) : (if f.fresh && decide (v.ctl.span = .online) then requestAnnounce v else v).ram = v.ram := by
    split <;> simp
  have hregions (v : State) : (takeRegions f.src gs v).ram = v.ram := by simp
  simp only [takeAnnounce, hasked, hregions]
  split <;> simp

theorem frameArrives_changes_ram {bytes : List Byte} {f : Frame} (h : (frameArrives bytes f s).ram ≠ s.ram) :
    f.src ≠ ownStation s ∧ bodyKind f.body = .write ∧
      (frameArrives bytes f s).resp.responses =
        s.resp.responses ++ [{ dest := f.src, tag := f.tag, answer := .writeAck, serial := s.resp.appended }] ∧
      (peerOf f.src s).lastApplied ≠ some f.tag := by
  have htaken : (frameTaken bytes s).ram = s.ram ∧ (frameTaken bytes s).resp = s.resp ∧ (frameTaken bytes s).peers = s.peers ∧
      (frameTaken bytes s).ctl = s.ctl := by
    unfold frameTaken
    split <;> simp
  have hheard : (hear f.src (frameTaken bytes s)).ram = s.ram ∧ (hear f.src (frameTaken bytes s)).resp = s.resp := by
    simp [htaken]
  have hlast : (peerOf f.src (hear f.src (frameTaken bytes s))).lastApplied = (peerOf f.src s).lastApplied := by
    rw [← peerOf_congr f.src htaken.2.2.1]
    unfold hear
    split
    · exact lastApplied_setPeer _ _ _ rfl
    · rfl
  simp only [frameArrives] at h ⊢
  split at h
  · exact absurd htaken.1 h
  next hx =>
    rw [if_neg hx]
    split at h
    · split at h
      · exact absurd htaken.1 h
      · exact absurd (by simp [htaken]) h
    next hsrc =>
      rw [if_neg hsrc]
      split at h
      next haddr =>
        rw [if_pos haddr]
        rw [← hheard.1] at h
        rw [← hheard.2, ← hlast]
        unfold frameContent at h ⊢
        split at h
        · exact absurd (by simp) h
        · exact absurd (by simp) h
        · exact absurd (by split <;> simp) h
        · exact absurd (by simp) h
        next hbody =>
          rw [hbody]
          refine ⟨fun hown => hsrc (hown.trans ?_), rfl, takeWrite_changes_ram h⟩
          unfold ownStation
          rw [htaken.2.2.2]
        · exact absurd rfl h
        · exact absurd (takeAnnounce_ram f _ _ _) h
        · exact absurd (by simp) h
      · exact absurd (by simp [htaken]) h

theorem effect_changes_ram (hu : Effect c s u) (h : u.ram ≠ s.ram) :
    ∃ bytes f, c = .write bytes ∧ checkFrameOf .write bytes = some f ∧
      u.resp.responses = s.resp.responses ++ [{ dest := f.src, tag := f.tag, answer := .writeAck, serial := s.resp.appended }] ∧
      (peerOf f.src s).lastApplied ≠ some f.tag := by
  cases hu with
  | clashReport _ _ hown => exact absurd hown (frameArrives_changes_ram h).1
  | @frame _ bytes f hf _ _ =>
    obtain ⟨-, hkind, hresp, hlast⟩ := frameArrives_changes_ram h
    exact ⟨bytes, f, by rw [hkind]; rfl, checkFrameOf_iff.mpr ⟨hf, hkind⟩, hresp, hlast⟩
  | attemptBegin _ => exact absurd (by unfold beginAttempt; split <;> simp) h
  | breakEnd _ _ =>
    refine absurd ?_ h
    unfold endBreak
    split
    · split
      next b _ =>
        cases b with
        | failure =>
          simp only [breakOutcome, stopIfFailing]
          split <;> simp [countFailure]
        | failureThenOffline => rfl
        | cut => rfl
      · rfl
    · rfl
  | attemptSent _ _ => exact absurd (by unfold endSent; split <;> simp [attemptSentOn]) h
  | frameBroken _ _ => exact absurd (by unfold breakFrame; split <;> simp) h
  | frameFormatError _ =>
    refine absurd ?_ h
    unfold discardFrame frameTaken
    repeat' split
    all_goals rfl
  | readResponseTimeout _ => exact absurd (by unfold readTimedOut; split <;> simp) h
  | discardExpiry _ => exact absurd (by unfold discardRead; split <;> simp) h
  | writeResponseTimeout _ _ => exact absurd (by unfold headTimedOut; split <;> simp) h
  | listenTimerExpiry _ => exact absurd (by simp [listenEnds]) h
  | drainTimerExpiry _ => exact absurd (by unfold drainAgents; simp only; split <;> simp) h
  | @silenceLimit _ n _ => exact absurd (markSilent_frame n s).2.2.2.2.2.2.1 h
  | @absenceLimit _ n _ => exact absurd (losePeer_frame n s).2.1 h
  | idleFound _ => exact absurd (by unfold foundIdle; split <;> simp) h
  | _ => exact absurd rfl h

theorem owned_changes_ram (hu : Owned c s u) (h : u.ram ≠ s.ram) :
    (∃ w be d, c = .hostRamWrite w be d) ∨ ∃ notice w be d, c = .apertureWrite notice w be d := by
  cases hu with
  | ramWrite => exact .inl ⟨_, _, _, rfl⟩
  | apertureRead _ =>
    obtain ⟨-, -, -, -, -, hm, -⟩ := apertureReadTaken_frame (apertureAddr _ _ s) _ s
    exact absurd hm h
  | apertureWrite _ => exact .inr ⟨_, _, _, _, rfl⟩
  | storeConfig _ =>
    refine absurd ?_ h
    unfold storeConfig configStored setConfig
    split
    · split <;> simp
    all_goals simp
  | storeBitDiv _ => exact absurd (by unfold storeBitDiv; split <;> simp [setConfig]) h
  | storeTickDiv _ => exact absurd (by unfold storeTickDiv; split <;> simp) h
  | readEffect =>
    refine absurd ?_ h
    unfold readEffect
    split
    · split <;> simp
    · rfl
  | _ => exact absurd rfl h

theorem commanded_ram (hu : Commanded c s u) : u.ram = s.ram := by
  cases hu with
  | join _ _ => simp [startListening, markWaiting]
  | leaveOnline _ => simp [startLeaving]
  | leaveJoining _ => simp
  | restart => simp

/-- Settles O57: of the events only a WRITE that is applied changes shared RAM, and of the cycles only a host write. -/
theorem whatChangesSharedRam : Obligations.WhatChangesSharedRam := by
  intro c s t ht h
  cases exec_does ht with
  | powerOn => exact .inl rfl
  | clearEnd => exact .inr (.inl rfl)
  | pinReset => exact absurd rfl h
  | port p => exact absurd rfl h
  | tick _ => exact absurd rfl h
  | @event _ _ u hu =>
    have hend := eventEnd_frame s u
    refine .inr (.inr (.inr (.inr ?_)))
    rw [hend.2.2.2.1]
    exact effect_changes_ram hu (by simpa using h)
  | @command _ _ u hu code p =>
    have hended := (eventEnd_frame s u).2.2.2.2.1.trans (commanded_ram hu)
    generalize eventEnd s u = v at hended h
    exact absurd hended h
  | @cycle _ _ u hu p =>
    obtain ⟨w, be, d, rfl⟩ | ⟨x, w, be, d, rfl⟩ := owned_changes_ram hu h
    · exact .inr (.inr (.inl ⟨w, be, d, rfl⟩))
    · exact .inr (.inr (.inr (.inl ⟨x, w, be, d, rfl⟩)))

end Sys2Proof.Machine


/-! ## Every well-formed command completes, and the others are refused -/

namespace Sys2Proof.Machine

variable {s t u : State} {c : Instr}

/-! ### The queue of commands is no block's -/

theorem frameArrives_pending (bytes : List Byte) (f : Frame) (s : State) : (frameArrives bytes f s).pending = s.pending := by
  have htaken : (frameTaken bytes s).pending = s.pending := by
    unfold frameTaken
    split <;> simp
  have hannounce (interval : Byte) (gs : List RegionGroup) (v : State) : (takeAnnounce f interval gs v).pending = v.pending := by
    simp only [takeAnnounce]
    repeat' split
    all_goals simp
  have hcontent (v : State) : (frameContent f v).pending = v.pending := by
    unfold frameContent
    split
    · simp
    · simp
    · split <;> simp
    · simp
    · simp
    · rfl
    · exact hannounce _ _ v
    · simp
  simp only [frameArrives]
  split
  · exact htaken
  split
  · split
    · exact htaken
    · simp [htaken]
  split
  · simp [hcontent, htaken]
  · simp [htaken]

theorem Effect.pending (hu : Effect c s u) : u.pending = s.pending := by
  cases hu with
  | attemptBegin _ =>
    unfold beginAttempt
    split <;> simp
  | breakEnd _ _ =>
    unfold endBreak
    split
    · split
      next b _ =>
        cases b with
        | failure =>
          simp only [breakOutcome, stopIfFailing]
          split <;> simp [countFailure]
        | failureThenOffline => rfl
        | cut => rfl
      · rfl
    · rfl
  | attemptSent _ _ =>
    unfold endSent
    split <;> simp [attemptSentOn]
  | frameBroken _ _ =>
    unfold breakFrame
    split <;> simp
  | frameFormatError _ =>
    unfold discardFrame frameTaken
    repeat' split
    all_goals rfl
  | clashReport _ _ _ => exact frameArrives_pending _ _ s
  | frame _ _ _ => exact frameArrives_pending _ _ s
  | readResponseTimeout _ =>
    unfold readTimedOut
    split <;> simp
  | discardExpiry _ =>
    unfold discardRead
    split <;> simp
  | writeResponseTimeout _ _ =>
    unfold headTimedOut
    split <;> simp
  | listenTimerExpiry _ => simp [listenEnds]
  | drainTimerExpiry _ =>
    simp only [drainAgents]
    split <;> simp
  | silenceLimit _ => simp
  | absenceLimit _ => simp
  | idleFound _ =>
    unfold foundIdle
    split <;> simp
  | _ => rfl

theorem apertureReadTaken_pending (a : GlobalAddr) (be : Enables) (s : State) :
    (apertureReadTaken a be s).next.pending = s.pending := by
  have hallocate (n : Station) (start : GlobalAddr) (len : Nat) (p : Bool) : (allocate n start len p s).next.pending = s.pending := by
    have hcleared := foldl_keeps (fun u i => freeRead i u) (·.pending) (by simp)
      (allReadIndexes.filter (readOverlaps start.toNat len s)) s
    simp only [allocate]
    split
    · split
      · simpa [answerOnly] using hcleared
      · simp [tableFull, answerOnly]
    · simp [tableFull, answerOnly]
  unfold apertureReadTaken newRead
  repeat' split
  · simp only [deliver]
    repeat' split
    all_goals simp
  · rfl
  · rfl
  · rfl
  · rfl
  · exact hallocate _ _ _ _
  · rfl

theorem apertureWriteTaken_pending (a : GlobalAddr) (data : List Byte) (x : Bool) (s : State) :
    (apertureWriteTaken a data x s).next.pending = s.pending := by
  unfold apertureWriteTaken loopbackWrite
  repeat' split
  all_goals simp [refuseAccess, answerOnly]

theorem Owned.pending (hu : Owned c s u) : u.pending = s.pending := by
  cases hu with
  | apertureRead _ => exact apertureReadTaken_pending _ _ s
  | apertureWrite _ => exact apertureWriteTaken_pending _ _ _ s
  | storeConfig _ =>
    unfold Machine.storeConfig Machine.configStored Machine.setConfig
    split
    · split <;> simp
    all_goals simp
  | storeBitDiv _ =>
    unfold Machine.storeBitDiv
    split <;> simp [setConfig]
  | storeTickDiv _ =>
    unfold Machine.storeTickDiv
    split <;> simp
  | readEffect =>
    unfold Machine.readEffect
    split
    · split <;> simp
    · rfl
  | _ => rfl

theorem Does.pending (ht : Does c s t) : t.pending = s.pending := by
  cases ht with
  | event hu => exact (eventEnd_frame s _).2.2.2.2.2.2.2.trans hu.pending
  | @command _ _ u hu code p =>
    have hcommanded : u.pending = s.pending := by
      cases hu with
      | join _ _ => simp [startListening, markWaiting]
      | leaveOnline _ => simp [startLeaving]
      | leaveJoining _ => simp
      | restart => simp
    have hended := (eventEnd_frame s u).2.2.2.2.2.2.2.trans hcommanded
    generalize eventEnd s u = v at hended
    exact hended
  | cycle hu p => exact hu.pending
  | _ => rfl

/-! ### No access of a well-kept station passes the end of shared RAM (R84) -/

theorem WellKept.servedPastEnd_eq_false (h : WellKept s) (hx : s.ctl.span ≠ .offline) (a : GlobalAddr) (n : Nat) :
    servedPastEnd a n s = false := by
  unfold servedPastEnd regionCheck
  cases hfind : s.dir.entries.find? (ownContains a.toNat) with
  | none => rfl
  | some e =>
    have he := List.mem_of_find?_eq_some hfind
    have hcontains := List.find?_some hfind
    simp only [ownContains, dirContains, Bool.and_eq_true, decide_eq_true_eq] at hcontains
    obtain ⟨hown, hlo, -⟩ := hcontains
    obtain ⟨n', hn⟩ := Option.isSome_iff_exists.mp hown
    have hram := h.ownEntry_inside_ram hx he hn
    by_cases hhi : a.toNat + n ≤ dirEnd e
    · simpa [hhi, hn] using localAddress_add_le hlo hhi hram
    · simp [hhi]

theorem WellKept.framePastEnd_eq_false (h : WellKept s) (f : Frame) : framePastEnd f s = false := by
  unfold framePastEnd
  by_cases hon : onSpan s.ctl.span = true
  · have hx : s.ctl.span ≠ .offline := by
      rintro hx
      simp [hx, onSpan] at hon
    have hserved := h.servedPastEnd_eq_false hx
    split <;> simp [hserved]
  · simp [hon]

theorem WellKept.receiveKind_completes (h : WellKept s) {k : Kind} {bytes : List Byte} (hf : (checkFrameOf k bytes).isSome = true) :
    ∃ t, receiveKind k bytes s = .next t := by
  obtain ⟨f, hf⟩ := Option.isSome_iff_exists.mp hf
  simp [receiveKind, hf, h.framePastEnd_eq_false f, stationEvent]

/-! ### Completion and refusal -/

theorem WellKept.exec_completes (h : WellKept s) (hc : c.wellFormed = true) : ∃ t, exec c s = .next t := by
  cases c with
  | frameFormatError bytes =>
    have hnone : checkFrame bytes = none := by simpa [Instr.wellFormed] using hc
    simp [exec, execFrameFormatError, hnone, stationEvent]
  | clashReport bytes =>
    obtain ⟨f, hf⟩ := Option.isSome_iff_exists.mp (show (checkFrame bytes).isSome = true from hc)
    simp [exec, execClashReport, hf, stationEvent]
  | readRsp bytes => exact h.receiveKind_completes hc
  | nack bytes => exact h.receiveKind_completes hc
  | writeAck bytes => exact h.receiveKind_completes hc
  | readReq bytes => exact h.receiveKind_completes hc
  | write bytes => exact h.receiveKind_completes hc
  | heartbeat bytes => exact h.receiveKind_completes hc
  | announce bytes => exact h.receiveKind_completes hc
  | leaveFrame bytes => exact h.receiveKind_completes hc
  | silenceLimit n => simp [exec, execSilenceLimit, show validStation n = true from hc, stationEvent]
  | absenceLimit n => simp [exec, execAbsenceLimit, show validStation n = true from hc, stationEvent]
  | apertureRead notice w be => simp [exec, execApertureRead, h.aperturePastEnd_eq_false w be]
  | apertureWrite notice w be d => simp [exec, execApertureWrite, h.aperturePastEnd_eq_false w be]
  | unknownCommand be d =>
    have hno : (be.lo && knownCode (writtenCode be d)) = false := by simpa only [Instr.wellFormed, Bool.not_eq_true'] using hc
    simp [exec, execUnknownCommand, hno]
  | peerViewFirstWordRead a be => simp [exec, execPeerViewFirstWordRead, show readsWord (areaOf a) = true from hc]
  | registerWriteFault a be => simp [exec, execRegisterWriteFault, show refusesWrites (areaOf a) = true from hc]
  | unclaimedAccess dir a be =>
    simp only [Instr.wellFormed, Bool.and_eq_true, bne_iff_ne, beq_iff_eq] at hc
    simp [exec, execUnclaimedAccess, hc]
  | noByteEnableCycle dir a =>
    simp only [Instr.wellFormed, bne_iff_ne] at hc
    simp [exec, execNoByteEnableCycle, hc]
  | _ => exact ⟨_, rfl⟩

theorem exec_refuses (hc : c.wellFormed = false) : exec c s = .refused .illFormed := by
  have hframe {k : Kind} {bytes : List Byte} (hf : (checkFrameOf k bytes).isSome = false) :
      receiveKind k bytes s = .refused .illFormed := by
    simp [receiveKind, show checkFrameOf k bytes = none by simpa using hf]
  cases c with
  | frameFormatError bytes =>
    obtain ⟨f, hf⟩ : ∃ f, checkFrame bytes = some f := by
      simpa [Instr.wellFormed, ← Option.ne_none_iff_exists', ← Option.isSome_iff_ne_none] using hc
    simp [exec, execFrameFormatError, hf]
  | clashReport bytes =>
    have hnone : checkFrame bytes = none := by simpa [Instr.wellFormed] using hc
    simp [exec, execClashReport, hnone]
  | readRsp bytes => exact hframe hc
  | nack bytes => exact hframe hc
  | writeAck bytes => exact hframe hc
  | readReq bytes => exact hframe hc
  | write bytes => exact hframe hc
  | heartbeat bytes => exact hframe hc
  | announce bytes => exact hframe hc
  | leaveFrame bytes => exact hframe hc
  | silenceLimit n => simp [exec, execSilenceLimit, show validStation n = false from hc]
  | absenceLimit n => simp [exec, execAbsenceLimit, show validStation n = false from hc]
  | unknownCommand be d =>
    have hyes : (be.lo && knownCode (writtenCode be d)) = true := by simpa only [Instr.wellFormed, Bool.not_eq_false'] using hc
    simp only [exec, execUnknownCommand, hyes, if_true]
  | peerViewFirstWordRead a be => simp [exec, execPeerViewFirstWordRead, show readsWord (areaOf a) = false from hc]
  | registerWriteFault a be => simp [exec, execRegisterWriteFault, show refusesWrites (areaOf a) = false from hc]
  | unclaimedAccess dir a be =>
    have hno : ¬(dir ≠ .both ∧ areaOf a = .unclaimed) := by simpa [Instr.wellFormed] using hc
    simp only [exec, execUnclaimedAccess, Bool.and_eq_true, decide_eq_true_eq, hno, if_false]
  | noByteEnableCycle dir a =>
    have hboth : dir = .both := by simpa [Instr.wellFormed] using hc
    simp [exec, execNoByteEnableCycle, hboth]
  | _ => cases hc

/-- Settles O2: the rows that look at their operands refuse by `Instr.wellFormed`, and the faults of shared RAM's end do not arise. -/
theorem everyWellFormedCommandCompletes : Obligations.EveryWellFormedCommandCompletes := by
  refine fun c s => ⟨fun hk hc => ?_, exec_refuses⟩
  obtain ⟨t, ht⟩ := hk.exec_completes hc
  exact ⟨t, ht, (exec_does ht).pending⟩

/-- Settles O4: every invariant is a finite check of the reset values. -/
theorem resetIsWellKept : Obligations.ResetIsWellKept := wellKept_of_check State.reset (by decide)

end Sys2Proof.Machine


/-! ## The requests: what is true of the two agents and of the ready list

One structure holds what the two agents keep. Two of its places move inside an event and are named: `k` is the admission number of the
ready head, if there is one, and `least` the number of queue entries that a WAITING read has ahead of it at least, which is 0 between a
departure from the queue and the release of the barriers. -/

namespace Sys2Proof.Machine

variable {s t u : State} {k : Option Word} {m : Nat}

/-! ### The invariant -/

/-- An entry of the Delayed Read Table (Table 3.1, R40, R50, R51, R56), with at most `most` queue entries ahead. -/
structure ReadRight (c : ConfigRecord) (least most : Nat) (e : ReadEntry) : Prop where
  free : e.state = .free → e = ReadEntry.free e.incarnation
  shape : e.state ≠ .free → validStation e.dest = true ∧ (e.length = 1 ∨ e.length = 2 ∨ e.length = 32)
  response : e.responseTimer.isSome = true ↔ e.state = .issued
  discard : e.discardTimer.isSome = true ↔ e.state = .complete
  waiting : e.state = .waiting → least ≤ e.ahead ∧ e.ahead ≤ most ∧ e.attempts = 0
  ahead : e.state = .ready ∨ e.state = .issued → e.ahead = 0
  attempts : e.attempts ≤ c.retryLimit.toNat + 1
  retries : e.state = .ready → e.attempts ≤ c.retryLimit.toNat
  responseBound : ∀ n, e.responseTimer = some n → n ≤ c.respTimeout.toNat * 100
  discardBound : ∀ n, e.discardTimer = some n → n ≤ c.discardTime.toNat * 1000

/-- An entry of the Posted Write Queue (Tables 4.1 and 4.2, R76). -/
structure WriteRight (c : ConfigRecord) (w : PostedWrite) : Prop where
  apart : w.inFlight = true → w.held = false
  timer : w.timer.isSome = true ↔ w.inFlight = true ∨ w.held = true
  sent : w.inFlight = true ∨ w.held = true → 1 ≤ w.attempts
  attempts : w.attempts ≤ c.retryLimit.toNat + 1
  retries : w.inFlight = false → w.attempts ≤ c.retryLimit.toNat
  bound : ∀ n, w.timer = some n → n ≤ c.respTimeout.toNat * 100
  shape : validStation w.dest = true ∧ (w.data.length = 1 ∨ w.data.length = 2)

/-- The entry is QUEUED, not held and unsent, as every one behind the head (R66). -/
def AtRest (w : PostedWrite) : Prop := w.inFlight = false ∧ w.held = false ∧ w.attempts = 0

/-- The items of the ready list: the READY reads, and the write with admission number `k`. -/
def listedItem (k : Option Word) (s : State) : ReadyItem → Prop
  | .read i inc => (readAt i s).state = .ready ∧ (readAt i s).incarnation = inc
  | .write a => k = some a

structure RequestsRight (k : Option Word) (least : Nat) (s : State) : Prop where
  sized : s.reads.entries.length = Config.readEntries
  reads : ∀ i, ReadRight s.ctl.config least s.writes.queue.length (readAt i s)
  apart : liveReadsApart s
  ranks : ranksRight s
  queue : ∀ w ∈ s.writes.queue, WriteRight s.ctl.config w
  rest : ∀ w ∈ s.writes.queue.tail, AtRest w
  once : s.sel.ready.Nodup
  ready : ∀ x, x ∈ s.sel.ready ↔ listedItem k s x

/-- The admission number of the head, where it is ready. -/
def readyAdmission (q : List PostedWrite) : Option Word := (q.head?.filter headReady).map (·.admission)

/-- The invariant between events. -/
def RequestsKept (s : State) : Prop := RequestsRight (readyAdmission s.writes.queue) 1 s

theorem readyAdmission_nil : readyAdmission [] = none := rfl

theorem readyAdmission_cons (w : PostedWrite) (rest : List PostedWrite) :
    readyAdmission (w :: rest) = if headReady w = true then some w.admission else none := by
  by_cases h : headReady w = true <;> simp [readyAdmission, Option.filter, h]

theorem headReady_of_atRest {w : PostedWrite} (h : AtRest w) : headReady w = true := by
  simp [headReady, h.1, h.2.1]

/-! ### From WellKept, and back -/

theorem readyNow_iff (q : List PostedWrite) (hq : s.writes.queue = q) (x : ReadyItem) :
    readyNow s x = true ↔ listedItem (readyAdmission q) s x := by
  subst hq
  cases x with
  | read i inc => simp [readyNow, listedItem]
  | write a =>
    cases hq : s.writes.queue with
    | nil => simp [readyNow, listedItem, hq, readyAdmission]
    | cons w rest =>
      by_cases hw : headReady w = true <;> simp [readyNow, listedItem, hq, readyAdmission_cons, hw]

theorem WellKept.requestsKept (h : WellKept s) : RequestsKept s := by
  have hsized : s.reads.entries.length = Config.readEntries := h.sized.2.1
  have hmem (i : ReadIndex) : readAt i s ∈ s.reads.entries := (mem_reads_iff hsized _).mpr ⟨i, rfl⟩
  obtain ⟨hrest, hhead⟩ := h.head
  obtain ⟨hreads, hwrites⟩ := h.attempts
  obtain ⟨hbounds, hwbounds, -⟩ := h.bounded
  obtain ⟨hfree, hshape, hwshape, -⟩ := h.shapes
  obtain ⟨honce, hnow, hread, hwrite⟩ := h.ready
  refine ⟨hsized, fun i => ?_, h.apart, h.ranks, fun w hw => ?_, hrest, honce, fun x => ⟨fun hx => ?_, fun hx => ?_⟩⟩
  · obtain ⟨h1, h2⟩ := h.timers _ (hmem i)
    obtain ⟨h3, h4⟩ := h.barriers _ (hmem i)
    obtain ⟨h5, h6, h7⟩ := hreads _ (hmem i)
    obtain ⟨h8, h9⟩ := hbounds _ (hmem i)
    exact ⟨hfree _ (hmem i), hshape _ (hmem i), h1, h2, fun hw => ⟨(h3 hw).1, (h3 hw).2, h7 hw⟩, h4, h5, h6, h8, h9⟩
  · obtain ⟨h1, h2, h3⟩ := hhead w hw
    obtain ⟨h4, h5⟩ := hwrites w hw
    exact ⟨h1, h2, h3, h4, h5, hwbounds w hw, hwshape w hw⟩
  · exact (readyNow_iff _ rfl x).mp (hnow x hx)
  · cases x with
    | read i inc =>
      obtain ⟨hr, rfl⟩ := hx
      exact hread i hr
    | write a =>
      cases hq : s.writes.queue with
      | nil => simp [listedItem, hq, readyAdmission] at hx
      | cons w rest =>
        have hw : headReady w = true ∧ w.admission = a := by simpa [listedItem, hq, readyAdmission_cons] using hx
        rw [← hw.2]
        exact hwrite w (by simp [hq]) hw.1

theorem RequestsKept.mem (h : RequestsKept s) {e : ReadEntry} (he : e ∈ s.reads.entries) :
    ReadRight s.ctl.config 1 s.writes.queue.length e := by
  obtain ⟨i, rfl⟩ := (mem_reads_iff h.sized e).mp he
  exact h.reads i

theorem RequestsKept.table (h : RequestsKept s) : liveReadsApart s ∧ ranksRight s ∧ timersRight s ∧ barriersRight s :=
  ⟨h.apart, h.ranks, fun _ he => ⟨(h.mem he).response, (h.mem he).discard⟩,
    fun _ he => ⟨fun hw => ⟨((h.mem he).waiting hw).1, ((h.mem he).waiting hw).2.1⟩, (h.mem he).ahead⟩⟩

theorem RequestsKept.lists (h : RequestsKept s) : onlyHeadMoves s ∧ readyListRight s := by
  refine ⟨⟨h.rest, fun w hw => ⟨(h.queue w hw).apart, (h.queue w hw).timer, (h.queue w hw).sent⟩⟩, h.once, fun x hx => ?_,
    fun i hi => ?_, fun w hw hr => ?_⟩
  · exact (readyNow_iff _ rfl x).mpr ((h.ready x).mp hx)
  · exact (h.ready _).mpr ⟨hi, rfl⟩
  · obtain ⟨rest, hq⟩ : ∃ rest, s.writes.queue = w :: rest := List.head?_eq_some_iff.mp hw
    exact (h.ready _).mpr (by simp [listedItem, hq, readyAdmission_cons, hr])

/-! ### What leaves all of it -/

theorem RequestsRight.of_same (h : RequestsRight k m s)
    (ht : t.reads = s.reads ∧ t.writes.queue = s.writes.queue ∧ t.sel.ready = s.sel.ready ∧ t.ctl.config = s.ctl.config) :
    RequestsRight k m t := by
  obtain ⟨hr, hq, hl, hc⟩ := ht
  have hat (i : ReadIndex) : readAt i t = readAt i s := by simp [readAt, hr]
  refine ⟨by rw [hr]; exact h.sized, fun i => ?_, ?_, ?_, ?_, ?_, ?_, fun x => ?_⟩
  · rw [hat, hc, hq]
    exact h.reads i
  · intro i j
    rw [hat, hat]
    exact h.apart i j
  · exact ⟨by rw [hr]; exact h.ranks.1, fun i => by rw [hr, hat]; exact h.ranks.2 i⟩
  · rw [hq, hc]
    exact h.queue
  · rw [hq]
    exact h.rest
  · rw [hl]
    exact h.once
  · rw [hl, h.ready]
    cases x <;> simp [listedItem, hat]

theorem ReadRight.of_free {c : ConfigRecord} {least most : Nat} (inc : Incarnation) :
    ReadRight c least most (ReadEntry.free inc) := by
  constructor <;> simp [ReadEntry.free]

theorem RequestsKept.of_empty (h : requestsEmpty s) (hs : s.reads.entries.length = Config.readEntries) : RequestsKept s := by
  have hat (i : ReadIndex) : readAt i s = ReadEntry.free (readAt i s).incarnation :=
    h.2.2.2 _ ((mem_reads_iff hs _).mpr ⟨i, rfl⟩)
  have hstate := h.readAt_state
  obtain ⟨hq, ho, hl, -⟩ := h
  refine ⟨hs, fun i => ?_, fun i j _ hi => ?_, ⟨by simp [ho], fun i => by simp [ho, hstate i]⟩, by simp [hq], by simp [hq], by simp [hl],
    fun x => ?_⟩
  · rw [hat]
    exact .of_free _
  · simp [live, hstate i] at hi
  · cases x <;> simp [hl, listedItem, hstate, hq, readyAdmission]

/-! ### One entry of the table changes -/

/-- Entry `i` becomes `e`: it fits its place, its range stays apart from the others', and the two lists follow it. -/
theorem RequestsRight.update (h : RequestsRight k m s) (i : ReadIndex) {e : ReadEntry}
    (ht : t.reads.entries = s.reads.entries.set i.toNat e ∧ t.writes.queue = s.writes.queue ∧ t.ctl.config = s.ctl.config)
    (he : ReadRight s.ctl.config m s.writes.queue.length e)
    (hapart : live e = true → ∀ j, j ≠ i → live (readAt j s) = true →
      rangesMeet e.addr.toNat e.length (readAt j s).addr.toNat (readAt j s).length = false)
    (horder : t.reads.order.Nodup ∧ ∀ j, j ∈ t.reads.order ↔ if j = i then e.state ≠ .free else j ∈ s.reads.order)
    (hready : t.sel.ready.Nodup ∧ ∀ x, x ∈ t.sel.ready ↔
      if isReadItem i x = true then e.state = .ready ∧ x = .read i e.incarnation else x ∈ s.sel.ready) : RequestsRight k m t := by
  obtain ⟨hentries, hq, hc⟩ := ht
  have hself : readAt i t = e := by
    have := readAt_setRead_self s i e h.sized
    simpa [readAt, hentries, setRead] using this
  have hother (j : ReadIndex) (hj : j ≠ i) : readAt j t = readAt j s := by
    have := readAt_setRead_other s i j e hj
    simpa [readAt, hentries, setRead] using this
  refine ⟨by simp [hentries, h.sized], fun j => ?_, fun a b hab ha hb => ?_, ⟨horder.1, fun j => ?_⟩, ?_, ?_, hready.1, fun x => ?_⟩
  · rw [hc, hq]
    by_cases hj : j = i
    · rw [hj, hself]
      exact he
    · rw [hother j hj]
      exact h.reads j
  · have hsym (a n b m : Nat) (hm : rangesMeet a n b m = false) : rangesMeet b m a n = false := by
      simp only [rangesMeet, Bool.and_eq_false_iff, decide_eq_false_iff_not] at hm ⊢
      exact hm.symm
    by_cases hai : a = i
    · have hbi : b ≠ i := fun hb => hab (hai.trans hb.symm)
      rw [hother b hbi] at hb ⊢
      rw [hai, hself] at ha ⊢
      exact hapart ha b hbi hb
    · rw [hother a hai] at ha ⊢
      by_cases hbi : b = i
      · rw [hbi, hself] at hb ⊢
        exact hsym _ _ _ _ (hapart hb a hai ha)
      · rw [hother b hbi] at hb ⊢
        exact h.apart a b hab ha hb
  · rw [horder.2]
    by_cases hj : j = i
    · simp [hj, hself]
    · rw [if_neg hj, hother j hj]
      exact h.ranks.2 j
  · rw [hq, hc]
    exact h.queue
  · rw [hq]
    exact h.rest
  · rw [hready.2]
    cases x with
    | write a => simpa [isReadItem, listedItem] using h.ready (.write a)
    | read j inc =>
      by_cases hj : j = i
      · subst hj
        simp only [isReadItem, beq_self_eq_true, if_true, listedItem, hself, ReadyItem.read.injEq, true_and]
        exact and_congr_right fun _ => eq_comm
      · simpa [isReadItem, hj, listedItem, hother j hj] using h.ready (.read j inc)

end Sys2Proof.Machine


/-! ## The requests: operations of the read agent -/

namespace Sys2Proof.Machine

variable {s t u : State} {k : Option Word} {m : Nat}

/-! ### The parts of a change of one entry -/

/-- The two lists and the other entries of `t` where entry `i` has become `e`, as `RequestsRight.update` asks for them. -/
def ReadyFollows (i : ReadIndex) (e : ReadEntry) (s t : State) : Prop :=
  t.sel.ready.Nodup ∧ ∀ x, x ∈ t.sel.ready ↔
    if isReadItem i x = true then e.state = .ready ∧ x = .read i e.incarnation else x ∈ s.sel.ready

def OrderFollows (i : ReadIndex) (e : ReadEntry) (s t : State) : Prop :=
  t.reads.order.Nodup ∧ ∀ j, j ∈ t.reads.order ↔ if j = i then e.state ≠ .free else j ∈ s.reads.order

def StaysApart (i : ReadIndex) (e : ReadEntry) (s : State) : Prop :=
  live e = true → ∀ j, j ≠ i → live (readAt j s) = true →
    rangesMeet e.addr.toNat e.length (readAt j s).addr.toNat (readAt j s).length = false

theorem isReadItem_iff {i : ReadIndex} {x : ReadyItem} : isReadItem i x = true ↔ ∃ inc, x = .read i inc := by
  cases x with
  | read j inc =>
    simp only [isReadItem, beq_iff_eq, ReadyItem.read.injEq]
    exact ⟨fun h => ⟨inc, h, rfl⟩, fun ⟨_, h, _⟩ => h⟩
  | write a => simp [isReadItem]

theorem RequestsRight.orderFollows_same (h : RequestsRight k m s) (i : ReadIndex) {e : ReadEntry}
    (he : e.state ≠ .free ↔ (readAt i s).state ≠ .free) (ht : t.reads.order = s.reads.order) : OrderFollows i e s t := by
  refine ⟨ht ▸ h.ranks.1, fun j => ?_⟩
  rw [ht]
  split
  next hj => rw [hj, he, h.ranks.2]
  · rfl

theorem RequestsRight.orderFollows_free (h : RequestsRight k m s) (i : ReadIndex) {e : ReadEntry} (he : e.state = .free)
    (ht : t.reads.order = s.reads.order.filter (fun j => j != i)) : OrderFollows i e s t := by
  refine ⟨ht ▸ h.ranks.1.filter _, fun j => ?_⟩
  by_cases hj : j = i <;> simp [ht, hj, he]

/-- An entry out of the ready list that is not READY. -/
theorem RequestsRight.readyFollows_unlisted (h : RequestsRight k m s) (i : ReadIndex) {e : ReadEntry} (he : e.state ≠ .ready)
    (ht : t.sel.ready = s.sel.ready.filter (fun x => !isReadItem i x)) : ReadyFollows i e s t := by
  refine ⟨ht ▸ h.once.filter _, fun x => ?_⟩
  by_cases hx : isReadItem i x = true <;> simp [ht, hx, he]

/-- An entry whose place in the ready list does not change. -/
theorem RequestsRight.readyFollows_same (h : RequestsRight k m s) (i : ReadIndex) {e : ReadEntry}
    (he : e.state = .ready ↔ (readAt i s).state = .ready) (hinc : e.incarnation = (readAt i s).incarnation)
    (ht : t.sel.ready = s.sel.ready) : ReadyFollows i e s t := by
  refine ⟨ht ▸ h.once, fun x => ?_⟩
  rw [ht]
  split
  next hx =>
    obtain ⟨inc, rfl⟩ := isReadItem_iff.mp hx
    rw [h.ready, listedItem, he, hinc]
    simp [eq_comm]
  · rfl

/-- An entry that becomes READY joins the ready list. -/
theorem RequestsRight.readyFollows_append (h : RequestsRight k m s) (i : ReadIndex) {e : ReadEntry} (he : e.state = .ready)
    (hi : (readAt i s).state ≠ .ready) (ht : t.sel.ready = s.sel.ready ++ [.read i e.incarnation]) : ReadyFollows i e s t := by
  have hnot (inc : Incarnation) : ReadyItem.read i inc ∉ s.sel.ready := fun hx => hi ((h.ready _).mp hx).1
  refine ⟨?_, fun x => ?_⟩
  · rw [ht]
    exact h.once.append (by simp) (by simpa using hnot _)
  · rw [ht]
    split
    next hx =>
      obtain ⟨inc, rfl⟩ := isReadItem_iff.mp hx
      simp [hnot, he]
    next hx =>
      have hne : x ≠ .read i e.incarnation := fun hx' => hx (isReadItem_iff.mpr ⟨_, hx'⟩)
      simp [hne]

/-- A range that was live before, or is no longer, stays apart from the others. -/
theorem RequestsRight.staysApart (h : RequestsRight k m s) (i : ReadIndex) {e : ReadEntry}
    (he : live e = true → live (readAt i s) = true ∧ e.addr = (readAt i s).addr ∧ e.length = (readAt i s).length) :
    StaysApart i e s := by
  intro hl j hj hlj
  obtain ⟨hlive, haddr, hlength⟩ := he hl
  rw [haddr, hlength]
  exact h.apart i j (Ne.symm hj) hlive hlj

theorem RequestsRight.replace (h : RequestsRight k m s) (i : ReadIndex) {e : ReadEntry}
    (ht : t.reads.entries = s.reads.entries.set i.toNat e ∧ t.writes.queue = s.writes.queue ∧ t.ctl.config = s.ctl.config)
    (he : ReadRight s.ctl.config m s.writes.queue.length e) (hapart : StaysApart i e s) (horder : OrderFollows i e s t)
    (hready : ReadyFollows i e s t) : RequestsRight k m t :=
  h.update i ht he hapart horder hready

/-! ### FREE and COMPLETE -/

theorem RequestsRight.freeRead (h : RequestsRight k m s) (i : ReadIndex) : RequestsRight k m (freeRead i s) := by
  refine h.replace i ⟨rfl, by simp, by simp⟩ (.of_free (readAt i s).incarnation) (fun hl => ?_) ?_ ?_
  · simp [live, ReadEntry.free] at hl
  · exact h.orderFollows_free i rfl rfl
  · exact h.readyFollows_unlisted i (by simp [ReadEntry.free]) rfl

theorem RequestsRight.completeRead (h : RequestsRight k m s) {i : ReadIndex} (hi : (readAt i s).state ≠ .free) (o : ReadOutcome)
    (data : List Byte) : RequestsRight k m (completeRead i o data s) := by
  unfold Machine.completeRead
  split
  · exact h.freeRead i
  next hov =>
    obtain ⟨-, hshape, -, -, -, -, hattempts, -, -, -⟩ := h.reads i
    refine h.replace i ⟨rfl, by simp, by simp⟩ ?_ (h.staysApart i fun _ => ⟨by simp [live, hi, hov], rfl, rfl⟩) ?_ ?_
    · exact ⟨by simp, fun _ => hshape hi, by simp, by simp, by simp, by simp, hattempts, by simp, by simp, by simp [discardTicks]⟩
    · exact h.orderFollows_same i (by simp [hi]) (by simp)
    · exact h.readyFollows_unlisted i (by simp) rfl

theorem RequestsRight.failRead (h : RequestsRight k m s) {i : ReadIndex} (hi : (readAt i s).state ≠ .free) (r : FaultReason) :
    RequestsRight k m (failRead r s i) := by
  unfold Machine.failRead
  split
  · exact h.freeRead i
  · exact (h.completeRead hi (.fault r) []).of_same (by simp)

/-- A purge of reads that are not FREE, each of them once. -/
theorem RequestsRight.failed (r : FaultReason) (l : List ReadIndex) (h : RequestsRight k m s) (hl : l.Nodup)
    (hi : ∀ i ∈ l, (readAt i s).state ≠ .free) : RequestsRight k m (l.foldl (Machine.failRead r) s) := by
  induction l generalizing s with
  | nil => exact h
  | cons i l ih =>
    obtain ⟨hnot, hl⟩ := List.nodup_cons.mp hl
    refine ih (h.failRead (hi i List.mem_cons_self) r) hl fun j hj => ?_
    rw [readAt_failRead_other r i j s (by rintro rfl; exact hnot hj)]
    exact hi j (List.mem_cons_of_mem i hj)

theorem RequestsRight.fetchingReads (h : RequestsRight k m s) (p : ReadEntry → Bool) :
    (fetchingReads p s).Nodup ∧ ∀ i ∈ fetchingReads p s, (readAt i s).state ≠ .free := by
  refine ⟨h.ranks.1.filter _, fun i hi hfree => ?_⟩
  have hf := (List.mem_filter.mp hi).2
  simp [hfree, fetching] at hf

theorem nodup_leadWith {l : List ReadIndex} (n : Nat) (hl : l.Nodup) : (leadWith n l).Nodup := by
  have hperm : (leadWith n l).Perm l := by
    have := List.perm_append_comm (l₁ := l.drop (n % l.length)) (l₂ := l.take (n % l.length))
    rwa [List.take_append_drop] at this
  exact hperm.nodup_iff.mpr hl

theorem RequestsRight.purgeReads (h : RequestsRight k m s) (n : Station) (first : Nat) :
    RequestsRight k m (purgeReads n first s) := by
  obtain ⟨hl, hi⟩ := h.fetchingReads (fun e => e.dest == n)
  exact h.failed .peerLost _ (nodup_leadWith first hl) fun i hmem => hi i ((mem_leadWith first _ i).mp hmem)

theorem RequestsRight.drainReads (h : RequestsRight k m s) : RequestsRight k m (drainReads s) := by
  obtain ⟨hl, hi⟩ := h.fetchingReads (fun _ => true)
  exact h.failed .leaving _ hl hi

/-! ### READY and ISSUED -/

/-- A WAITING read with nothing ahead, or an ISSUED one with retries left, becomes READY (R51, R56). -/
theorem RequestsRight.makeReady (h : RequestsRight k m s) {i : ReadIndex}
    (hi : (readAt i s).state = .waiting ∧ (readAt i s).ahead = 0 ∨
      (readAt i s).state = .issued ∧ (readAt i s).attempts ≤ s.ctl.config.retryLimit.toNat) :
    RequestsRight k m (makeReady i s) := by
  obtain ⟨-, hshape, -, hdiscard, hwaiting, hahead, hattempts, -, -, hbound⟩ := h.reads i
  have hne : (readAt i s).state ≠ .free ∧ (readAt i s).state ≠ .ready ∧ (readAt i s).state ≠ .complete := by
    obtain ⟨hs, -⟩ | ⟨hs, -⟩ := hi <;> simp [hs]
  refine h.replace i ⟨rfl, by simp, by simp⟩ ?_ (h.staysApart i fun hl => ?_) ?_ ?_
  · refine ⟨by simp, fun _ => hshape hne.1, by simp, ?_, by simp, fun _ => ?_, hattempts, fun _ => ?_, by simp, hbound⟩
    · simpa [hne.2.2] using hdiscard
    · obtain ⟨-, ha⟩ | ⟨hs, -⟩ := hi
      · exact ha
      · exact hahead (.inr hs)
    · obtain ⟨hs, -⟩ | ⟨-, ha⟩ := hi
      · simp [(hwaiting hs).2.2]
      · exact ha
  · refine ⟨?_, rfl, rfl⟩
    simp only [live, Bool.and_eq_true, bne_iff_ne] at hl ⊢
    exact ⟨hne.1, hl.2⟩
  · exact h.orderFollows_same i (by simp [hne.1]) (by simp [Machine.makeReady])
  · exact h.readyFollows_append i rfl hne.2.1 rfl

/-- The READ_REQ of the READY entry has been sent, and its item has left the list (R53). -/
theorem RequestsRight.readSent (h : RequestsRight k m s) (i : ReadIndex) (inc : Incarnation) :
    RequestsRight k m (readSent i inc (unreadyItem (.read i inc) s)) := by
  simp only [Machine.readSent]
  have hat : readAt i (unreadyItem (.read i inc) s) = readAt i s := rfl
  rw [hat]
  split
  next hr =>
    simp only [Bool.and_eq_true, decide_eq_true_eq] at hr
    obtain ⟨hinc, hstate⟩ := hr
    obtain ⟨-, hshape, -, hdiscard, -, hahead, -, hretries, -, hbound⟩ := h.reads i
    refine h.replace i ⟨rfl, by simp, by simp⟩ ?_ (h.staysApart i fun hl => ?_) ?_ ⟨h.once.filter _, fun x => ?_⟩
    · refine ⟨by simp, fun _ => hshape (by simp [hstate]), by simp, ?_, by simp, fun _ => hahead (.inl hstate), ?_, by simp, ?_, hbound⟩
      · simpa [hstate] using hdiscard
      · simpa using hretries hstate
      · simp [responseTicks]
    · refine ⟨?_, rfl, rfl⟩
      simp only [live, Bool.and_eq_true, bne_iff_ne] at hl ⊢
      exact ⟨by simp [hstate], hl.2⟩
    · exact h.orderFollows_same i (by simp [hstate]) (by simp)
    · show x ∈ s.sel.ready.filter (fun y => y != .read i inc) ↔ _
      by_cases hx : isReadItem i x = true
      · obtain ⟨inc', rfl⟩ := isReadItem_iff.mp hx
        have hsame : ReadyItem.read i inc' ∈ s.sel.ready → inc' = inc := fun hmem => by
          rw [← hinc]
          exact ((h.ready _).mp hmem).2.symm
        simpa [isReadItem] using hsame
      · have hne : x ≠ .read i inc := fun hx' => hx (isReadItem_iff.mpr ⟨inc, hx'⟩)
        simp [hx, hne]
  next hr =>
    have hkeep : s.sel.ready.filter (fun y => y != .read i inc) = s.sel.ready := by
      refine List.filter_eq_self.mpr fun x hx => ?_
      by_contra hx'
      obtain rfl : x = .read i inc := by simpa using hx'
      obtain ⟨hs, hi⟩ := (h.ready _).mp hx
      exact hr (by simp [hs, hi])
    exact h.of_same ⟨rfl, rfl, hkeep, rfl⟩

/-! ### Overtaking, delivery and allocation -/

/-- A change of an entry that keeps its state and its range, or takes it out of the live ones. -/
theorem RequestsRight.setKept (h : RequestsRight k m s) (i : ReadIndex) {e : ReadEntry}
    (he : ReadRight s.ctl.config m s.writes.queue.length e) (hs : e.state = (readAt i s).state)
    (hinc : e.incarnation = (readAt i s).incarnation)
    (hl : live e = true → live (readAt i s) = true ∧ e.addr = (readAt i s).addr ∧ e.length = (readAt i s).length) :
    RequestsRight k m (setRead i e s) :=
  h.replace i ⟨rfl, by simp, by simp⟩ he (h.staysApart i hl) (h.orderFollows_same i (by rw [hs]) rfl)
    (h.readyFollows_same i (by rw [hs]) hinc rfl)

theorem RequestsRight.overtakeRead (h : RequestsRight k m s) (a n : Nat) (i : ReadIndex) :
    RequestsRight k m (overtakeRead a n s i) := by
  simp only [Machine.overtakeRead]
  split
  · split
    next hsent =>
      obtain ⟨-, hshape, hresponse, hdiscard, hwaiting, hahead, hattempts, hretries, hrbound, hdbound⟩ := h.reads i
      have hne : (readAt i s).state ≠ .free := by
        simp only [Bool.or_eq_true, Bool.and_eq_true, decide_eq_true_eq] at hsent
        obtain hs | ⟨hs, -⟩ := hsent <;> simp [hs]
      refine h.setKept i ⟨fun hf => absurd hf hne, hshape, hresponse, hdiscard, hwaiting, hahead, hattempts, hretries, hrbound,
        hdbound⟩ rfl rfl fun hl => ?_
      simp [live] at hl
    · exact h.freeRead i
  · exact h

theorem RequestsRight.overtake (h : RequestsRight k m s) (a n : Nat) : RequestsRight k m (overtake a n s) :=
  List.foldlRecOn (motive := RequestsRight k m) allReadIndexes (Machine.overtakeRead a n) h fun _ hu i _ => hu.overtakeRead a n i

theorem RequestsRight.deliver (h : RequestsRight k m s) {i : ReadIndex} (hi : (readAt i s).state = .complete) (a : GlobalAddr)
    (be : Enables) : RequestsRight k m (deliver i a be s).next := by
  simp only [Machine.deliver]
  split
  · split
    · obtain ⟨-, hshape, hresponse, -, -, -, hattempts, -, hbound, -⟩ := h.reads i
      refine h.setKept i ?_ rfl rfl fun hl => ⟨by simpa [live] using hl, rfl, rfl⟩
      refine ⟨by simp [hi], hshape, hresponse, by simp [hi], by simp [hi], by simp [hi], hattempts, by simp [hi], hbound, ?_⟩
      simp [discardTicks]
    · exact h.freeRead i
  · exact h.freeRead i

/-- The fetch of a new read meets no live one, and has the shape of a fetch (R47, R48, R50). -/
theorem RequestsRight.allocateRead (h : RequestsKept s) (i : ReadIndex) {n : Station} {a : GlobalAddr} {len : Nat} (p : Bool)
    (hn : validStation n = true) (hlen : len = 1 ∨ len = 2 ∨ len = 32)
    (hclear : ∀ j, j ≠ i → live (readAt j s) = true →
      rangesMeet a.toNat len (readAt j s).addr.toNat (readAt j s).length = false) :
    RequestsKept (Machine.allocateRead i n a len p s) := by
  have hfree : RequestsRight (readyAdmission s.writes.queue) 1 (Machine.freeRead i s) := RequestsRight.freeRead h i
  have hself : readAt i (Machine.freeRead i s) = ReadEntry.free (readAt i s).incarnation := readAt_freeRead_self i h.sized
  have hq : (Machine.allocateRead i n a len p s).writes.queue = s.writes.queue := by simp
  unfold RequestsKept
  rw [hq]
  have horder (v : State) (e : ReadEntry) (he : e.state ≠ .free) (hv : v.reads.order = (Machine.freeRead i s).reads.order ++ [i]) :
      OrderFollows i e (Machine.freeRead i s) v := by
    refine ⟨?_, fun j => ?_⟩
    · rw [hv]
      exact hfree.ranks.1.append (by simp) (by simp)
    · by_cases hj : j = i <;> simp [hv, hj, he]
  have hapart (e : ReadEntry) (he : e.addr = a ∧ e.length = len) : StaysApart i e (Machine.freeRead i s) := by
    intro _ j hj hl
    rw [readAt_freeRead_other i j s hj] at hl ⊢
    rw [he.1, he.2]
    exact hclear j hj hl
  have hright : ReadRight s.ctl.config 1 s.writes.queue.length (allocated ((readAt i s).incarnation + 1) n a len p s) := by
    by_cases hempty : s.writes.queue = []
    · constructor <;> simp [allocated, ReadEntry.free, hempty, hn, hlen]
    · constructor <;> simp [allocated, ReadEntry.free, hempty, hn, hlen]
      exact Nat.one_le_iff_ne_zero.mpr (by simpa using hempty)
  simp only [Machine.allocateRead]
  split
  next hempty =>
    refine hfree.replace i (e := allocated ((readAt i s).incarnation + 1) n a len p s) ⟨rfl, by simp, by simp⟩ (by simpa using hright)
      (hapart _ ⟨rfl, rfl⟩) (horder _ _ (by simp [allocated, hempty]) (by simp)) ?_
    exact hfree.readyFollows_append i (by simp [allocated, hempty]) (by simp [hself, ReadEntry.free]) rfl
  next hempty =>
    refine hfree.replace i (e := allocated ((readAt i s).incarnation + 1) n a len p s) ⟨rfl, by simp, by simp⟩ (by simpa using hright)
      (hapart _ ⟨rfl, rfl⟩) (horder _ _ (by simp [allocated, hempty]) (by simp)) ?_
    refine ⟨hfree.once, fun x => ?_⟩
    by_cases hx : isReadItem i x = true
    · obtain ⟨inc, rfl⟩ := isReadItem_iff.mp hx
      have hout : ReadyItem.read i inc ∉ (Machine.freeRead i s).sel.ready := fun hmem => by
        have := ((hfree.ready _).mp hmem).1
        simp [hself, ReadEntry.free] at this
      simpa [hx, allocated, hempty] using hout
    · simp [hx]

theorem RequestsKept.freeReads (h : RequestsKept s) (l : List ReadIndex) : RequestsKept (freeReads l s) := by
  have hq : (Machine.freeReads l s).writes.queue = s.writes.queue :=
    foldl_keeps (fun u i => Machine.freeRead i u) (·.writes.queue) (by simp) l s
  unfold RequestsKept
  rw [hq]
  exact List.foldlRecOn (motive := RequestsRight (readyAdmission s.writes.queue) 1) l (fun u i => Machine.freeRead i u) h
    fun _ hu i _ => hu.freeRead i

theorem RequestsKept.allocate (h : RequestsKept s) {n : Station} {a : GlobalAddr} {len : Nat} (p : Bool)
    (hn : validStation n = true) (hlen : len = 1 ∨ len = 2 ∨ len = 32) : RequestsKept (allocate n a len p s).next := by
  have hfull : RequestsKept (tableFull s).next := by
    have hk : RequestsRight (readyAdmission s.writes.queue) 1 (count .tableFull 1 s) := RequestsRight.of_same h (by simp)
    exact hk
  simp only [Machine.allocate]
  split
  next hspent =>
    split
    next i _ =>
      refine RequestsRight.allocateRead (h.freeReads (allReadIndexes.filter (readOverlaps a.toNat len s))) i p hn hlen
        fun j _ hlive => ?_
      change live (readAt j (Machine.freeReads _ s)) = true at hlive
      rw [readAt_freeReads _ j s h.sized] at hlive ⊢
      split at hlive
      · simp [live, ReadEntry.free] at hlive
      next hj =>
        rw [if_neg hj]
        have hapart : rangesMeet (readAt j s).addr.toNat (readAt j s).length a.toNat len = false := by
          simpa [mem_allReadIndexes, readOverlaps, hlive] using hj
        simp only [rangesMeet, Bool.and_eq_false_iff, decide_eq_false_iff_not] at hapart ⊢
        exact hapart.symm
    · exact hfull
  · exact hfull

end Sys2Proof.Machine


/-! ## The requests: operations of the write agent -/

namespace Sys2Proof.Machine

variable {s t u : State} {k : Option Word} {m : Nat} {w : PostedWrite} {rest : List PostedWrite}

/-! ### Entries leave the queue (R51, R72) -/

/-- The ready list follows the head alone: its reads are those of `s`, and its write is `k`. -/
def HeadFollows (k : Option Word) (s t : State) : Prop :=
  t.sel.ready.Nodup ∧ ∀ x, x ∈ t.sel.ready ↔
    match x with
    | .read i inc => ReadyItem.read i inc ∈ s.sel.ready
    | .write a => k = some a

theorem RequestsRight.headFollows_same (h : RequestsRight k m s) (ht : t.sel.ready = s.sel.ready) : HeadFollows k s t := by
  refine ⟨ht ▸ h.once, fun x => ?_⟩
  rw [ht]
  cases x with
  | read i inc => rfl
  | write a => exact h.ready _

theorem RequestsRight.headFollows_none (h : RequestsRight k m s)
    (ht : t.sel.ready = s.sel.ready.filter (fun x => !isWriteItem x)) : HeadFollows none s t := by
  refine ⟨ht ▸ h.once.filter _, fun x => ?_⟩
  cases x <;> simp [ht, isWriteItem]

theorem RequestsRight.headFollows_append (h : RequestsRight none m s) {a : Word}
    (ht : t.sel.ready = s.sel.ready ++ [.write a]) : HeadFollows (some a) s t := by
  have hnot (b : Word) : ReadyItem.write b ∉ s.sel.ready := fun hx => by simpa [listedItem] using (h.ready _).mp hx
  refine ⟨?_, fun x => ?_⟩
  · rw [ht]
    exact h.once.append (by simp) (by simpa using hnot a)
  · cases x with
    | read i inc => simp [ht]
    | write b => simp [ht, hnot, eq_comm]

/-- The queue changes, and each read's count of entries ahead with it. -/
theorem RequestsRight.requeue (h : RequestsRight k m s) {f : Nat → Nat} {k' : Option Word} {m' : Nat}
    (hreads : t.reads = { s.reads with entries := s.reads.entries.map (fun e => { e with ahead := f e.ahead }) })
    (hc : t.ctl.config = s.ctl.config) (hf0 : f 0 = 0)
    (hf : ∀ n, m ≤ n → n ≤ s.writes.queue.length → m' ≤ f n ∧ f n ≤ t.writes.queue.length)
    (hq : ∀ w ∈ t.writes.queue, WriteRight s.ctl.config w) (hrest : ∀ w ∈ t.writes.queue.tail, AtRest w)
    (hready : HeadFollows k' s t) : RequestsRight k' m' t := by
  have hat (i : ReadIndex) : readAt i t = { readAt i s with ahead := f (readAt i s).ahead } :=
    readAt_map (fun e => { e with ahead := f e.ahead }) i h.sized (by rw [hreads])
  refine ⟨by simp [hreads, h.sized], fun i => ?_, fun i j hij hi hj => ?_, ⟨by simpa [hreads] using h.ranks.1, fun i => ?_⟩,
    by rwa [hc], hrest, hready.1, fun x => ?_⟩
  · rw [hat, hc]
    obtain ⟨h1, h2, h3, h4, h5, h6, h7, h8, h9, h10⟩ := h.reads i
    refine ⟨fun hs => ?_, h2, h3, h4, fun hs => ?_, fun hs => ?_, h7, h8, h9, h10⟩
    · rw [h1 hs]
      simp [ReadEntry.free, hf0]
    · obtain ⟨hlo, hhi, ha⟩ := h5 hs
      exact ⟨(hf _ hlo hhi).1, (hf _ hlo hhi).2, ha⟩
    · show f (readAt i s).ahead = 0
      rw [h6 hs, hf0]
  · rw [hat] at hi hj ⊢
    rw [hat]
    exact h.apart i j hij hi hj
  · rw [hreads, hat]
    exact h.ranks.2 i
  · rw [hready.2]
    cases x with
    | read i inc => simpa [listedItem, hat] using h.ready (.read i inc)
    | write a => rfl

theorem RequestsRight.weaken (h : RequestsRight k m s) : RequestsRight k 0 s :=
  ⟨h.sized, fun i => by
    obtain ⟨h1, h2, h3, h4, h5, h6, h7, h8, h9, h10⟩ := h.reads i
    exact ⟨h1, h2, h3, h4, fun hs => ⟨Nat.zero_le _, (h5 hs).2⟩, h6, h7, h8, h9, h10⟩,
    h.apart, h.ranks, h.queue, h.rest, h.once, h.ready⟩

/-- The head leaves the queue, with its item and its place before the reads. -/
theorem RequestsRight.popHead (h : RequestsRight k m s) : RequestsRight none 0 (popHead s) := by
  refine h.requeue (f := (· - 1)) rfl (by simp) rfl (fun n _ hn => ⟨Nat.zero_le _, ?_⟩)
    (fun w hw => h.queue w (List.mem_of_mem_tail hw)) (fun w hw => h.rest w (List.mem_of_mem_tail hw)) (h.headFollows_none ?_)
  · show n - 1 ≤ s.writes.queue.tail.length
    rw [List.length_tail]
    exact Nat.sub_le_sub_right hn 1
  · rfl

theorem RequestsRight.dropHead (h : RequestsRight k m s) (w : PostedWrite) (r : FaultReason) :
    RequestsRight none 0 (dropHead w r s) :=
  h.popHead.of_same (by simp [Machine.dropHead])

theorem RequestsRight.listHead (h : RequestsRight none m s) (a : Word) :
    RequestsRight (some a) m (appendReady (.write a) s) := by
  have hlisted := h.headFollows_append (a := a) (t := appendReady (.write a) s) rfl
  refine ⟨h.sized, h.reads, h.apart, h.ranks, h.queue, h.rest, hlisted.1, fun x => ?_⟩
  rw [hlisted.2]
  cases x with
  | read i inc => exact h.ready (.read i inc)
  | write b => rfl

/-- With every entry at rest and no write listed, the first one to a PRESENT station becomes the ready head (R73). -/
theorem RequestsRight.judgeHeads (l : List PostedWrite) (h : RequestsRight none 0 s) (hq : s.writes.queue = l)
    (hl : ∀ w ∈ l, AtRest w) : RequestsRight (readyAdmission (judgeHeads l s).writes.queue) 0 (judgeHeads l s) := by
  induction l generalizing s with
  | nil => simpa only [Machine.judgeHeads, hq, readyAdmission_nil] using h
  | cons w rest ih =>
    unfold Machine.judgeHeads
    split
    · have hadm : readyAdmission (appendReady (.write w.admission) s).writes.queue = some w.admission := by
        simp [hq, readyAdmission_cons, headReady_of_atRest (hl w List.mem_cons_self)]
      rw [hadm]
      exact h.listHead w.admission
    · exact ih (h.dropHead w .unreachable) (by simp [hq]) fun x hx => hl x (List.mem_cons_of_mem w hx)

/-! ### The barriers (R51) -/

/-- With every WAITING read behind something, the barriers are right. -/
theorem RequestsRight.strengthen (h : RequestsRight k 0 s) (hw : ∀ i, (readAt i s).state = .waiting → (readAt i s).ahead ≠ 0) :
    RequestsRight k 1 s :=
  ⟨h.sized, fun i => by
    obtain ⟨h1, h2, h3, h4, h5, h6, h7, h8, h9, h10⟩ := h.reads i
    exact ⟨h1, h2, h3, h4, fun hs => ⟨Nat.one_le_iff_ne_zero.mpr (hw i hs), (h5 hs).2⟩, h6, h7, h8, h9, h10⟩,
    h.apart, h.ranks, h.queue, h.rest, h.once, h.ready⟩

theorem RequestsRight.released (l : List ReadIndex) (h : RequestsRight k 0 s)
    (hl : ∀ i, (readAt i s).state = .waiting → (readAt i s).ahead = 0 → i ∈ l) :
    RequestsRight k 1 (l.foldl releaseRead s) := by
  induction l generalizing s with
  | nil => exact h.strengthen fun i hi h0 => by simpa using hl i hi h0
  | cons i l ih =>
    rw [List.foldl_cons, releaseRead]
    split
    next hi =>
      simp only [Bool.and_eq_true, decide_eq_true_eq, beq_iff_eq] at hi
      refine ih (h.makeReady (.inl hi)) fun j hj h0 => ?_
      by_cases hji : j = i
      · have hself : readAt i (Machine.makeReady i s) = { readAt i s with state := .ready, responseTimer := none } :=
          readAt_setRead_self s i _ h.sized
        simp [hji, hself] at hj
      · have hother : readAt j (Machine.makeReady i s) = readAt j s := readAt_setRead_other s i j _ hji
        rw [hother] at hj h0
        exact (List.mem_cons.mp (hl j hj h0)).resolve_left hji
    next hi =>
      refine ih h fun j hj h0 => (List.mem_cons.mp (hl j hj h0)).resolve_left ?_
      rintro rfl
      exact hi (by simp [hj, h0])

theorem RequestsRight.releaseBarriers (h : RequestsRight k 0 s) : RequestsRight k 1 (releaseBarriers s) :=
  h.released s.reads.order fun i hi _ => (h.ranks.2 i).mpr (by simp [hi])

theorem RequestsRight.headGone (h : RequestsRight none 0 s) (hl : ∀ w ∈ s.writes.queue, AtRest w) : RequestsKept (headGone s) := by
  have hjudged := (h.judgeHeads s.writes.queue rfl hl).releaseBarriers
  have hq : (Machine.headGone s).writes.queue = (Machine.judgeHeads s.writes.queue s).writes.queue := by
    simp [Machine.headGone]
  unfold RequestsKept
  rw [hq]
  exact hjudged

/-! ### The head (R66, R75 to R79) -/

/-- The head is replaced by an entry of the same admission number, and the ready list follows it. -/
theorem RequestsKept.replaceHead (h : RequestsKept s) (hq : s.writes.queue = w :: rest) {w' : PostedWrite}
    (hw : WriteRight s.ctl.config w')
    (ht : t.reads = s.reads ∧ t.ctl.config = s.ctl.config ∧ t.writes.queue = w' :: rest)
    (hready : HeadFollows (readyAdmission (w' :: rest)) s t) : RequestsKept t := by
  obtain ⟨hr, hc, ht⟩ := ht
  unfold RequestsKept
  rw [ht]
  refine RequestsRight.requeue (m := 1) (f := id) h (by rw [hr]; simp) hc rfl (fun n h1 hn => ⟨h1, ?_⟩) (fun x hx => ?_) (fun x hx => ?_)
    hready
  · rw [ht]
    simpa [hq] using hn
  · rw [ht] at hx
    obtain rfl | hx := List.mem_cons.mp hx
    · exact hw
    · exact h.queue x (by simp [hq, hx])
  · rw [ht] at hx
    exact h.rest x (by simpa [hq] using hx)

/-- The head waits out a refusal with NOTICE_FULL (R79). -/
theorem RequestsKept.holdHead (h : RequestsKept s) (hq : s.writes.queue = w :: rest) (ha : headAwaits w = true)
    (hr : retriesLeft w.attempts s = true) : RequestsKept (holdHead w s) := by
  obtain ⟨-, -, hsent, -, -, -, hshape⟩ := h.queue w (by simp [hq])
  have hattempts : 1 ≤ w.attempts := by
    simp only [headAwaits, Bool.or_eq_true, decide_eq_true_eq] at ha
    exact ha.elim hsent id
  have hlimit : w.attempts ≤ s.ctl.config.retryLimit.toNat := by simpa [retriesLeft] using hr
  refine h.replaceHead hq (w' := { w with inFlight := false, held := true, timer := some (responseTicks s.ctl.config) }) ?_
    ⟨by simp, by simp, by simp [Machine.holdHead, setHead, setQueue, hq]⟩ ?_
  · exact ⟨by simp, by simp, fun _ => hattempts, Nat.le_succ_of_le hlimit, fun _ => hlimit, by simp [responseTicks], hshape⟩
  · rw [readyAdmission_cons, if_neg (by simp [headReady])]
    exact RequestsRight.headFollows_none h rfl

/-- A head that was not ready becomes ready for another sending (R76, R79). -/
theorem RequestsKept.readyHead (h : RequestsKept s) (hq : s.writes.queue = w :: rest) (hbusy : w.inFlight = true ∨ w.held = true)
    (hr : w.attempts ≤ s.ctl.config.retryLimit.toNat) : RequestsKept (readyHead w s) := by
  obtain ⟨-, -, -, hlimit, -, -, hshape⟩ := h.queue w (by simp [hq])
  have hnone : RequestsRight none 1 s := by
    have hnot : headReady w = false := by
      obtain hb | hb := hbusy <;> simp [headReady, hb]
    have hk : readyAdmission s.writes.queue = none := by simp [hq, readyAdmission_cons, hnot]
    exact hk ▸ h
  refine h.replaceHead hq (w' := { w with inFlight := false, held := false, timer := none }) ?_
    ⟨by simp, by simp, by simp [Machine.readyHead, setHead, setQueue, hq]⟩ ?_
  · exact ⟨by simp, by simp, by simp, hlimit, fun _ => hr, by simp, hshape⟩
  · rw [readyAdmission_cons, if_pos (by simp [headReady])]
    exact hnone.headFollows_append rfl

/-- The WRITE of the ready head has been sent, and its item has left the list (R75). -/
theorem RequestsKept.writeSent (h : RequestsKept s) (a : Word) : RequestsKept (writeSent a (unreadyItem (.write a) s)) := by
  have hfilter (hnot : ReadyItem.write a ∉ s.sel.ready) : RequestsKept (unreadyItem (.write a) s) := by
    have hkeep : s.sel.ready.filter (fun y => y != .write a) = s.sel.ready :=
      List.filter_eq_self.mpr fun x hx => by
        by_contra hx'
        obtain rfl : x = .write a := by simpa using hx'
        exact hnot hx
    exact RequestsRight.of_same h ⟨rfl, rfl, hkeep, rfl⟩
  have hqueue : (unreadyItem (.write a) s).writes.queue = s.writes.queue := rfl
  unfold Machine.writeSent
  rw [hqueue]
  cases hq : s.writes.queue with
  | nil =>
    refine hfilter fun hx => ?_
    simpa [listedItem, hq, readyAdmission] using (RequestsRight.ready h _).mp hx
  | cons w rest =>
    simp only
    split
    next hw =>
      simp only [Bool.and_eq_true, decide_eq_true_eq] at hw
      obtain ⟨rfl, hready⟩ := hw
      have hrest : w.inFlight = false ∧ w.held = false := by simpa [headReady] using hready
      obtain ⟨-, -, -, -, hretries, -, hshape⟩ := h.queue w (by simp [hq])
      refine h.replaceHead hq (w' := { w with inFlight := true, attempts := w.attempts + 1, timer := some (responseTicks s.ctl.config) })
        ?_ ⟨by simp, by simp, by simp [setHead, setQueue, hq]⟩ ?_
      · exact ⟨fun _ => hrest.2, by simp, by simp, by simpa using hretries hrest.1, by simp, by simp [responseTicks], hshape⟩
      · rw [readyAdmission_cons, if_neg (by simp [headReady])]
        refine ⟨h.once.filter _, fun x => ?_⟩
        show x ∈ s.sel.ready.filter (fun y => y != .write w.admission) ↔ _
        cases x with
        | read i inc => simp
        | write b =>
          have hb : ReadyItem.write b ∈ s.sel.ready → b = w.admission := fun hx => by
            simpa [listedItem, hq, readyAdmission_cons, hready, eq_comm] using (RequestsRight.ready h _).mp hx
          simpa using hb
    next hw =>
      refine hfilter fun hx => hw ?_
      have hk := (RequestsRight.ready h _).mp hx
      simpa [listedItem, hq, readyAdmission_cons, and_comm] using hk

/-! ### Answers and timeouts of the head -/

theorem RequestsRight.atRest_tail (h : RequestsRight k m s) (hq : s.writes.queue = w :: rest) : ∀ x ∈ rest, AtRest x :=
  fun x hx => h.rest x (by simpa [hq] using hx)

/-- The head leaves, and the next one is judged (R72). -/
theorem RequestsKept.retire (h : RequestsKept s) (hq : s.writes.queue = w :: rest) : RequestsKept (headGone (Machine.popHead s)) :=
  (RequestsRight.popHead h).headGone fun x hx => RequestsRight.atRest_tail h hq x (by simpa [hq] using hx)

theorem RequestsKept.drop (h : RequestsKept s) (hq : s.writes.queue = w :: rest) (r : FaultReason) :
    RequestsKept (headGone (Machine.dropHead w r s)) :=
  (RequestsRight.dropHead h w r).headGone fun x hx => RequestsRight.atRest_tail h hq x (by simpa [hq] using hx)

theorem RequestsKept.count (h : RequestsKept s) (c : Counter) (n : Nat) : RequestsKept (Machine.count c n s) :=
  RequestsRight.of_same h (by simp)

theorem RequestsKept.takeWriteAck (h : RequestsKept s) (n : Station) (tag : Byte) : RequestsKept (takeWriteAck n tag s) := by
  unfold Machine.takeWriteAck
  split
  · exact h.count _ _
  next hq =>
    split
    · exact h.retire hq
    · exact h.count _ _

theorem RequestsKept.takeWriteNack (h : RequestsKept s) (n : Station) (tag : Byte) (r : NackReason) :
    RequestsKept (takeWriteNack n tag r s) := by
  unfold Machine.takeWriteNack
  split
  · exact h.count _ _
  next hq =>
    split
    next ha =>
      simp only [answersHead, Bool.and_eq_true] at ha
      split
      next hr =>
        simp only [Bool.and_eq_true] at hr
        exact h.holdHead hq ha.1.1 hr.2
      · exact h.drop hq _
    · exact h.count _ _

theorem RequestsKept.headTimedOut (h : RequestsKept s) (hq : s.writes.queue = w :: rest) (hw : w.inFlight = true) :
    RequestsKept (headTimedOut w s) := by
  unfold Machine.headTimedOut
  split
  next hr => exact h.readyHead hq (.inl hw) (by simpa [retriesLeft] using hr)
  · have hdropped : RequestsRight none 0 (markSilent w.dest (Machine.dropHead w .noAnswer s)) :=
      (RequestsRight.dropHead h w .noAnswer).of_same (by simp)
    exact hdropped.headGone fun x hx => RequestsRight.atRest_tail h hq x (by simpa [hq] using hx)

/-! ### Purges and admission -/

theorem mem_tail_filter {α : Type} {p : α → Bool} {l : List α} {x : α} (hx : x ∈ (l.filter p).tail) : x ∈ l.tail := by
  cases l with
  | nil => simp at hx
  | cons a l =>
    by_cases ha : p a = true
    · rw [List.filter_cons_of_pos ha] at hx
      exact (List.mem_filter.mp hx).1
    · rw [List.filter_cons_of_neg ha] at hx
      exact (List.mem_filter.mp (List.mem_of_mem_tail hx)).1

theorem RequestsKept.removeWrites (h : RequestsKept s) (gone : PostedWrite → Bool) :
    RequestsRight (if s.writes.queue.head?.any gone = true then none else readyAdmission s.writes.queue) 0 (removeWrites gone s) := by
  have hq : (Machine.removeWrites gone s).writes.queue = s.writes.queue.filter (fun w => !gone w) := by
    simp [Machine.removeWrites, setQueue]
  refine RequestsRight.requeue h (f := fun n => ((s.writes.queue.take n).filter (fun w => !gone w)).length) ?_ (by simp) (by simp)
    (fun n _ _ => ⟨Nat.zero_le _, ?_⟩) (fun x hx => ?_) (fun x hx => ?_) ?_
  · simp only [Machine.removeWrites]
    split <;> rfl
  · rw [hq]
    exact List.Sublist.length_le ((List.take_sublist n _).filter _)
  · rw [hq] at hx
    exact h.queue x (List.mem_filter.mp hx).1
  · rw [hq] at hx
    exact h.rest x (mem_tail_filter hx)
  · simp only [Machine.removeWrites]
    split
    · exact RequestsRight.headFollows_none h rfl
    · exact RequestsRight.headFollows_same h rfl

theorem RequestsKept.purgeWrites (h : RequestsKept s) (gone : PostedWrite → Bool) (r : FaultReason) :
    RequestsKept (purgeWrites gone r s) := by
  unfold Machine.purgeWrites
  split
  · exact h
  next x l hgone =>
    have hremoved := h.removeWrites gone
    have hcounted (k' : Option Word) (hr : RequestsRight k' 0 (Machine.removeWrites gone s)) :
        RequestsRight k' 0 (handOn (writeFault x r) (Machine.count .writeLoss (l.length + 1) (Machine.removeWrites gone s))) :=
      hr.of_same (by simp)
    have hq : (Machine.removeWrites gone s).writes.queue = s.writes.queue.filter (fun w => !gone w) := by
      simp [Machine.removeWrites, setQueue]
    simp only
    split
    next hhead =>
      rw [if_pos hhead] at hremoved
      refine (hcounted _ hremoved).headGone fun y hy => ?_
      obtain ⟨w, rest, hqueue, hw⟩ : ∃ w rest, s.writes.queue = w :: rest ∧ gone w = true := by
        cases hqueue : s.writes.queue with
        | nil => simp [hqueue] at hhead
        | cons w rest => exact ⟨w, rest, rfl, by simpa [hqueue] using hhead⟩
      have hy : y ∈ rest.filter (fun w => !gone w) := by simpa [hq, hqueue, hw] using hy
      exact RequestsRight.atRest_tail h hqueue y (List.mem_filter.mp hy).1
    next hhead =>
      rw [if_neg hhead] at hremoved
      have hk : readyAdmission (Machine.removeWrites gone s).writes.queue = readyAdmission s.writes.queue := by
        rw [hq]
        cases hqueue : s.writes.queue with
        | nil => rfl
        | cons w rest =>
          have hw : gone w = false := by simpa [hqueue] using hhead
          simp [hw, readyAdmission_cons]
      have hdone := (hcounted _ hremoved).releaseBarriers
      unfold RequestsKept
      simpa [hk] using hdone

/-- The admission of a write: behind the others, or as the ready head (R71). -/
theorem RequestsKept.admitWrite (h : RequestsKept s) {n : Station} {data : List Byte} (hn : validStation n = true)
    (hdata : data.length = 1 ∨ data.length = 2) (a : GlobalAddr) (x : Bool) : RequestsKept (admitWrite n a data x s) := by
  have hposted : WriteRight s.ctl.config (posted n a data x s) := by
    constructor <;> simp [posted, hn, hdata]
  have hrest : AtRest (posted n a data x s) := ⟨rfl, rfl, rfl⟩
  have hq : (enqueueWrite n a data x s).writes.queue = s.writes.queue ++ [posted n a data x s] := by
    simp [enqueueWrite]
  have hqueued : RequestsRight (readyAdmission s.writes.queue) 1 (enqueueWrite n a data x s) := by
    refine RequestsRight.requeue h (f := id) (by simp) (by simp) rfl (fun i h1 hi => ⟨h1, ?_⟩) (fun w hw => ?_) (fun w hw => ?_)
      (RequestsRight.headFollows_same h (by simp))
    · rw [hq, List.length_append]
      exact Nat.le_add_right_of_le hi
    · rw [hq] at hw
      obtain hw | hw := List.mem_append.mp hw
      · exact h.queue w hw
      · rw [List.mem_singleton.mp hw]
        exact hposted
    · rw [hq] at hw
      cases hqueue : s.writes.queue with
      | nil => simp [hqueue] at hw
      | cons y rest =>
        have hw : w ∈ rest ∨ w = posted n a data x s := by simpa [hqueue] using hw
        obtain hw | rfl := hw
        · exact RequestsRight.atRest_tail h hqueue w hw
        · exact hrest
  have hovertaken := hqueued.overtake a.toNat data.length
  have hq' : (overtake a.toNat data.length (enqueueWrite n a data x s)).writes.queue = s.writes.queue ++ [posted n a data x s] := by
    simpa using hq
  simp only [Machine.admitWrite]
  split
  next hempty =>
    have hnil : s.writes.queue = [] := by simpa using hempty
    rw [hnil, readyAdmission_nil] at hovertaken
    have hadm : readyAdmission (appendReady (.write s.writes.admission)
        (overtake a.toNat data.length (enqueueWrite n a data x s))).writes.queue = some s.writes.admission := by
      have hr := headReady_of_atRest hrest
      simp only [appendReady_frame, hq', hnil, List.nil_append, readyAdmission_cons, hr, if_true]
      rfl
    unfold RequestsKept
    rw [hadm]
    exact hovertaken.listHead _
  next hempty =>
    have hk : readyAdmission (s.writes.queue ++ [posted n a data x s]) = readyAdmission s.writes.queue := by
      cases hqueue : s.writes.queue with
      | nil => simp [hqueue] at hempty
      | cons y rest => simp [readyAdmission_cons]
    unfold RequestsKept
    rw [hq', hk]
    exact hovertaken

end Sys2Proof.Machine


/-! ## Every step keeps the requests -/

namespace Sys2Proof.Machine

variable {s t u : State} {c : Instr}

/-! ### Frames -/

theorem RequestsKept.of_same (h : RequestsKept s)
    (ht : t.reads = s.reads ∧ t.writes.queue = s.writes.queue ∧ t.sel.ready = s.sel.ready ∧ t.ctl.config = s.ctl.config) :
    RequestsKept t := by
  unfold RequestsKept
  rw [ht.2.1]
  exact RequestsRight.of_same h ht

/-- An operation of the read agent, which leaves the queue as it is. -/
theorem RequestsKept.of_reads (h : RequestsKept s) (ht : t.writes = s.writes)
    (hr : RequestsRight (readyAdmission s.writes.queue) 1 s → RequestsRight (readyAdmission s.writes.queue) 1 t) : RequestsKept t := by
  unfold RequestsKept
  rw [ht]
  exact hr h

theorem state_ne_free_of_awaitsAnswer {n : Station} {tag : Byte} (h : awaitsAnswer n tag s = true) :
    (readAt (tagIndex tag) s).state ≠ .free := by
  intro hf
  simp [awaitsAnswer, hf] at h

theorem RequestsKept.takeReadRsp (h : RequestsKept s) (n : Station) (tag : Byte) (data : List Byte) :
    RequestsKept (takeReadRsp n tag data s) := by
  unfold Machine.takeReadRsp
  split
  next ha =>
    simp only [Bool.and_eq_true] at ha
    exact h.of_reads (by simp) fun hk => hk.completeRead (state_ne_free_of_awaitsAnswer ha.1) _ _
  · exact h.count _ _

theorem RequestsKept.takeReadNack (h : RequestsKept s) (n : Station) (tag : Byte) (r : NackReason) :
    RequestsKept (takeReadNack n tag r s) := by
  unfold Machine.takeReadNack
  split
  next ha => exact h.of_reads (by simp) fun hk => hk.failRead (state_ne_free_of_awaitsAnswer ha) _
  · exact h.count _ _

theorem RequestsKept.purgeReads (h : RequestsKept s) (n : Station) (first : Nat) : RequestsKept (purgeReads n first s) :=
  h.of_reads (by simp) fun hk => hk.purgeReads n first

theorem RequestsKept.drainReads (h : RequestsKept s) : RequestsKept (drainReads s) := h.of_reads (by simp) fun hk => hk.drainReads

theorem RequestsKept.agentsLose (h : RequestsKept s) (n : Station) : RequestsKept (agentsLose n s) := by
  have hchoice : RequestsKept (s.setChoice (s.choice + 1)) := h.of_same ⟨rfl, rfl, rfl, rfl⟩
  simp only [Machine.agentsLose]
  split
  · exact (hchoice.purgeReads n _).purgeWrites _ _
  · exact (hchoice.purgeWrites _ _).purgeReads n _

theorem RequestsKept.drainAgents (h : RequestsKept s) : RequestsKept (drainAgents s) := by
  have hchoice : RequestsKept (s.setChoice (s.choice + 1)) := h.of_same ⟨rfl, rfl, rfl, rfl⟩
  simp only [Machine.drainAgents]
  split
  · exact hchoice.drainReads.purgeWrites _ _
  · exact (hchoice.purgeWrites _ _).drainReads

theorem RequestsKept.losePeer (h : RequestsKept s) (n : Station) : RequestsKept (losePeer n s) := by
  have hloses : RequestsKept (Machine.directoryLoses n (Machine.setPeer n (lostRecord (peerOf n s)) s)) := by
    refine h.of_same ⟨by simp, by simp, ?_, by simp⟩
    simp [directoryLoses, (returnRule_sel _).1]
  have hpurged : RequestsKept (Machine.purgeResponses n (Machine.agentsLose n
      (Machine.directoryLoses n (Machine.setPeer n (lostRecord (peerOf n s)) s)))) := (hloses.agentsLose n).of_same (by simp)
  exact hpurged

theorem RequestsKept.takeAnnounce (h : RequestsKept s) (f : Frame) (interval : Byte) (gs : List RegionGroup) :
    RequestsKept (takeAnnounce f interval gs s) := by
  have hasked (v : State) (hv : RequestsKept v) :
      RequestsKept (if f.fresh && decide (v.ctl.span = .online) then requestAnnounce v else v) := by
    split
    · exact hv.of_same ⟨by simp, by simp, requestAnnounce_ready v, by simp⟩
    · exact hv
  have hregions (v : State) (hv : RequestsKept v) : RequestsKept (takeRegions f.src gs v) :=
    hv.of_same ⟨by simp, by simp, (takeRegions_sel f.src gs v).1, by simp⟩
  have hrecord : RequestsKept (if f.fresh then takeFresh f.src (takeInterval f.src interval s) else takeInterval f.src interval s) := by
    split <;> exact h.of_same (by simp)
  exact hasked _ (hregions _ hrecord)

theorem RequestsKept.frameContent (h : RequestsKept s) (f : Frame) : RequestsKept (frameContent f s) := by
  unfold Machine.frameContent
  split
  · exact h.takeReadRsp _ _ _
  · exact h.takeWriteAck _ _
  · split
    · exact h.takeWriteNack _ _ _
    · exact h.takeReadNack _ _ _
  · exact h.of_same (by simp)
  · exact h.of_same (by simp)
  · exact h
  · exact h.takeAnnounce f _ _
  · unfold takeLeave
    split
    · exact h.losePeer _
    · exact h

/-! ### OFFLINE and STOPPED -/

theorem RequestsKept.purged (x : SpanState) (cause : Option StopCause) (hs : s.reads.entries.length = Config.readEntries) :
    RequestsKept (setSpan x (setStopCause cause (purgeAll s))) := by
  refine .of_empty ⟨?_, ?_, ?_, fun e he => ?_⟩ ?_
  · simp [purgeAll, emptyWrites, setQueue]
  · simp [purgeAll, freeAllReads]
  · simp [purgeAll, clearSelector, Selector.reset]
  · have he' : e ∈ s.reads.entries.map (fun e => ReadEntry.free e.incarnation) := by
      simpa [purgeAll, freeAllReads] using he
    obtain ⟨y, -, rfl⟩ := List.mem_map.mp he'
    rfl
  · simpa [purgeAll, freeAllReads] using hs

theorem RequestsKept.enterOffline (h : RequestsKept s) : RequestsKept (enterOffline s) := by
  unfold Machine.enterOffline
  split
  · exact h
  · exact .purged .offline none (by simpa using h.sized)

theorem RequestsKept.enterStopped (h : RequestsKept s) (cause : StopCause) : RequestsKept (enterStopped cause s) :=
  .purged .stopped (some cause) h.sized

theorem RequestsKept.frameArrives (h : RequestsKept s) (bytes : List Byte) (f : Frame) : RequestsKept (frameArrives bytes f s) := by
  have ht : RequestsKept (frameTaken bytes s) := by
    refine h.of_same ?_
    unfold frameTaken
    split <;> simp
  have hheard : RequestsKept (hear f.src (frameTaken bytes s)) := ht.of_same (by simp)
  simp only [Machine.frameArrives]
  split
  · exact ht
  split
  · split
    · exact ht
    · unfold takeClash
      split
      · exact ht.enterStopped _
      · exact ht
  split
  · exact hheard.frameContent f
  · exact hheard

/-! ### Events -/

theorem RequestsKept.itemSent (h : RequestsKept s) (x : Offered) : RequestsKept (itemSent x s) := by
  cases x with
  | response r => exact h.of_same (by simp [Machine.itemSent])
  | leave =>
    have hmark : RequestsKept (s.setSel { s.sel with leaveMark := false }) := h.of_same ⟨rfl, rfl, rfl, rfl⟩
    exact hmark.enterOffline
  | announce fresh copy =>
    cases fresh with
    | false => exact h.of_same ⟨rfl, rfl, rfl, rfl⟩
    | true =>
      simp only [Machine.itemSent, announceSent, freshSent, if_true]
      split
      · have hopen : RequestsKept (startHeartbeat (setSpan .online s)) :=
          h.of_same ⟨by simp, by simp, by simp [startHeartbeat], by simp [setSpan_ctl]⟩
        exact hopen.of_same ⟨rfl, rfl, rfl, rfl⟩
      · exact h.of_same ⟨rfl, rfl, rfl, rfl⟩
  | heartbeat => exact h
  | request y =>
    cases y with
    | read i inc => exact h.of_reads (by simp [Machine.itemSent]) fun hk => hk.readSent i inc
    | write a => exact h.writeSent a

theorem RequestsKept.endBreak (h : RequestsKept s) : RequestsKept (endBreak s) := by
  have hsame (v : State) (hv : v.reads = s.reads ∧ v.writes.queue = s.writes.queue ∧ v.sel.ready = s.sel.ready ∧
      v.ctl.config = s.ctl.config) : RequestsKept v := h.of_same hv
  unfold Machine.endBreak
  split
  · split
    next b _ =>
      cases b with
      | failure =>
        simp only [breakOutcome, stopIfFailing]
        split
        · exact (hsame _ (by simp [countFailure])).enterStopped _
        · exact hsame _ (by simp [countFailure])
      | failureThenOffline => exact hsame _ ⟨rfl, rfl, rfl, rfl⟩
      | cut => exact hsame _ ⟨rfl, rfl, rfl, rfl⟩
    · exact h
  · exact h

theorem RequestsKept.readTimedOut (h : RequestsKept s) {i : ReadIndex} (hd : responseDue i s = true) :
    RequestsKept (readTimedOut i s) := by
  simp only [responseDue, Bool.and_eq_true, beq_iff_eq] at hd
  unfold Machine.readTimedOut
  split
  next hr => exact h.of_reads (by simp) fun hk => hk.makeReady (.inr ⟨hd.1, by simpa [retriesLeft] using hr⟩)
  · have hfailed : RequestsKept (Machine.failRead .noAnswer s i) := h.of_reads (by simp) fun hk => hk.failRead (by simp [hd.1]) _
    exact hfailed.of_same (by simp)

theorem RequestsKept.effect (h : RequestsKept s) (hu : Effect c s u) : RequestsKept u := by
  cases hu with
  | attemptBegin _ =>
    unfold beginAttempt
    split <;> exact h.of_same ⟨rfl, rfl, rfl, rfl⟩
  | attemptLost _ _ => exact h.of_same ⟨rfl, rfl, rfl, rfl⟩
  | readbackMismatch _ _ => exact h.of_same ⟨rfl, rfl, rfl, rfl⟩
  | breakEnd _ _ => exact h.endBreak
  | attemptSent _ _ =>
    unfold endSent
    split
    next x _ =>
      have hsent : RequestsKept (heartbeatSent (s.setIface
          (ownBytesReceived x.image x.image.length { s.iface with tx := none, lossCount := 0, failCount := 0 }))) :=
        h.of_same ⟨rfl, rfl, rfl, rfl⟩
      exact hsent.itemSent x.item
    · exact h
  | frameBroken _ _ =>
    unfold breakFrame
    split <;> exact h.of_same ⟨rfl, rfl, rfl, rfl⟩
  | frameFormatError _ =>
    unfold discardFrame frameTaken
    repeat' split
    all_goals exact h.of_same ⟨rfl, rfl, rfl, rfl⟩
  | clashReport _ _ _ => exact h.frameArrives _ _
  | frame _ _ _ => exact h.frameArrives _ _
  | readResponseTimeout hd => exact h.readTimedOut hd
  | @discardExpiry _ i _ =>
    have hfreed : RequestsKept (freeRead i s) := h.of_reads (by simp) fun hk => hk.freeRead i
    unfold discardRead
    split
    · exact hfreed
    · exact hfreed.of_same ⟨rfl, rfl, rfl, rfl⟩
  | writeResponseTimeout hq hw => exact h.headTimedOut hq hw
  | @holdExpiry _ w rest hq hw =>
    have hright := h.queue w (by simp [hq])
    have hrest := hright.apart
    refine h.readyHead hq (.inr hw) (hright.retries ?_)
    by_contra hin
    simp [hrest (by simpa using hin)] at hw
  | heartbeatTimerExpiry _ => exact h.of_same ⟨rfl, rfl, rfl, rfl⟩
  | listenTimerExpiry _ => exact h.of_same ⟨by simp [listenEnds], by simp [listenEnds], by simp [listenEnds], by simp [listenEnds, setSpan_ctl]⟩
  | drainTimerExpiry _ => exact h.drainAgents
  | @silenceLimit _ n _ =>
    have hsilent : RequestsKept (markSilent n s) := h.of_same (by simp)
    exact hsilent
  | absenceLimit _ => exact h.losePeer _
  | idleFound _ =>
    unfold foundIdle
    split <;> exact h.of_same ⟨rfl, rfl, rfl, rfl⟩
  | startBitConfirmed _ _ => exact h.of_same ⟨rfl, rfl, rfl, rfl⟩
  | ownFrameEnd _ _ _ => exact h.of_same ⟨rfl, rfl, rfl, rfl⟩

/-! ### Cycles -/

theorem RequestsKept.apertureReadTaken (h : RequestsKept s) (hd : directoryOrdered s) (a : GlobalAddr) {be : Enables}
    (hb : someByte be = true) : RequestsKept (apertureReadTaken a be s).next := by
  have hfault (r : FaultReason) (n : Station) : RequestsKept (refuseAccess .read r a n s).next := h.of_same ⟨rfl, rfl, rfl, rfl⟩
  unfold Machine.apertureReadTaken
  split
  next i _ =>
    split
    next hi => exact h.of_reads (by unfold deliver; simp only; repeat' split; all_goals simp) fun hk => hk.deliver hi a be
    · exact h
  · unfold newRead
    split
    · exact hfault _ _
    split
    · exact hfault _ _
    next e he =>
      obtain ⟨hmem, -⟩ := mem_of_lookup he
      obtain ⟨-, -, -, howner⟩ := hd.1 e hmem
      split
      · exact h
      split
      · refine h.allocate _ howner ?_
        obtain ⟨lo, hi⟩ := be
        cases e.prefetch <;> cases lo <;> cases hi <;> simp_all [fetchLength, accessWidth, someByte]
      · exact hfault _ _

theorem laneBytes_length (d : Word) {be : Enables} (hb : someByte be = true) :
    (laneBytes be d).length = 1 ∨ (laneBytes be d).length = 2 := by
  obtain ⟨lo, hi⟩ := be
  cases lo <;> cases hi <;> simp_all [laneBytes, someByte]

theorem RequestsKept.overtake (h : RequestsKept s) (a n : Nat) : RequestsKept (overtake a n s) :=
  h.of_reads (by simp) fun hk => hk.overtake a n

theorem RequestsKept.loopbackWrite (h : RequestsKept s) (e : DirEntry) (n : RegionIndex) (a : GlobalAddr) (data : List Byte) (x : Bool) :
    RequestsKept (loopbackWrite e n a data x s).next := by
  have hfault (r : FaultReason) (m : Station) : RequestsKept (refuseAccess .write r a m s).next := h.of_same ⟨rfl, rfl, rfl, rfl⟩
  have hwritten : RequestsKept (ramWrite (localAddress e n a s) data s) := h.of_same (by simp [ramWrite])
  have hnoticed (y : Notice) : RequestsKept (appendNotice y (ramWrite (localAddress e n a s) data s)) :=
    hwritten.of_same (by simp [appendNotice])
  unfold Machine.loopbackWrite
  split
  · exact hfault _ _
  split
  · exact hfault _ _
  · cases x with
    | false =>
      simp only [Bool.false_eq_true, if_false, answerOnly]
      exact hwritten.overtake _ _
    | true =>
      simp only [if_true, answerOnly]
      exact (hnoticed _).overtake _ _

theorem RequestsKept.apertureWriteTaken (h : RequestsKept s) (hd : directoryOrdered s) (a : GlobalAddr) {data : List Byte}
    (hdata : data.length = 1 ∨ data.length = 2) (x : Bool) : RequestsKept (apertureWriteTaken a data x s).next := by
  have hfault (r : FaultReason) (n : Station) : RequestsKept (refuseAccess .write r a n s).next := h.of_same ⟨rfl, rfl, rfl, rfl⟩
  unfold Machine.apertureWriteTaken
  split
  · exact hfault _ _
  split
  · exact hfault _ _
  next e he =>
    obtain ⟨hmem, -⟩ := mem_of_lookup he
    obtain ⟨-, -, -, howner⟩ := hd.1 e hmem
    split
    · exact h.loopbackWrite _ _ a data x
    split
    · exact hfault _ _
    split
    · split
      · exact h
      · exact h.admitWrite howner hdata a x
    · exact hfault _ _

/-- In OFFLINE no request is held, whatever the configuration becomes. -/
theorem RequestsKept.of_config (h : SpanKept s) (hs : s.reads.entries.length = Config.readEntries) (hx : s.ctl.span = .offline)
    (ht : t.reads = s.reads ∧ t.writes = s.writes ∧ t.sel = s.sel) : RequestsKept t := by
  obtain ⟨hr, hw, hl⟩ := ht
  exact .of_empty ((h.requests (by simp [hx]) (by simp [hx])).of_same ⟨by rw [hw], hr, by rw [hl]⟩) (by rwa [hr])

theorem RequestsKept.owned (hk : WellKept s) (hu : Owned c s u) : RequestsKept u := by
  have h := hk.requestsKept
  cases hu with
  | apertureRead hb => exact h.apertureReadTaken hk.directory _ hb
  | apertureWrite hb => exact h.apertureWriteTaken hk.directory _ (laneBytes_length _ hb) _
  | storeConfig hx =>
    refine .of_config hk.spanKept h.sized hx ?_
    unfold storeConfig configStored setConfig
    split
    · split <;> simp
    all_goals simp
  | storeBitDiv hx =>
    refine .of_config hk.spanKept h.sized hx ?_
    unfold storeBitDiv
    split <;> exact ⟨rfl, rfl, rfl⟩
  | storeTickDiv hx =>
    refine .of_config hk.spanKept h.sized hx ?_
    unfold storeTickDiv
    split <;> exact ⟨rfl, rfl, rfl⟩
  | readEffect =>
    refine h.of_same ?_
    unfold readEffect
    split
    · split <;> simp
    · exact ⟨rfl, rfl, rfl, rfl⟩
  | _ => exact h.of_same ⟨rfl, rfl, rfl, rfl⟩

/-! ### Every command -/

theorem countDown_le {n : Nat} {o : Option Nat} (h : ∀ k, o = some k → k ≤ n) : ∀ k, countDown o = some k → k ≤ n := by
  intro k hk
  obtain ⟨j, hj, rfl⟩ := Option.map_eq_some_iff.mp hk
  exact (Nat.sub_le j 1).trans (h j hj)

theorem RequestsKept.tickAll (h : RequestsKept s) : RequestsKept (tickAll s) := by
  have hat (i : ReadIndex) : readAt i (Machine.tickAll s) =
      { readAt i s with
        responseTimer := countDown (readAt i s).responseTimer, discardTimer := countDown (readAt i s).discardTimer } :=
    readAt_map (fun e => { e with responseTimer := countDown e.responseTimer, discardTimer := countDown e.discardTimer }) i h.sized rfl
  have hq : (Machine.tickAll s).writes.queue = s.writes.queue.map (fun w => { w with timer := countDown w.timer }) := rfl
  have hk : readyAdmission (Machine.tickAll s).writes.queue = readyAdmission s.writes.queue := by
    rw [hq]
    cases s.writes.queue with
    | nil => rfl
    | cons w rest =>
      simp only [List.map_cons, readyAdmission_cons, headReady]
      rfl
  unfold RequestsKept
  rw [hk]
  refine ⟨?_, fun i => ?_, fun i j hij hi hj => ?_, ⟨h.ranks.1, fun i => ?_⟩, fun w hw => ?_, fun w hw => ?_, h.once, fun x => ?_⟩
  · show (List.map _ s.reads.entries).length = _
    rw [List.length_map]
    exact h.sized
  · obtain ⟨h1, h2, h3, h4, h5, h6, h7, h8, h9, h10⟩ := h.reads i
    rw [hat, hq, List.length_map]
    refine ⟨fun hs => ?_, h2, by rwa [isSome_countDown], by rwa [isSome_countDown], h5, h6, h7, h8, countDown_le h9, countDown_le h10⟩
    rw [h1 hs]
    rfl
  · rw [hat] at hi hj ⊢
    rw [hat]
    exact h.apart i j hij hi hj
  · rw [hat]
    exact h.ranks.2 i
  · rw [hq] at hw
    obtain ⟨y, hy, rfl⟩ := List.mem_map.mp hw
    obtain ⟨h1, h2, h3, h4, h5, h6, h7⟩ := h.queue y hy
    exact ⟨h1, by rwa [isSome_countDown], h3, h4, h5, countDown_le h6, h7⟩
  · rw [hq, ← List.map_tail] at hw
    obtain ⟨y, hy, rfl⟩ := List.mem_map.mp hw
    exact h.rest y hy
  · rw [show x ∈ (Machine.tickAll s).sel.ready ↔ listedItem (readyAdmission s.writes.queue) s x from h.ready x]
    cases x with
    | read i inc => simp only [listedItem, hat]
    | write a => rfl

theorem RequestsKept.commanded (h : RequestsKept s) (hu : Commanded c s u) : RequestsKept u := by
  cases hu with
  | join _ _ => exact h.of_same ⟨by simp [startListening, markWaiting], by simp [startListening, markWaiting],
      by simp [startListening, markWaiting], by simp [startListening, setSpan_ctl, markWaiting]⟩
  | leaveOnline _ => exact h.of_same ⟨by simp [startLeaving], by simp [startLeaving], by simp [startLeaving],
      by simp [startLeaving, setSpan_ctl]⟩
  | leaveJoining _ => exact h.enterOffline
  | restart => exact h.enterOffline

theorem RequestsKept.eventEnd (h : RequestsKept s) (b : State) : RequestsKept (eventEnd b s) := by
  obtain ⟨-, -, -, -, -, -, hc, hl⟩ := eventEnd_kept b s
  exact h.of_same ⟨by simp, by simp, hl, hc⟩

theorem RequestsKept.of_reset (hr : s.reads = ReadAgent.reset) (hw : s.writes = WriteAgent.reset) (hs : s.sel = Selector.reset) :
    RequestsKept s := by
  refine .of_empty ⟨by rw [hw]; rfl, by rw [hr]; rfl, by rw [hs]; rfl, fun e he => ?_⟩ (by rw [hr]; rfl)
  rw [hr] at he
  rw [List.eq_of_mem_replicate he]
  rfl

theorem RequestsKept.does (hk : WellKept s) (ht : Does c s t) : RequestsKept t := by
  have h := hk.requestsKept
  cases ht with
  | powerOn => exact .of_reset rfl rfl rfl
  | clearEnd => exact h.of_same ⟨rfl, rfl, rfl, rfl⟩
  | pinReset => exact .of_reset rfl rfl rfl
  | port p => exact h.of_same ⟨rfl, rfl, rfl, rfl⟩
  | tick _ => exact h.tickAll
  | event hu => exact (h.effect hu).eventEnd s
  | @command _ _ u hu code p =>
    have hended := (h.commanded hu).eventEnd s
    generalize Machine.eventEnd s u = v at hended
    exact hended.of_same ⟨rfl, rfl, rfl, rfl⟩
  | cycle hu p => exact (RequestsKept.owned hk hu).of_same ⟨rfl, rfl, rfl, rfl⟩

theorem RequestsKept.step (hs : WellKept s) (ht : step s = .next t) : RequestsKept t := by
  refine of_step hs ht ?_ fun c u hu hd => .does hu hd
  obtain ⟨x, hx, -⟩ := idleStep_eq s
  rw [hx]
  exact hs.requestsKept.of_same ⟨rfl, rfl, rfl, rfl⟩

/-- Settles O55: the Delayed Read Table is a part of `RequestsKept`, which every command keeps. -/
theorem stepKeepsTheReadTable : Obligations.StepKeepsTheReadTable := fun _ _ hs ht => (RequestsKept.step hs ht).table

end Sys2Proof.Machine


/-! ## Frames and their images -/

namespace Sys2Proof.Machine

/-! ### Fields of a byte, as numbers -/

theorem toNat_append_eq {n m : Nat} (x : BitVec n) (y : BitVec m) : (x ++ y).toNat = x.toNat * 2 ^ m + y.toNat := by
  rw [BitVec.toNat_append, ← Nat.shiftLeft_add_eq_or_of_lt y.isLt, Nat.shiftLeft_eq]

theorem toNat_field {n : Nat} (x : BitVec n) (i m : Nat) : (x.extractLsb' i m).toNat = x.toNat / 2 ^ i % 2 ^ m := by
  rw [BitVec.extractLsb'_toNat, Nat.shiftRight_eq_div_pow]

theorem toNat_bit {n : Nat} (x : BitVec n) (i : Nat) : (x.getLsbD i).toNat = x.toNat / 2 ^ i % 2 := by
  rw [BitVec.getLsbD, Nat.testBit_eq_decide_div_mod_eq]
  have := Nat.mod_lt (x.toNat / 2 ^ i) (by decide : 0 < 2)
  by_cases h : x.toNat / 2 ^ i % 2 = 1 <;> simp [h]
  omega

theorem bit_eq_iff {n : Nat} {x : BitVec n} {i : Nat} {b : Bool} : x.getLsbD i = b ↔ x.toNat / 2 ^ i % 2 = b.toNat := by
  rw [← toNat_bit]
  cases b <;> cases x.getLsbD i <;> decide

theorem bool_toNat_le (b : Bool) : b.toNat ≤ 1 := by cases b <;> simp

theorem keyByte_toNat (c : BitVec 2) (n : Station) : (keyByte c n).toNat = 64 * c.toNat + 2 * n.toNat + 1 := by
  simp only [keyByte, toNat_append_eq, BitVec.toNat_ofNat]
  omega

theorem kindByte_toNat (k : Kind) (x y : Bool) : (kindByte k x y).toNat = 16 * (kindCode k).toNat + 8 * x.toNat + 4 * y.toNat := by
  simp only [kindByte, toNat_append_eq, BitVec.toNat_ofNat, BitVec.toNat_ofBool]
  omega

theorem destByte_toNat (d : Station) : (destByte d).toNat = d.toNat := by
  rw [destByte, toNat_append_eq]
  simp

theorem wordBytes_toNat (w : Word) : (wordBytes w).map (·.toNat) = [w.toNat / 256, w.toNat % 256] := by
  have := w.isLt
  simp only [wordBytes, List.map_cons, List.map_nil, toNat_field, List.cons.injEq, and_true]
  omega

theorem addrBytes_toNat (a : GlobalAddr) :
    (addrBytes a).map (·.toNat) = [a.toNat / 65536, a.toNat / 256 % 256, a.toNat % 256] := by
  have := a.isLt
  simp only [addrBytes, List.map_cons, List.map_nil, toNat_field, List.cons.injEq, and_true]
  omega

theorem groupBytes_toNat (g : RegionGroup) :
    (groupBytes g).map (·.toNat) =
      [g.base.toNat / 256, g.base.toNat % 256, g.length.toNat, g.readWrite.toNat + 2 * g.prefetch.toNat] := by
  simp only [groupBytes, List.map_append, wordBytes_toNat, List.map_cons, List.map_nil, toNat_append_eq, BitVec.toNat_ofNat,
    BitVec.toNat_ofBool, List.cons_append, List.nil_append, List.cons.injEq, and_true, true_and]
  omega

/-! ### Each byte of the layout gives its fields back -/

theorem keyByte_eq_iff {c : BitVec 2} {n : Station} {x : Byte} :
    keyByte c n = x ↔ x.getLsbD 0 = true ∧ x.extractLsb' 6 2 = c ∧ x.extractLsb' 1 5 = n := by
  have hx := x.isLt
  have hc := c.isLt
  have hn := n.isLt
  simp only [← BitVec.toNat_inj, bit_eq_iff, keyByte_toNat, toNat_field, Bool.toNat_true]
  omega

theorem kindByte_eq_iff {k : Kind} {notice fresh : Bool} {x : Byte} :
    kindByte k notice fresh = x ↔
      x.extractLsb' 0 2 = 0 ∧ kindCode k = x.extractLsb' 4 4 ∧ x.getLsbD 3 = notice ∧ x.getLsbD 2 = fresh := by
  have hx := x.isLt
  have hk := (kindCode k).isLt
  have hn := bool_toNat_le notice
  have hf := bool_toNat_le fresh
  simp only [← BitVec.toNat_inj, bit_eq_iff, kindByte_toNat, toNat_field, BitVec.ofNat_eq_ofNat, BitVec.toNat_ofNat]
  omega

theorem destByte_eq_iff {d : Station} {x : Byte} : destByte d = x ↔ x.extractLsb' 5 3 = 0 ∧ x.extractLsb' 0 5 = d := by
  have hx := x.isLt
  have hd := d.isLt
  simp only [← BitVec.toNat_inj, destByte_toNat, toNat_field, BitVec.ofNat_eq_ofNat, BitVec.toNat_ofNat]
  omega

theorem wordBytes_eq_iff {w : Word} {x y : Byte} : wordBytes w = [x, y] ↔ w = beWord x y := by
  have hw := w.isLt
  have hx := x.isLt
  have hy := y.isLt
  simp only [wordBytes, beWord, List.cons.injEq, and_true, ← BitVec.toNat_inj, toNat_field, toNat_append_eq]
  omega

theorem addrBytes_eq_iff {a : GlobalAddr} {x y z : Byte} : addrBytes a = [x, y, z] ↔ a = beAddr x y z := by
  have ha := a.isLt
  have hx := x.isLt
  have hy := y.isLt
  have hz := z.isLt
  simp only [addrBytes, beAddr, List.cons.injEq, and_true, ← BitVec.toNat_inj, toNat_field, toNat_append_eq]
  omega

theorem kindOfCode_eq_some {c : BitVec 4} {k : Kind} : kindOfCode c = some k ↔ kindCode k = c := by
  revert c
  cases k <;> decide

theorem nackOfCode_nackCode (r : NackReason) : nackOfCode (nackCode r) = some r := by
  cases r <;> rfl

theorem nackCode_of_nackOfCode {c : Byte} {r : NackReason} (h : nackOfCode c = some r) : nackCode r = c := by
  have := List.find?_some h
  simpa using this

end Sys2Proof.Machine


/-! ### Slices of a frame -/

namespace Sys2Proof.Machine

variable {b : List Byte} {f : Frame}

theorem take_drop_eq_bytes (b : List Byte) {i n : Nat} (h : i + n ≤ b.length) :
    (b.drop i).take n = (List.range n).map (fun j => byteAt b (i + j)) := by
  refine List.ext_getElem (by simp; omega) fun j hj _ => ?_
  have hlt : i + j < b.length := by simp at hj; omega
  simp [byteAt, hlt]

theorem take_drop_add (b : List Byte) (i m n : Nat) :
    (b.drop i).take (m + n) = (b.drop i).take m ++ (b.drop (i + m)).take n := by
  rw [List.take_add, List.drop_drop]

theorem byteAt_congr {b' : List Byte} {i n j : Nat} (h : (b.drop i).take n = (b'.drop i).take n) (hj : j < n) :
    byteAt b (i + j) = byteAt b' (i + j) := by
  have := congrArg (fun l => l.getD j 0) h
  simpa [byteAt, List.getD_eq_getElem?_getD, List.getElem?_take, hj, List.getElem?_drop] using this

theorem take_one_eq (b : List Byte) {i : Nat} (h : i + 1 ≤ b.length) : (b.drop i).take 1 = [byteAt b i] := by
  simp [take_drop_eq_bytes b h]

theorem take_three_eq (b : List Byte) {i : Nat} (h : i + 3 ≤ b.length) :
    (b.drop i).take 3 = [byteAt b i, byteAt b (i + 1), byteAt b (i + 2)] := by
  simp [take_drop_eq_bytes b h, List.range_succ]

/-! ### The regions of an ANNOUNCE -/

theorem groupBytes_length (g : RegionGroup) : (groupBytes g).length = 4 := rfl

theorem groups_length (gs : List RegionGroup) : (gs.flatMap groupBytes).length = 4 * gs.length := by
  simp [List.length_flatMap, groupBytes_length, Nat.mul_comm]

theorem groupBytes_eq_iff {g : RegionGroup} {w x y z : Byte} :
    groupBytes g = [w, x, y, z] ↔
      g = { base := beWord w x, length := y.setWidth 7, readWrite := z.getLsbD 0, prefetch := z.getLsbD 1 } ∧ y.toNat < 128 ∧
        z.extractLsb' 2 6 = 0 := by
  obtain ⟨base, length, readWrite, prefetch⟩ := g
  have hbase : wordBytes base = [w, x] ↔ base = beWord w x := wordBytes_eq_iff
  have hy := y.isLt
  have hz := z.isLt
  have hl := length.isLt
  have hlength : 0#1 ++ length = y ↔ length = y.setWidth 7 ∧ y.toNat < 128 := by
    simp only [← BitVec.toNat_inj, toNat_append_eq, BitVec.toNat_ofNat, BitVec.toNat_setWidth]
    omega
  have hattr : 0#6 ++ BitVec.ofBool prefetch ++ BitVec.ofBool readWrite = z ↔
      (readWrite = z.getLsbD 0 ∧ prefetch = z.getLsbD 1) ∧ z.extractLsb' 2 6 = 0 := by
    have hrw := bool_toNat_le readWrite
    have hpre := bool_toNat_le prefetch
    rw [eq_comm (a := readWrite), eq_comm (a := prefetch)]
    simp only [← BitVec.toNat_inj, bit_eq_iff, toNat_append_eq, toNat_field, BitVec.ofNat_eq_ofNat, BitVec.toNat_ofNat,
      BitVec.toNat_ofBool]
    omega
  have hsplit : groupBytes ⟨base, length, readWrite, prefetch⟩ = [w, x, y, z] ↔
      wordBytes base = [w, x] ∧ 0#1 ++ length = y ∧ 0#6 ++ BitVec.ofBool prefetch ++ BitVec.ofBool readWrite = z := by
    simp [groupBytes, wordBytes, and_assoc]
  rw [hsplit, hbase, hlength, hattr, RegionGroup.mk.injEq]
  constructor
  · rintro ⟨hb, ⟨hlen, hlt⟩, ⟨hrw, hpre⟩, hzero⟩
    exact ⟨⟨hb, hlen, hrw, hpre⟩, hlt, hzero⟩
  · rintro ⟨⟨hb, hlen, hrw, hpre⟩, hlt, hzero⟩
    exact ⟨hb, ⟨hlen, hlt⟩, ⟨hrw, hpre⟩, hzero⟩

/-- The four bytes of region `k` are those of `g`. -/
theorem groupBytes_eq_slice_iff {g : RegionGroup} {k : Nat} (hlen : 10 + 4 * k ≤ b.length) :
    groupBytes g = (b.drop (6 + 4 * k)).take 4 ↔
      frameGroup b k = g ∧ (byteAt b (8 + 4 * k)).toNat < 128 ∧ (byteAt b (9 + 4 * k)).extractLsb' 2 6 = 0 := by
  have hslice : (b.drop (6 + 4 * k)).take 4 =
      [byteAt b (6 + 4 * k), byteAt b (7 + 4 * k), byteAt b (8 + 4 * k), byteAt b (9 + 4 * k)] := by
    rw [take_drop_eq_bytes b (by omega)]
    simp [List.range_succ, Nat.add_right_comm]
  rw [hslice, groupBytes_eq_iff, eq_comm (a := g), frameGroup]

theorem groupBytes_of_groupOk {k : Nat} (h : groupOk b k = true) (hlen : 10 + 4 * k ≤ b.length) :
    groupBytes (frameGroup b k) = (b.drop (6 + 4 * k)).take 4 := by
  simp only [groupOk, Bool.and_eq_true, decide_eq_true_eq, beq_iff_eq] at h
  obtain ⟨⟨⟨-, hhi⟩, -⟩, hattr⟩ := h
  exact (groupBytes_eq_slice_iff hlen).mpr ⟨rfl, by omega, hattr⟩

theorem groupOk_of_groupBytes {g : RegionGroup} {k : Nat} (hg : groupShape g) (hlen : 10 + 4 * k ≤ b.length)
    (h : groupBytes g = (b.drop (6 + 4 * k)).take 4) : frameGroup b k = g ∧ groupOk b k = true := by
  obtain ⟨rfl, hlt, hattr⟩ := (groupBytes_eq_slice_iff hlen).mp h
  obtain ⟨hlo, hhi, hend⟩ := hg
  have hlength : (frameGroup b k).length.toNat = (byteAt b (8 + 4 * k)).toNat := by
    simp only [frameGroup, BitVec.toNat_setWidth]
    omega
  rw [hlength] at hlo hhi hend
  simp [groupOk, hlo, hhi, hend, hattr]

/-- The regions that pass the checks are, one after the other, the bytes from byte 6 on. -/
theorem flatMap_frameGroup (b : List Byte) : ∀ n, (∀ k < n, groupOk b k = true) → 6 + 4 * n ≤ b.length →
    ((List.range n).map (frameGroup b)).flatMap groupBytes = (b.drop 6).take (4 * n)
  | 0, _, _ => by simp
  | n + 1, hok, hlen => by
    rw [List.range_succ, List.map_append, List.flatMap_append,
      flatMap_frameGroup b n (fun k hk => hok k (by omega)) (by omega), Nat.mul_succ, take_drop_add]
    simp [groupBytes_of_groupOk (hok n (by omega)) (by omega)]

theorem take_drop_flatMap_groups (tail : List Byte) : ∀ (gs : List RegionGroup) (k : Nat) (hk : k < gs.length),
    ((gs.flatMap groupBytes ++ tail).drop (4 * k)).take 4 = groupBytes gs[k]
  | g :: gs, 0, _ => by
    rw [List.flatMap_cons, List.append_assoc, Nat.mul_zero, List.drop_zero, List.take_left' (groupBytes_length g),
      List.getElem_cons_zero]
  | g :: gs, k + 1, hk => by
    have hskip : (List.flatMap groupBytes (g :: gs) ++ tail).drop (4 * (k + 1)) = (gs.flatMap groupBytes ++ tail).drop (4 * k) := by
      rw [List.flatMap_cons, List.append_assoc, Nat.mul_succ, Nat.add_comm, ← List.drop_drop, List.drop_left' (groupBytes_length g)]
    rw [hskip, take_drop_flatMap_groups tail gs k (by simpa using hk), List.getElem_cons_succ]

/-! ### The fields that depend on the kind -/

/-- The checks of R11 that depend on the kind alone. -/
def bodyOk (b : List Byte) (k : Kind) : Bool := lengthOk b k && reasonOk b k && announceOk b k && b.length == frameSize b k

theorem ofNat_length_toNat {data : List Byte} (h : data.length ≤ 32) : (BitVec.ofNat 8 data.length).toNat = data.length := by
  rw [BitVec.toNat_ofNat]
  omega

/-- The payload of a body in its ranges is read back as that body. -/
theorem bodyOk_of_payload {body : Body} (hs : bodyShape body) {x₀ x₁ x₂ x₃ c₁ c₀ : Byte}
    (hb : b = x₀ :: x₁ :: x₂ :: x₃ :: (payloadBytes body ++ [c₁, c₀])) :
    frameBody b (bodyKind body) = body ∧ bodyOk b (bodyKind body) = true := by
  cases body with
  | readRsp data =>
    obtain ⟨hlo, hhi⟩ := hs
    have hlen := ofNat_length_toNat hhi
    have h4 : byteAt b 4 = BitVec.ofNat 8 data.length := by rw [hb]; rfl
    have hrest : b.drop 5 = data ++ [c₁, c₀] := by rw [hb]; rfl
    have hsize : b.length = 5 + data.length + 2 := by
      rw [hb]
      simp [payloadBytes]
      omega
    simp [bodyKind, frameBody, bodyOk, lengthOk, reasonOk, announceOk, frameLength, frameSize, h4, hlen, hrest, hsize, hlo, hhi]
  | write a data =>
    obtain ⟨hlo, hhi⟩ := hs
    have hlen := ofNat_length_toNat hhi
    have haddr : frameAddr b = a := by
      rw [hb]
      exact (addrBytes_eq_iff.mp rfl).symm
    have h7 : byteAt b 7 = BitVec.ofNat 8 data.length := by rw [hb]; rfl
    have hrest : b.drop 8 = data ++ [c₁, c₀] := by rw [hb]; rfl
    have hsize : b.length = 8 + data.length + 2 := by
      rw [hb]
      simp [payloadBytes, addrBytes]
      omega
    simp [bodyKind, frameBody, bodyOk, lengthOk, reasonOk, announceOk, frameLength, frameSize, haddr, h7, hlen, hrest, hsize, hlo, hhi]
  | readReq a len =>
    have haddr : frameAddr b = a := by
      rw [hb]
      exact (addrBytes_eq_iff.mp rfl).symm
    have h7 : byteAt b 7 = len := by rw [hb]; rfl
    have hsize : b.length = 10 := by rw [hb]; rfl
    simp [bodyKind, frameBody, bodyOk, lengthOk, reasonOk, announceOk, frameLength, frameSize, haddr, h7, hsize, hs.1, hs.2]
  | nack a r =>
    have haddr : frameAddr b = a := by
      rw [hb]
      exact (addrBytes_eq_iff.mp rfl).symm
    have h7 : byteAt b 7 = nackCode r := by rw [hb]; rfl
    have hsize : b.length = 10 := by rw [hb]; rfl
    simp [bodyKind, frameBody, bodyOk, lengthOk, reasonOk, announceOk, frameSize, haddr, h7, hsize, nackOfCode_nackCode]
  | announce interval regions =>
    obtain ⟨hlo, hhi, hfew, hgroups⟩ := hs
    have hcount : (BitVec.ofNat 8 regions.length).toNat = regions.length := by
      rw [BitVec.toNat_ofNat]
      omega
    have h4 : byteAt b 4 = interval := by rw [hb]; rfl
    have h5 : byteAt b 5 = BitVec.ofNat 8 regions.length := by rw [hb]; rfl
    have hrest : b.drop 6 = regions.flatMap groupBytes ++ [c₁, c₀] := by rw [hb]; rfl
    have hsize : b.length = 6 + 4 * regions.length + 2 := by
      rw [hb]
      simp only [payloadBytes, List.length_cons, List.length_append, groups_length, List.length_nil]
      omega
    have hgroup (k : Nat) (hk : k < regions.length) : frameGroup b k = regions[k] ∧ groupOk b k = true := by
      refine groupOk_of_groupBytes (hgroups _ (List.getElem_mem hk)) (by omega) ?_
      rw [← List.drop_drop, hrest, take_drop_flatMap_groups _ _ _ hk]
    have hall : (List.range regions.length).map (frameGroup b) = regions :=
      List.ext_getElem (by simp) fun k hk hk' => by simpa using (hgroup k hk').1
    have hok : ∀ k < regions.length, groupOk b k = true := fun k hk => (hgroup k hk).2
    simpa [bodyKind, frameBody, bodyOk, lengthOk, reasonOk, announceOk, frameSize, h4, h5, hcount, hall, hsize, hlo, hhi, hfew]
      using hok
  | writeAck | heartbeat | leave => exact hb ▸ ⟨rfl, rfl⟩

/-- Bytes that pass the checks of their kind hold a body in its ranges, and its payload after the header. -/
theorem payload_of_bodyOk {k : Kind} (h : bodyOk b k = true) :
    bodyShape (frameBody b k) ∧ bodyKind (frameBody b k) = k ∧
      payloadBytes (frameBody b k) = (b.drop 4).take (b.length - 6) := by
  simp only [bodyOk, Bool.and_eq_true, beq_iff_eq] at h
  obtain ⟨⟨⟨hlength, hreason⟩, hannounce⟩, hsize⟩ := h
  have haddr (h7 : 7 ≤ b.length) : addrBytes (frameAddr b) = (b.drop 4).take 3 := by
    rw [take_three_eq b h7]
    exact addrBytes_eq_iff.mpr rfl
  cases k with
  | readRsp =>
    obtain ⟨hlo, hhi⟩ := Bool.and_eq_true_iff.mp hlength
    simp only [frameSize] at hsize
    have hdata : ((b.drop 5).take (byteAt b 4).toNat).length = (byteAt b 4).toNat := by
      simp only [List.length_take, List.length_drop]
      omega
    refine ⟨by simpa only [frameBody, bodyShape, hdata, frameLength] using And.intro (of_decide_eq_true hlo) (of_decide_eq_true hhi), rfl, ?_⟩
    rw [show b.length - 6 = 1 + (byteAt b 4).toNat by omega, take_drop_add, take_one_eq b (by omega)]
    simp only [frameBody, payloadBytes, hdata, BitVec.ofNat_toNat, BitVec.setWidth_eq, List.cons_append, List.nil_append]
  | write =>
    obtain ⟨hlo, hhi⟩ := Bool.and_eq_true_iff.mp hlength
    simp only [frameSize] at hsize
    have hdata : ((b.drop 8).take (byteAt b 7).toNat).length = (byteAt b 7).toNat := by
      simp only [List.length_take, List.length_drop]
      omega
    refine ⟨by simpa only [frameBody, bodyShape, hdata, frameLength] using And.intro (of_decide_eq_true hlo) (of_decide_eq_true hhi), rfl, ?_⟩
    rw [show b.length - 6 = 3 + (1 + (byteAt b 7).toNat) by omega, take_drop_add, ← haddr (by omega), take_drop_add,
      take_one_eq b (by omega)]
    simp only [frameBody, payloadBytes, hdata, BitVec.ofNat_toNat, BitVec.setWidth_eq, List.cons_append, List.nil_append]
  | readReq =>
    obtain ⟨hlo, hhi⟩ := Bool.and_eq_true_iff.mp hlength
    simp only [frameSize] at hsize
    refine ⟨⟨of_decide_eq_true hlo, of_decide_eq_true hhi⟩, rfl, ?_⟩
    rw [show b.length - 6 = 3 + 1 by omega, take_drop_add, ← haddr (by omega), take_one_eq b (by omega)]
    rfl
  | nack =>
    simp only [reasonOk, Option.isSome_iff_exists] at hreason
    obtain ⟨r, hr⟩ := hreason
    simp only [frameSize] at hsize
    refine ⟨trivial, rfl, ?_⟩
    rw [show b.length - 6 = 3 + 1 by omega, take_drop_add, ← haddr (by omega), take_one_eq b (by omega)]
    simp only [frameBody, payloadBytes, hr, Option.getD_some, nackCode_of_nackOfCode hr]
  | announce =>
    simp only [announceOk, Bool.and_eq_true, decide_eq_true_eq, List.all_eq_true, List.mem_range] at hannounce
    obtain ⟨⟨⟨hlo, hhi⟩, hfew⟩, hgroups⟩ := hannounce
    simp only [frameSize] at hsize
    refine ⟨⟨hlo, hhi, by simpa using hfew, ?_⟩, rfl, ?_⟩
    · rintro g hg
      obtain ⟨k, hk, rfl⟩ := List.mem_map.mp hg
      exact groupOk_shape (hgroups k (List.mem_range.mp hk))
    · rw [show b.length - 6 = 1 + (1 + 4 * (byteAt b 5).toNat) by omega, take_drop_add, take_one_eq b (by omega), take_drop_add,
        take_one_eq b (by omega), ← flatMap_frameGroup b _ hgroups (by omega)]
      simp only [frameBody, payloadBytes, List.length_map, List.length_range, BitVec.ofNat_toNat, BitVec.setWidth_eq,
        List.cons_append, List.nil_append]
  | writeAck | heartbeat | leave => simp [frameBody, bodyShape, bodyKind, payloadBytes, hsize, frameSize]

end Sys2Proof.Machine


/-! ### Whole frames -/

namespace Sys2Proof.Machine

variable {b : List Byte} {f : Frame}

theorem take_append_two (l : List Byte) (x y : Byte) : (l ++ [x, y]).take ((l ++ [x, y]).length - 2) = l := by
  simp

/-- The bytes end in their CRC. -/
theorem crcOk_append (l : List Byte) (x y : Byte) : crcOk (l ++ [x, y]) = true ↔ wordBytes (crc16 l) = [x, y] := by
  have hx : byteAt (l ++ [x, y]) ((l ++ [x, y]).length - 2) = x := by simp [byteAt]
  have hy : byteAt (l ++ [x, y]) ((l ++ [x, y]).length - 1) = y := by simp [byteAt]
  rw [crcOk, take_append_two, hx, hy, beq_iff_eq, wordBytes_eq_iff]

theorem encodeFrame_eq_iff : encodeFrame f = b ↔ frameBytes f = b.take (b.length - 2) ∧ crcOk b = true ∧ 2 ≤ b.length := by
  constructor
  · rintro rfl
    obtain ⟨x, y, hxy⟩ : ∃ x y, wordBytes (crc16 (frameBytes f)) = [x, y] := ⟨_, _, rfl⟩
    rw [encodeFrame, hxy]
    exact ⟨(take_append_two _ x y).symm, (crcOk_append _ x y).mpr hxy, by simp⟩
  · rintro ⟨hbytes, hcrc, hlen⟩
    obtain ⟨x, y, hxy⟩ : ∃ x y, b.drop (b.length - 2) = [x, y] := List.length_eq_two.mp (by simp; omega)
    have hb : b = b.take (b.length - 2) ++ [x, y] := by rw [← hxy, List.take_append_drop]
    rw [hb] at hcrc ⊢
    rw [encodeFrame, hbytes, (crcOk_append _ x y).mp hcrc]

/-- The four bytes of the header (R15), and the payload after them. -/
theorem frameBytes_eq_iff (hlen : 6 ≤ b.length) :
    frameBytes f = b.take (b.length - 2) ↔
      (keyByte f.cls f.src = byteAt b 0 ∧ kindByte (bodyKind f.body) f.notice f.fresh = byteAt b 1 ∧ destByte f.dest = byteAt b 2 ∧
        f.tag = byteAt b 3) ∧ payloadBytes f.body = (b.drop 4).take (b.length - 6) := by
  have hhead : b.take (b.length - 2) =
      byteAt b 0 :: byteAt b 1 :: byteAt b 2 :: byteAt b 3 :: (b.drop 4).take (b.length - 6) := by
    have h4 := take_drop_eq_bytes (i := 0) (n := 4) b (by omega)
    rw [show b.length - 2 = 4 + (b.length - 6) by omega, List.take_add]
    rw [List.drop_zero] at h4
    rw [h4]
    simp [List.range_succ]
  rw [hhead, frameBytes]
  simp only [List.cons.injEq]
  tauto

theorem formatOk_iff {k : Kind} :
    formatOk b k = true ↔
      (6 ≤ b.length ∧ b.length ≤ 42) ∧ crcOk b = true ∧ keyOk b = true ∧ flagsOk b = true ∧ destOk b k = true ∧
        bodyOk b k = true := by
  show _ ↔ (6 ≤ b.length ∧ b.length ≤ Config.frameBufferSize) ∧ _
  simp only [formatOk, bodyOk, byteCountOk, Bool.and_eq_true, decide_eq_true_eq, and_assoc]

theorem kindBroadcast_iff_dest {d : Station} {k : Kind} : ((d == 31) == kindBroadcast k) = true ↔ (d = 31 ↔ kindBroadcast k = true) := by
  cases kindBroadcast k <;> simp

theorem checkFrame_eq_some :
    checkFrame b = some f ↔
      frameKind b = some (bodyKind f.body) ∧ formatOk b (bodyKind f.body) = true ∧ frameClass b = f.cls ∧ frameSrc b = f.src ∧
        (byteAt b 1).getLsbD 3 = f.notice ∧ (byteAt b 1).getLsbD 2 = f.fresh ∧ frameDest b = f.dest ∧ byteAt b 3 = f.tag ∧
        frameBody b (bodyKind f.body) = f.body := by
  have hkind (k : Kind) : bodyKind (frameBody b k) = k := by cases k <;> rfl
  constructor
  · intro h
    unfold checkFrame at h
    split at h
    · cases h
    next k hk =>
      split at h
      next hok =>
        obtain rfl := Option.some.inj h
        simp [hkind, hk, hok]
      · cases h
  · rintro ⟨hk, hok, h1, h2, h3, h4, h5, h6, h7⟩
    simp only [checkFrame, hk, hok, if_true, h1, h2, h3, h4, h5, h6, h7]

/-- The image of a frame in its ranges has at least a header and a CRC, and at most 42 bytes (Table 1.9). -/
theorem encodeFrame_length (hs : bodyShape f.body) : 6 ≤ (encodeFrame f).length ∧ (encodeFrame f).length ≤ 42 := by
  have hlen : (encodeFrame f).length = (payloadBytes f.body).length + 6 := by simp [encodeFrame, frameBytes, wordBytes]
  rw [hlen]
  obtain ⟨cls, src, notice, fresh, dest, tag, body⟩ := f
  cases body with
  | announce interval regions =>
    obtain ⟨-, -, hfew, -⟩ := hs
    simp only [payloadBytes, List.length_cons, groups_length]
    omega
  | readRsp data | write a data =>
    have := hs.2
    simp [payloadBytes, addrBytes]
    omega
  | _ => simp [payloadBytes, addrBytes]

theorem checkFrame_iff : checkFrame b = some f ↔ frameShape f ∧ encodeFrame f = b := by
  rw [checkFrame_eq_some]
  constructor
  · rintro ⟨hk, hok, hcls, hsrc, hnotice, hfresh, hdest, htag, hbody⟩
    obtain ⟨⟨hlo, -⟩, hcrc, hkey, hflags, hdestOk, hbodyOk⟩ := formatOk_iff.mp hok
    simp only [keyOk, Bool.and_eq_true, bne_iff_ne] at hkey
    obtain ⟨⟨hone, hsrc0⟩, hsrc31⟩ := hkey
    simp only [destOk, Bool.and_eq_true, beq_iff_eq (a := BitVec.extractLsb' 5 3 _), bne_iff_ne, kindBroadcast_iff_dest] at hdestOk
    obtain ⟨⟨hhigh, hdest0⟩, hbroadcast⟩ := hdestOk
    obtain ⟨hshape, -, hpayload⟩ := payload_of_bodyOk hbodyOk
    rw [hbody] at hshape hpayload
    refine ⟨⟨?_, hdest ▸ hdest0, hdest ▸ hbroadcast, hshape⟩, ?_⟩
    · rw [← hsrc]
      simp only [validStation, Bool.and_eq_true, bne_iff_ne]
      exact ⟨hsrc0, hsrc31⟩
    refine encodeFrame_eq_iff.mpr ⟨(frameBytes_eq_iff hlo).mpr ⟨⟨?_, ?_, ?_, htag.symm⟩, hpayload⟩, hcrc, by omega⟩
    · exact keyByte_eq_iff.mpr ⟨hone, hcls, hsrc⟩
    · exact kindByte_eq_iff.mpr ⟨by simpa [flagsOk] using hflags, kindOfCode_eq_some.mp hk, hnotice, hfresh⟩
    · exact destByte_eq_iff.mpr ⟨hhigh, hdest⟩
  · rintro ⟨⟨hsrc, hdest0, hbroadcast, hshape⟩, himage⟩
    have hlen := encodeFrame_length hshape
    rw [himage] at hlen
    obtain ⟨hbytes, hcrc, -⟩ := encodeFrame_eq_iff.mp himage
    obtain ⟨⟨hkey, hkind, hdest, htag⟩, -⟩ := (frameBytes_eq_iff hlen.1).mp hbytes
    obtain ⟨hone, hcls, hsrcb⟩ := keyByte_eq_iff.mp hkey
    obtain ⟨hflags, hcode, hnotice, hfresh⟩ := kindByte_eq_iff.mp hkind
    obtain ⟨hhigh, hdestb⟩ := destByte_eq_iff.mp hdest
    obtain ⟨hbody, hbodyOk⟩ := bodyOk_of_payload hshape (b := b) himage.symm
    refine ⟨kindOfCode_eq_some.mpr hcode, formatOk_iff.mpr ⟨hlen, hcrc, ?_, ?_, ?_, hbodyOk⟩, hcls, hsrcb, hnotice, hfresh, hdestb,
      htag.symm, hbody⟩
    · have hsrc' : frameSrc b = f.src := hsrcb
      simp only [validStation, Bool.and_eq_true, bne_iff_ne] at hsrc
      simp only [keyOk, Bool.and_eq_true, bne_iff_ne, hone, hsrc']
      exact ⟨⟨trivial, hsrc.1⟩, hsrc.2⟩
    · simp [flagsOk, hflags]
    · have hdest' : frameDest b = f.dest := hdestb
      simp only [destOk, Bool.and_eq_true, kindBroadcast_iff_dest, hdest', hhigh, beq_self_eq_true, bne_iff_ne]
      exact ⟨⟨trivial, hdest0⟩, hbroadcast⟩

/-! ### The image as numbers -/

theorem crcBit_toNat (c : Word) (x : Bool) : (crcBit c x).toNat = crcAfterBit c.toNat x := by
  have hmsb : c.msb = c.toNat.testBit 15 := by rw [BitVec.msb_eq_getLsbD_last, BitVec.getLsbD]
  have hshift : (c <<< 1).toNat = 2 * c.toNat % 65536 := by
    rw [BitVec.toNat_shiftLeft, Nat.shiftLeft_eq, Nat.mul_comm]
  unfold crcBit crcAfterBit
  rw [hmsb]
  by_cases hx : c.toNat.testBit 15 = x
  · simp [hx, hshift]
  · have hxor : (c.toNat.testBit 15 ^^ x) = true := by simpa using hx
    rw [if_pos hxor, if_neg hx, BitVec.toNat_xor, hshift]
    rfl

theorem crcByte_toNat (c : Word) (x : Byte) :
    (crcByte c x).toNat = [7, 6, 5, 4, 3, 2, 1, 0].foldl (fun c k => crcAfterBit c (x.toNat.testBit k)) c.toNat :=
  (List.foldl_hom BitVec.toNat fun c k => (crcBit_toNat c (x.getLsbD k)).symm).symm

theorem crc16_toNat (l : List Byte) : (crc16 l).toNat = crcOf (l.map (·.toNat)) := by
  rw [crcOf, List.foldl_map]
  exact (List.foldl_hom BitVec.toNat fun c x => (crcByte_toNat c x).symm).symm

theorem payloadBytes_toNat {body : Body} (hs : bodyShape body) : (payloadBytes body).map (·.toNat) = contentOf body := by
  cases body with
  | readRsp data =>
    simp only [payloadBytes, contentOf, List.map_cons, ofNat_length_toNat hs.2]
  | write a data =>
    simp only [payloadBytes, contentOf, List.map_append, List.map_cons, addrBytes_toNat, ofNat_length_toNat hs.2, List.cons_append,
      List.nil_append]
  | readReq a len => simp only [payloadBytes, contentOf, List.map_append, addrBytes_toNat, List.map_cons, List.map_nil,
      List.cons_append, List.nil_append]
  | nack a r =>
    simp only [payloadBytes, contentOf, List.map_append, addrBytes_toNat, List.map_cons, List.map_nil, List.cons_append,
      List.nil_append]
    cases r <;> rfl
  | announce interval regions =>
    have hcount : (BitVec.ofNat 8 regions.length).toNat = regions.length := by
      have := hs.2.2.1
      rw [BitVec.toNat_ofNat]
      omega
    simp only [payloadBytes, contentOf, List.map_cons, hcount, List.map_flatMap, groupBytes_toNat, List.cons_append, List.nil_append]
  | writeAck | heartbeat | leave => rfl

theorem kindCode_toNat (body : Body) : (kindCode (bodyKind body)).toNat = codeOf body := by
  cases body <;> rfl

theorem frameBytes_toNat (hs : bodyShape f.body) :
    (frameBytes f).map (·.toNat) =
      [64 * f.cls.toNat + 2 * f.src.toNat + 1, 16 * codeOf f.body + 8 * f.notice.toNat + 4 * f.fresh.toNat, f.dest.toNat,
        f.tag.toNat] ++ contentOf f.body := by
  simp only [frameBytes, List.map_cons, keyByte_toNat, kindByte_toNat, kindCode_toNat, destByte_toNat, payloadBytes_toNat hs,
    List.cons_append, List.nil_append]

/-- Settles O6: the layout is read back byte by byte (`keyByte_eq_iff` to `groupBytes_eq_iff`), and so whole. -/
theorem framesAndImagesCorrespond : Obligations.FramesAndImagesCorrespond := by
  refine ⟨fun _ _ => checkFrame_iff, fun f hf => ?_⟩
  simp only [encodeFrame, List.map_append, wordBytes_toNat, crc16_toNat, frameBytes_toNat hf.2.2.2]

end Sys2Proof.Machine


/-! ## What a well-kept station offers -/

namespace Sys2Proof.Machine

variable {s t : State}

theorem validStation_iff {n : Station} : validStation n = true ↔ n ≠ 0 ∧ n ≠ 31 := by
  simp only [validStation, Bool.and_eq_true, bne_iff_ne]

theorem judgeConfig_station {c : ConfigRecord} (h : judgeConfig c = .none) : validStation c.station = true ∧ timingOk c = true := by
  unfold judgeConfig at h
  split at h
  · cases h
  next hv =>
    split at h
    · cases h
    next ht => exact ⟨by simpa using hv, by simpa using ht⟩

theorem ownGroups_shape (h : directoryOrdered s) : (ownGroups s).length ≤ 4 ∧ ∀ g ∈ ownGroups s, groupShape g := by
  refine ⟨List.length_filterMap_le _ _, fun g hg => ?_⟩
  obtain ⟨n, -, hn⟩ := List.mem_filterMap.mp hg
  obtain ⟨e, he, rfl⟩ := Option.map_eq_some_iff.mp hn
  obtain ⟨hlo, hhi, hend, -⟩ := h.1 e (List.mem_of_find?_eq_some he)
  unfold dirEnd dirStart at hend
  exact ⟨hlo, hhi, by show e.base.toNat + e.length.toNat ≤ _; omega⟩

/-- A frame to one station (Table 1.7). -/
theorem frameShape_of_single {f : Frame} (hsrc : validStation f.src = true) (hdest : validStation f.dest = true)
    (hkind : kindBroadcast (bodyKind f.body) = false) (hbody : bodyShape f.body) : frameShape f := by
  obtain ⟨h0, h31⟩ := validStation_iff.mp hdest
  exact ⟨hsrc, h0, ⟨fun h => absurd h h31, fun h => by simp [hkind] at h⟩, hbody⟩

/-- A maintenance frame, to all stations (R16). -/
theorem frameShape_maintenance (hsrc : validStation (ownStation s) = true) (fresh : Bool) {b : Body}
    (hkind : kindBroadcast (bodyKind b) = true) (hbody : bodyShape b) : frameShape (maintenanceFrame fresh b s) :=
  ⟨hsrc, show (31 : Station) ≠ 0 by decide, ⟨fun _ => hkind, fun _ => rfl⟩, hbody⟩

theorem responseFrame_shape (hk : WellKept s) (hsrc : validStation (ownStation s) = true) {r : Response} (hr : r ∈ s.resp.responses) :
    frameShape (responseFrame r s) := by
  obtain ⟨-, -, -, hresponses, -⟩ := hk.shapes
  obtain ⟨hdest, hanswer⟩ := hresponses r hr
  refine frameShape_of_single hsrc hdest ?_ ?_
  · cases hx : r.answer <;> simp [responseFrame, hx, answerBody, bodyKind, kindBroadcast]
  · cases hx : r.answer <;> simp_all [responseFrame, answerBody, bodyShape, answerShape]

theorem requestFrame_shape (hk : WellKept s) (hsrc : validStation (ownStation s) = true) {y : ReadyItem} (hy : y ∈ s.sel.ready) :
    frameShape (offerFrame (.request y) s) := by
  have hkept := hk.requestsKept
  have hlisted := (hkept.ready y).mp hy
  cases y with
  | read i inc =>
    obtain ⟨hdest, hlen⟩ := (hkept.reads i).shape (by rw [hlisted.1]; simp)
    refine frameShape_of_single hsrc hdest rfl ?_
    show 1 ≤ (BitVec.ofNat 8 _).toNat ∧ (BitVec.ofNat 8 _).toNat ≤ 32
    rw [BitVec.toNat_ofNat]
    omega
  | write a =>
    obtain ⟨w, rest, hq⟩ : ∃ w rest, s.writes.queue = w :: rest := by
      cases hq : s.writes.queue with
      | nil => simp [listedItem, hq, readyAdmission] at hlisted
      | cons w rest => exact ⟨w, rest, rfl⟩
    obtain ⟨hdest, hlen⟩ := (hkept.queue w (by simp [hq])).shape
    have hhead : headOr s = w := by simp [headOr, hq]
    refine frameShape_of_single hsrc ?_ rfl ?_
    · show validStation (headOr s).dest = true
      rwa [hhead]
    · show 1 ≤ (headOr s).data.length ∧ (headOr s).data.length ≤ 32
      rw [hhead]
      omega

/-- Every item offered makes a frame in its ranges. -/
theorem WellKept.offerFrame_shape (hk : WellKept s) {x : Offered} (hx : offer s = some x) : frameShape (offerFrame x s) := by
  have hon : onSpan s.ctl.span = true := by
    unfold offer at hx
    split at hx
    · assumption
    · cases hx
  have hfirst : firstOffer s = some x := by simpa [offer, hon] using hx
  obtain ⟨hsrc, htiming⟩ := judgeConfig_station (hk.config (fun hoff => by simp [hoff, onSpan] at hon))
  have hannounce (fresh : Bool) : frameShape (maintenanceFrame fresh (.announce s.ctl.config.hbInterval (ownGroups s)) s) := by
    obtain ⟨hfew, hgroups⟩ := ownGroups_shape hk.directory
    simp only [timingOk, inRange, Bool.and_eq_true, decide_eq_true_eq] at htiming
    obtain ⟨⟨⟨⟨-, hlo, hhi⟩, -⟩, -⟩, -⟩ := htiming
    exact frameShape_maintenance hsrc fresh rfl ⟨hlo, hhi, hfew, hgroups⟩
  unfold firstOffer at hfirst
  split at hfirst
  next r rest hresponses =>
    obtain rfl := Option.some.inj hfirst
    exact responseFrame_shape hk hsrc (by simp [hresponses])
  split at hfirst
  · obtain rfl := Option.some.inj hfirst
    exact frameShape_maintenance hsrc false rfl trivial
  split at hfirst
  · obtain rfl := Option.some.inj hfirst
    exact hannounce _
  split at hfirst
  · obtain rfl := Option.some.inj hfirst
    exact frameShape_maintenance hsrc false rfl trivial
  · obtain ⟨y, hy, rfl⟩ := Option.map_eq_some_iff.mp hfirst
    exact requestFrame_shape hk hsrc (List.mem_of_head? hy)

/-- Settles O9: what is offered is in its ranges, and the image of such a frame is read back whole (`checkFrame_iff`). -/
theorem offeredFramesPassEveryCheck : Obligations.OfferedFramesPassEveryCheck := by
  intro s t tr hk hfree ht htr
  have htx : t.iface.tx = (beginAttempt s).iface.tx := by
    rw [show exec .attemptBegin s = execAttemptBegin s from rfl, execAttemptBegin, stationEvent_eq] at ht
    split at ht
    · rw [← Host.Outcome.next.inj ht]
      simp [event]
    · rw [← Host.Outcome.next.inj ht, hfree] at htr
      cases htr
  rw [htx] at htr
  cases hx : offer s with
  | none => simp [beginAttempt_of_no_offer hx, hfree] at htr
  | some x =>
    rw [beginAttempt_of_offer hx] at htr
    obtain rfl := Option.some.inj htr
    exact checkFrame_iff.mpr ⟨hk.offerFrame_shape hx, rfl⟩

end Sys2Proof.Machine


/-! ## Every step keeps the answers and the notices -/

namespace Sys2Proof.Machine

variable {s t u : State} {c : Instr}

/-- The Response Queue and the Notice Queue between events. -/
structure AnswersKept (s : State) : Prop where
  apart : answersApart s
  few : s.resp.responses.length ≤ Config.responseCapacity
  shape : ∀ r ∈ s.resp.responses, validStation r.dest = true ∧ answerShape r.answer
  room : s.resp.notices.length ≤ Config.noticeCapacity
  values : ∀ x ∈ s.resp.notices, x.value.length = 1 ∨ x.value.length = 2

theorem WellKept.answersKept (h : WellKept s) : AnswersKept s := by
  obtain ⟨-, -, hresponses, hnotices, -⟩ := h.capacity
  obtain ⟨-, -, -, hshape, hvalues⟩ := h.shapes
  exact ⟨h.answers, hresponses, hshape, hnotices, hvalues⟩

/-! ### What leaves all of it -/

/-- No item is on the line that was not there before. -/
def SameItems (s t : State) : Prop := ∀ x ∈ t.iface.tx, ∃ y ∈ s.iface.tx, x.item = y.item

theorem SameItems.of_eq (h : t.iface.tx = s.iface.tx) : SameItems s t := fun x hx => ⟨x, h ▸ hx, rfl⟩

theorem SameItems.of_none (h : t.iface.tx = none) : SameItems s t := fun x hx => by simp [h] at hx

theorem SameItems.trans (h : SameItems s t) (h' : SameItems t u) : SameItems s u := fun x hx => by
  obtain ⟨y, hy, hxy⟩ := h' x hx
  obtain ⟨z, hz, hyz⟩ := h y hy
  exact ⟨z, hz, hxy.trans hyz⟩

/-- The same queue with the same item on the line, or with fewer answers. -/
theorem AnswersKept.of_fewer (h : AnswersKept s) (hi : SameItems s t) (hr : t.resp.responses.Sublist s.resp.responses)
    (ha : t.resp.appended = s.resp.appended) (hn : t.resp.notices = s.resp.notices) : AnswersKept t := by
  obtain ⟨⟨hp, hb, ht⟩, hfew, hshape, hroom, hvalues⟩ := h
  refine ⟨⟨hp.sublist hr, fun q hq => ha ▸ hb q (hr.subset hq), fun x hx r hxr => ?_⟩, hr.length_le.trans hfew,
    fun r hmem => hshape r (hr.subset hmem), hn ▸ hroom, hn ▸ hvalues⟩
  obtain ⟨y, hy, hxy⟩ := hi x hx
  obtain ⟨hlt, hle⟩ := ht y hy r (hxy ▸ hxr)
  exact ⟨ha ▸ hlt, fun q hq => hle q (hr.subset hq)⟩

theorem AnswersKept.of_same (h : AnswersKept s) (ht : t.resp = s.resp ∧ t.iface.tx = s.iface.tx) : AnswersKept t :=
  h.of_fewer (.of_eq ht.2) (by rw [ht.1]) (by rw [ht.1]) (by rw [ht.1])

theorem AnswersKept.of_items (h : AnswersKept s) (hr : t.resp = s.resp) (hi : SameItems s t) : AnswersKept t :=
  h.of_fewer hi (by rw [hr]) (by rw [hr]) (by rw [hr])

/-! ### The operations of the responder -/

theorem AnswersKept.respond (h : AnswersKept s) {n : Station} {x : Answer} (tag : Byte) (hroom : responsesFull s = false)
    (hn : validStation n = true) (hx : answerShape x) : AnswersKept (respond n tag x s) := by
  have hlt : s.resp.responses.length < Config.responseCapacity := by simpa [responsesFull] using hroom
  refine ⟨answersApart_respond _ n tag x h.apart, ?_, fun r hr => ?_, h.room, h.values⟩
  · simp only [Machine.respond, State.setResp_resp, List.length_append, List.length_singleton]
    omega
  · obtain hr | hr := List.mem_append.mp hr
    · exact h.shape r hr
    · rw [List.mem_singleton.mp hr]
      exact ⟨hn, hx⟩

theorem AnswersKept.appendNotice (h : AnswersKept s) {x : Notice} (hroom : noticesFull s = false)
    (hx : x.value.length = 1 ∨ x.value.length = 2) : AnswersKept (appendNotice x s) := by
  have hlt : s.resp.notices.length < Config.noticeCapacity := by simpa [noticesFull] using hroom
  refine ⟨h.apart, h.few, h.shape, ?_, fun y hy => ?_⟩
  · simp only [Machine.appendNotice, State.setResp_resp, List.length_append, List.length_singleton]
    omega
  · obtain hy | hy := List.mem_append.mp hy
    · exact h.values y hy
    · rw [List.mem_singleton.mp hy]
      exact hx

theorem AnswersKept.purgeResponses (h : AnswersKept s) (n : Station) : AnswersKept (purgeResponses n s) :=
  h.of_fewer (.of_eq rfl) List.filter_sublist rfl rfl

theorem AnswersKept.responseSent (h : AnswersKept s) (r : Response) : AnswersKept (responseSent r s) := by
  rw [responseSent_eq]
  split
  · exact h.of_fewer (.of_eq rfl) (List.tail_sublist _) rfl rfl
  · exact h

theorem AnswersKept.takeReadReq (h : AnswersKept s) {n : Station} (hn : validStation n = true) (tag : Byte) (a : GlobalAddr) {len : Nat}
    (hlen : 1 ≤ len ∧ len ≤ 32) : AnswersKept (takeReadReq n tag a len s) := by
  unfold Machine.takeReadReq
  split
  · exact h
  split
  · exact h.of_same ⟨rfl, rfl⟩
  next hroom =>
    have hroom : responsesFull s = false := by simpa using hroom
    split
    · exact h.respond tag hroom hn trivial
    · exact h.respond tag hroom hn trivial
    · exact h.respond tag hroom hn (by simpa [answerShape, ramRead, memReadBytes] using hlen)

theorem AnswersKept.takeWrite (h : AnswersKept s) {n : Station} (hn : validStation n = true) (seq : Byte) (a : GlobalAddr) {data : List Byte}
    (hdata : 1 ≤ data.length) (notice : Bool) : AnswersKept (takeWrite n seq a data notice s) := by
  unfold Machine.takeWrite
  split
  · exact h
  split
  · exact h.of_same ⟨rfl, rfl⟩
  next hroom =>
    have hroom : responsesFull s = false := by simpa using hroom
    split
    · exact h.respond seq hroom hn trivial
    · exact h.respond seq hroom hn trivial
    next writable l _ =>
      split
      · exact h.respond seq hroom hn trivial
      split
      · exact h.respond seq hroom hn trivial
      split
      · exact h.respond seq hroom hn trivial
      next hnotice =>
        have happlied : AnswersKept (setPeer n { peerOf n s with lastApplied := some seq } (ramWrite l data s)) := h.of_same (by simp [ramWrite])
        cases notice with
        | false => exact happlied.respond seq (by simpa [responsesFull, ramWrite] using hroom) hn trivial
        | true =>
          have hvalue : (data.take 2).length = 1 ∨ (data.take 2).length = 2 := by simp; omega
          have hspace : noticesFull (setPeer n { peerOf n s with lastApplied := some seq } (ramWrite l data s)) = false := by
            simpa [noticesFull, ramWrite] using hnotice
          exact (happlied.appendNotice hspace hvalue).respond seq (by simpa [responsesFull, Machine.appendNotice, ramWrite] using hroom) hn trivial

end Sys2Proof.Machine


namespace Sys2Proof.Machine

variable {s t u : State} {c : Instr}

/-! ### Frames -/

theorem takeAnnounce_resp (f : Frame) (interval : Byte) (gs : List RegionGroup) (s : State) :
    (takeAnnounce f interval gs s).resp = s.resp ∧ (takeAnnounce f interval gs s).iface.tx = s.iface.tx := by
  have hasked (v : State) : (if f.fresh && decide (v.ctl.span = .online) then requestAnnounce v else v).resp = v.resp := by
    split <;> simp
  have hregions (v : State) : (takeRegions f.src gs v).resp = v.resp := by simp
  refine ⟨?_, by rw [(SameLine.takeAnnounce f interval gs s).iface]⟩
  simp only [takeAnnounce, hasked, hregions]
  split <;> simp

theorem AnswersKept.losePeer (h : AnswersKept s) (n : Station) : AnswersKept (losePeer n s) := by
  have hlost : AnswersKept (agentsLose n (directoryLoses n (setPeer n (lostRecord (peerOf n s)) s))) := h.of_same (by simp)
  exact hlost.purgeResponses n

theorem AnswersKept.frameContent (h : AnswersKept s) {f : Frame} (hf : frameShape f) : AnswersKept (frameContent f s) := by
  obtain ⟨hsrc, -, -, hbody⟩ := hf
  unfold Machine.frameContent
  split
  · exact h.of_same (by simp)
  · exact h.of_same (by simp)
  · split <;> exact h.of_same (by simp)
  next hb => exact h.takeReadReq hsrc _ _ (by rw [hb] at hbody; exact hbody)
  next hb => exact h.takeWrite hsrc _ _ (by rw [hb] at hbody; exact hbody.1) _
  · exact h
  · exact h.of_same (takeAnnounce_resp f _ _ s)
  · unfold takeLeave
    split
    · exact h.losePeer _
    · exact h

/-! ### OFFLINE and STOPPED -/

theorem purged_resp (x : SpanState) (cause : Option StopCause) (s : State) :
    (setSpan x (setStopCause cause (purgeAll s))).resp = { s.resp with responses := [] } := by
  simp [purgeAll, setStopCause, stopControlTimers, clearConsecutive, clearPeers, clearSelector, emptyResponses]

theorem AnswersKept.purged (h : AnswersKept s) (x : SpanState) (cause : Option StopCause) :
    AnswersKept (setSpan x (setStopCause cause (purgeAll s))) := by
  have hresp := purged_resp x cause s
  have hiface := purged_iface x cause s
  exact h.of_fewer (.of_eq (by rw [hiface])) (by rw [hresp]; exact List.nil_sublist _) (by rw [hresp]) (by rw [hresp])

theorem cutTransmission_item (c : ConfigRecord) (x : Transmission) : (cutTransmission c x).item = x.item := by
  unfold cutTransmission
  split <;> rfl

theorem SameItems.cut (s : State) : SameItems s (cut s) := fun x hx => by
  obtain ⟨y, hy, rfl⟩ := Option.mem_map.mp hx
  exact ⟨y, hy, cutTransmission_item _ y⟩

theorem AnswersKept.enterOffline (h : AnswersKept s) : AnswersKept (enterOffline s) := by
  have hcut : AnswersKept (Machine.cut s) := h.of_items (by simp) (.cut s)
  unfold Machine.enterOffline
  split
  · exact h
  · exact hcut.purged .offline none

theorem AnswersKept.enterStopped (h : AnswersKept s) (cause : StopCause) : AnswersKept (enterStopped cause s) :=
  h.purged .stopped (some cause)

theorem AnswersKept.frameArrives (h : AnswersKept s) (bytes : List Byte) {f : Frame} (hf : frameShape f) :
    AnswersKept (frameArrives bytes f s) := by
  have ht : AnswersKept (frameTaken bytes s) := by
    refine h.of_same ?_
    unfold frameTaken
    split <;> simp
  have hheard : AnswersKept (hear f.src (frameTaken bytes s)) := ht.of_same (by simp)
  simp only [Machine.frameArrives]
  split
  · exact ht
  split
  · split
    · exact ht
    · unfold takeClash
      split
      · exact ht.enterStopped _
      · exact ht
  split
  · exact hheard.frameContent hf
  · exact hheard

/-! ### Events -/

/-- A response offered is the head of the queue. -/
theorem AnswersKept.beginAttempt (h : AnswersKept s) : AnswersKept (beginAttempt s) := by
  cases hx : offer s with
  | none => rwa [beginAttempt_of_no_offer hx]
  | some x =>
    rw [beginAttempt_of_offer hx]
    obtain ⟨⟨hp, hb, -⟩, hfew, hshape, hroom, hvalues⟩ := h
    refine ⟨⟨hp, hb, fun y hy r hr => ?_⟩, hfew, hshape, hroom, hvalues⟩
    obtain rfl := Option.some.inj hy
    have hhead : s.resp.responses.head? = some r := by
      unfold offer firstOffer at hx
      cases x with
      | response q =>
        obtain rfl := Option.some.inj hr
        repeat' split at hx
        all_goals simp_all
      | _ => cases hr
    obtain ⟨rest, hq⟩ := List.head?_eq_some_iff.mp hhead
    rw [hq] at hp hb ⊢
    refine ⟨hb r (by simp), fun q hqr => ?_⟩
    obtain rfl | hqr := List.mem_cons.mp hqr
    · exact ⟨le_rfl, fun _ => rfl⟩
    · have hlt := (List.pairwise_cons.mp hp).1 q hqr
      exact ⟨hlt.le, fun he => absurd he (Nat.ne_of_gt hlt)⟩

theorem AnswersKept.itemSent (h : AnswersKept s) (x : Offered) : AnswersKept (itemSent x s) := by
  cases x with
  | response r => exact h.responseSent r
  | leave =>
    have hmark : AnswersKept (s.setSel { s.sel with leaveMark := false }) := h.of_same ⟨rfl, rfl⟩
    exact hmark.enterOffline
  | announce fresh copy =>
    cases fresh with
    | false => exact h.of_same ⟨rfl, rfl⟩
    | true =>
      simp only [Machine.itemSent, announceSent, freshSent, if_true]
      split
      · have hopen : AnswersKept (startHeartbeat (setSpan .online s)) := h.of_same (by simp [startHeartbeat])
        exact hopen.of_same ⟨rfl, rfl⟩
      · exact h.of_same ⟨rfl, rfl⟩
  | heartbeat => exact h
  | request y => cases y <;> exact h.of_same (by simp [Machine.itemSent])

theorem AnswersKept.endBreak (h : AnswersKept s) : AnswersKept (endBreak s) := by
  have hquiet (v : State) (hv : v.resp = s.resp ∧ v.iface.tx = none) : AnswersKept v := h.of_items hv.1 (.of_none hv.2)
  unfold Machine.endBreak
  split
  · split
    next b _ =>
      cases b with
      | failure =>
        simp only [breakOutcome, stopIfFailing]
        split
        · exact (hquiet _ (by simp [countFailure, receiverLost, setTx])).enterStopped _
        · exact hquiet _ (by simp [countFailure, receiverLost, setTx])
      | failureThenOffline => exact hquiet _ ⟨rfl, rfl⟩
      | cut => exact hquiet _ ⟨rfl, rfl⟩
    · exact h
  · exact h

theorem AnswersKept.effect (h : AnswersKept s) (hu : Effect c s u) : AnswersKept u := by
  cases hu with
  | attemptBegin _ => exact h.beginAttempt
  | attemptLost _ _ => exact h.of_items rfl (.of_none rfl)
  | readbackMismatch _ _ =>
    refine h.of_items rfl fun x hx => ?_
    obtain ⟨y, hy, rfl⟩ := Option.mem_map.mp hx
    exact ⟨y, hy, rfl⟩
  | breakEnd _ _ => exact h.endBreak
  | attemptSent _ _ =>
    unfold endSent
    split
    next x _ =>
      have hsent : AnswersKept (heartbeatSent (s.setIface
          (ownBytesReceived x.image x.image.length { s.iface with tx := none, lossCount := 0, failCount := 0 }))) :=
        h.of_items rfl (.of_none rfl)
      exact hsent.itemSent x.item
    · exact h
  | frameBroken _ _ =>
    unfold breakFrame
    split <;> exact h.of_same ⟨rfl, rfl⟩
  | frameFormatError _ =>
    unfold discardFrame frameTaken
    repeat' split
    all_goals exact h.of_same ⟨rfl, rfl⟩
  | clashReport hf _ _ => exact h.frameArrives _ (checkFrame_iff.mp hf).1
  | frame hf _ _ => exact h.frameArrives _ (checkFrame_iff.mp hf).1
  | @readResponseTimeout _ i _ => exact h.of_same (t := readTimedOut i s) (by unfold readTimedOut; split <;> simp)
  | @discardExpiry _ i _ => exact h.of_same (t := discardRead i s) (by unfold discardRead; split <;> simp)
  | @writeResponseTimeout _ w _ _ _ => exact h.of_same (t := headTimedOut w s) (by unfold headTimedOut; split <;> simp)
  | holdExpiry _ _ => exact h.of_same ⟨rfl, rfl⟩
  | heartbeatTimerExpiry _ => exact h.of_same ⟨rfl, rfl⟩
  | listenTimerExpiry _ => exact h.of_same (t := listenEnds s) (by simp [listenEnds])
  | drainTimerExpiry _ => exact h.of_same (t := drainAgents s) (by simp only [drainAgents]; split <;> simp)
  | @silenceLimit _ n _ => exact h.of_same (t := markSilent n s) (by unfold markSilent; split <;> simp)
  | absenceLimit _ => exact h.losePeer _
  | idleFound _ =>
    unfold foundIdle
    split <;> exact h.of_same ⟨rfl, rfl⟩
  | startBitConfirmed _ _ => exact h.of_same ⟨rfl, rfl⟩
  | ownFrameEnd _ _ _ => exact h.of_same ⟨rfl, rfl⟩

/-! ### Cycles and commands -/

theorem AnswersKept.popNotice (h : AnswersKept s) : AnswersKept (popNotice s) :=
  ⟨h.apart, h.few, h.shape, by simpa [Machine.popNotice] using (Nat.sub_le _ _).trans h.room,
    fun x hx => h.values x (List.mem_of_mem_tail hx)⟩

theorem AnswersKept.loopbackWrite (h : AnswersKept s) (e : DirEntry) (n : RegionIndex) (a : GlobalAddr) {data : List Byte}
    (hdata : data.length = 1 ∨ data.length = 2) (x : Bool) : AnswersKept (loopbackWrite e n a data x s).next := by
  have hwritten : AnswersKept (ramWrite (localAddress e n a s) data s) := h.of_same (by simp [ramWrite])
  have hovertaken (v : State) (hv : AnswersKept v) : AnswersKept (overtake a.toNat data.length v) := hv.of_same (by simp)
  unfold Machine.loopbackWrite
  split
  · exact h.of_same ⟨rfl, rfl⟩
  split
  · exact h.of_same ⟨rfl, rfl⟩
  next hroom =>
    cases x with
    | false =>
      simp only [Bool.false_eq_true, if_false, answerOnly]
      exact hovertaken _ hwritten
    | true =>
      have hspace : noticesFull s = false := by simpa using hroom
      simp only [if_true, answerOnly]
      exact hovertaken _ (hwritten.appendNotice hspace hdata)

theorem AnswersKept.apertureWriteTaken (h : AnswersKept s) (a : GlobalAddr) {data : List Byte}
    (hdata : data.length = 1 ∨ data.length = 2) (x : Bool) : AnswersKept (apertureWriteTaken a data x s).next := by
  unfold Machine.apertureWriteTaken
  split
  · exact h.of_same ⟨rfl, rfl⟩
  split
  · exact h.of_same ⟨rfl, rfl⟩
  next e _ =>
    split
    · exact h.loopbackWrite _ _ a hdata x
    split
    · exact h.of_same ⟨rfl, rfl⟩
    split
    · split
      · exact h
      · exact h.of_same (t := admitWrite e.owner a data x s) (by simp)
    · exact h.of_same ⟨rfl, rfl⟩

theorem AnswersKept.owned (h : AnswersKept s) (hu : Owned c s u) : AnswersKept u := by
  cases hu with
  | @apertureRead _ notice w be _ =>
    obtain ⟨hiface, -, -, -, hresp, -, -⟩ := apertureReadTaken_frame (apertureAddr w be s) be s
    exact h.of_same ⟨hresp, by rw [hiface]⟩
  | apertureWrite hb => exact h.apertureWriteTaken _ (laneBytes_length _ hb) _
  | noticePop => exact h.popNotice.of_same ⟨rfl, rfl⟩
  | storeConfig _ =>
    refine h.of_same ?_
    unfold storeConfig configStored setConfig
    split
    · split <;> simp
    all_goals simp
  | storeBitDiv _ =>
    unfold storeBitDiv
    split <;> exact h.of_same ⟨rfl, rfl⟩
  | storeTickDiv _ =>
    unfold storeTickDiv
    split <;> exact h.of_same ⟨rfl, rfl⟩
  | readEffect =>
    refine h.of_same ?_
    unfold readEffect
    split
    · split <;> simp
    · exact ⟨rfl, rfl⟩
  | _ => exact h.of_same ⟨rfl, rfl⟩

theorem AnswersKept.commanded (h : AnswersKept s) (hu : Commanded c s u) : AnswersKept u := by
  cases hu with
  | join _ _ => exact h.of_same (t := startListening s) (by simp [startListening, markWaiting])
  | leaveOnline _ => exact h.of_same (t := startLeaving s) (by simp [startLeaving])
  | leaveJoining _ => exact h.enterOffline
  | restart => exact h.enterOffline

theorem AnswersKept.eventEnd (h : AnswersKept s) (b : State) : AnswersKept (eventEnd b s) := h.of_same (by simp)

theorem AnswersKept.of_reset (hr : s.resp = Responder.reset) (hi : s.iface = SpanInterface.reset) : AnswersKept s := by
  have htx : s.iface.tx = none := by rw [hi]; rfl
  constructor <;> simp [answersApart, hr, htx, Responder.reset, Config.responseCapacity, Config.noticeCapacity]

theorem AnswersKept.does (h : AnswersKept s) (ht : Does c s t) : AnswersKept t := by
  cases ht with
  | powerOn => exact .of_reset rfl rfl
  | clearEnd => exact h.of_same ⟨rfl, rfl⟩
  | pinReset => exact .of_reset rfl rfl
  | port p => exact h.of_same ⟨rfl, rfl⟩
  | tick _ => exact h.of_same ⟨rfl, rfl⟩
  | event hu => exact (h.effect hu).eventEnd s
  | @command _ _ u hu code p =>
    have hended := (h.commanded hu).eventEnd s
    generalize Machine.eventEnd s u = v at hended
    exact hended.of_same ⟨rfl, rfl⟩
  | cycle hu p => exact (h.owned hu).of_same ⟨rfl, rfl⟩

theorem AnswersKept.step (hs : WellKept s) (ht : step s = .next t) : AnswersKept t := by
  refine of_step hs ht ?_ fun c u hu hd => hu.answersKept.does hd
  refine hs.answersKept.of_items ?_ fun x hx => ?_
  · obtain ⟨x, hx, -⟩ := idleStep_eq s
    rw [hx]
    rfl
  · unfold idleStep at hx
    split at hx
    · exact ⟨x, hx, rfl⟩
    split at hx
    next y hy =>
      obtain rfl := Option.some.inj (show some (bitPassed y) = some x by
        simpa [ownBitsReceived, ownBytesReceived, apply_ite SpanInterface.tx] using hx)
      refine ⟨y, hy, ?_⟩
      unfold bitPassed
      split <;> rfl
    · exact ⟨x, hx, rfl⟩

/-- Settles O56: the queue and the ready list are parts of `RequestsKept`, the answers apart one of `AnswersKept`, and every command
keeps both. -/
theorem stepKeepsTheQueueAndReadyList : Obligations.StepKeepsTheQueueAndReadyList := fun _ _ hs ht =>
  have hlists := (RequestsKept.step hs ht).lists
  ⟨hlists.1, hlists.2, (AnswersKept.step hs ht).apart⟩

end Sys2Proof.Machine


/-! ## Every step keeps the capacities, shared RAM's form and the lengths of the timers -/

namespace Sys2Proof.Machine

variable {s t u : State} {c : Instr}

/-! ### The invariant -/

/-- The receive frame buffer and the consecutive counts (R4, R7, R8). -/
def IfaceFits (x : SpanInterface) : Prop :=
  x.rxBuffer.length ≤ Config.frameBufferSize ∧ x.lossCount ≤ Config.urgentLosses ∧ x.failCount ≤ Config.stopFailures

/-- The timers of the selector and of station control have at most their lengths to go (R153). -/
structure TimersFit (x : StationControl) (y : Selector) : Prop where
  heartbeat : ∀ k, y.heartbeatTimer = some k → k ≤ x.config.hbInterval.toNat * 1000
  listen : ∀ k, x.listenTimer = some k → k ≤ 3 * x.config.hbInterval.toNat * 1000
  drain : ∀ k, x.drainTimer = some k → k ≤ 100000

/-- A time since last heard has not passed its limit (R123). -/
structure HeardFits (c : ConfigRecord) (r : PeerRecord) : Prop where
  absent : r.presence = .absent → r.heardAgo = 0
  present : r.presence = .present → r.heardAgo ≤ 3 * (r.interval.getD c.hbInterval).toNat * 1000
  any : r.heardAgo ≤ 8 * (r.interval.getD c.hbInterval).toNat * 1000

structure BoundsKept (s : State) : Prop where
  entries : s.dir.entries.length ≤ Config.directoryCapacity
  queue : s.writes.queue.length ≤ Config.writeQueueCapacity
  iface : IfaceFits s.iface
  ram : ramCanonical s
  timers : TimersFit s.ctl s.sel
  heard : ∀ r ∈ s.peers, HeardFits s.ctl.config r

theorem WellKept.boundsKept (h : WellKept s) : BoundsKept s := by
  obtain ⟨hentries, hqueue, -, -, hbuffer, hlosses, hfailures⟩ := h.capacity
  obtain ⟨-, -, hheartbeat, hlisten, hdrain, hheard⟩ := h.bounded
  exact ⟨hentries, hqueue, ⟨hbuffer, hlosses, hfailures⟩, h.ram, ⟨hheartbeat, hlisten, hdrain⟩,
    fun r hr => ⟨(hheard r hr).1, (hheard r hr).2.1, (hheard r hr).2.2⟩⟩

/-! ### What leaves parts of it -/

theorem TimersFit.of_same {x x' : StationControl} {y y' : Selector} (h : TimersFit x y) (hx : x' = x)
    (hy : y'.heartbeatTimer = y.heartbeatTimer) : TimersFit x' y' := by
  subst hx
  exact ⟨hy ▸ h.heartbeat, h.listen, h.drain⟩

theorem BoundsKept.of_same (h : BoundsKept s)
    (ht : t.dir.entries = s.dir.entries ∧ t.writes.queue = s.writes.queue ∧ t.iface = s.iface ∧ t.ram = s.ram ∧ t.ctl = s.ctl ∧
      t.sel.heartbeatTimer = s.sel.heartbeatTimer ∧ t.peers = s.peers) : BoundsKept t := by
  obtain ⟨hd, hq, hi, hr, hc, hs, hp⟩ := ht
  exact ⟨hd ▸ h.entries, hq ▸ h.queue, hi ▸ h.iface, by rw [ramCanonical, hr]; exact h.ram, h.timers.of_same hc hs,
    by rw [hp, hc]; exact h.heard⟩

/-- The write agent moves the queue, which stays within its capacity. -/
theorem BoundsKept.of_queue (h : BoundsKept s) (ha : AgentStep s t) (hq : t.writes.queue.length ≤ Config.writeQueueCapacity)
    (ht : t.dir = s.dir ∧ t.iface = s.iface ∧ t.ram = s.ram ∧ t.ctl = s.ctl ∧ t.peers = s.peers) : BoundsKept t := by
  obtain ⟨hd, hi, hr, hc, hp⟩ := ht
  exact ⟨by rw [hd]; exact h.entries, hq, hi ▸ h.iface, by rw [ramCanonical, hr]; exact h.ram,
    h.timers.of_same hc (by rw [ha.sel]), by rw [hp, hc]; exact h.heard⟩

theorem BoundsKept.of_entries (h : BoundsKept s) (hd : t.dir.entries.length ≤ Config.directoryCapacity)
    (ht : t.writes = s.writes ∧ t.iface = s.iface ∧ t.ram = s.ram ∧ t.ctl = s.ctl ∧ t.sel.heartbeatTimer = s.sel.heartbeatTimer ∧
      t.peers = s.peers) : BoundsKept t := by
  obtain ⟨hq, hi, hr, hc, hs, hp⟩ := ht
  exact ⟨hd, hq ▸ h.queue, hi ▸ h.iface, by rw [ramCanonical, hr]; exact h.ram, h.timers.of_same hc hs, by rw [hp, hc]; exact h.heard⟩

/-- One record of the peer table changes. -/
theorem BoundsKept.setPeer (h : BoundsKept s) (n : Station) {r : PeerRecord} (hr : HeardFits s.ctl.config r) :
    BoundsKept (setPeer n r s) := by
  refine ⟨by simpa using h.entries, by simpa using h.queue, by simpa using h.iface, by simpa [ramCanonical] using h.ram,
    h.timers.of_same (by simp) (by simp), fun q hq => ?_⟩
  have hctl : (Machine.setPeer n r s).ctl = s.ctl := by simp
  rw [hctl]
  unfold Machine.setPeer at hq
  split at hq
  · obtain hq | rfl := List.mem_or_eq_of_mem_set hq
    · exact h.heard q hq
    · exact hr
  · exact h.heard q hq

theorem HeardFits.of_reset (c : ConfigRecord) {r : PeerRecord} (h : r.heardAgo = 0) : HeardFits c r :=
  ⟨fun _ => h, fun _ => by omega, by omega⟩

theorem BoundsKept.peerOf (h : BoundsKept s) (n : Station) : HeardFits s.ctl.config (peerOf n s) := by
  unfold Machine.peerOf
  split
  · rw [List.getD_eq_getElem?_getD]
    cases hn : s.peers[n.toNat - 1]? with
    | none => exact .of_reset _ rfl
    | some r => exact h.heard r (List.mem_of_getElem? hn)
  · exact .of_reset _ rfl

/-- A change of a record that leaves what is heard of it. -/
theorem HeardFits.of_same {c : ConfigRecord} {r q : PeerRecord} (h : HeardFits c r)
    (hq : q.presence = r.presence ∧ q.heardAgo = r.heardAgo ∧ q.interval = r.interval) : HeardFits c q := by
  obtain ⟨h1, h2, h3⟩ := hq
  exact ⟨by rw [h1, h2]; exact h.absent, by rw [h1, h2, h3]; exact h.present, by rw [h2, h3]; exact h.any⟩

/-! ### The directory -/

theorem insertByBase_length (e : DirEntry) (l : List DirEntry) : (insertByBase e l).length = l.length + 1 :=
  (insertByBase_perm e l).length_eq

theorem place_fits (e : DirEntry) (h : s.dir.entries.length ≤ Config.directoryCapacity) :
    (place e s).dir.entries.length ≤ Config.directoryCapacity := by
  unfold place
  split
  next hj =>
    have hroom : s.dir.entries.length < Config.directoryCapacity := by
      unfold judgePlacing at hj
      split at hj
      · split at hj <;> cases hj
      split at hj
      · cases hj
      · omega
    simp only [insertEntry, State.setDir_dir, insertByBase_length]
    omega
  next hj =>
    have hsome : (s.dir.entries.filter (fun f => !dirOverlaps e f)).length < s.dir.entries.length := by
      have hany : s.dir.entries.any (dirOverlaps e) = true := by
        by_contra hn
        simp [judgePlacing, hn] at hj
        split at hj <;> cases hj
      obtain ⟨f, hf, hov⟩ := List.any_eq_true.mp hany
      exact List.length_filter_lt_length_iff_exists.mpr ⟨f, hf, by simp [hov]⟩
    simp only [insertEntry, State.setDir_dir, insertByBase_length, evictFor_entries]
    omega
  · simpa using h
  · simpa using h

end Sys2Proof.Machine


namespace Sys2Proof.Machine

variable {s t u : State} {c : Instr}

/-! ### The operations of the directory -/

theorem placeListed_fits (n : Station) (gs : List RegionGroup) :
    ∀ (earlier : List DirEntry) (s : State), s.dir.entries.length ≤ Config.directoryCapacity →
      (placeListed n gs earlier s).dir.entries.length ≤ Config.directoryCapacity := by
  induction gs with
  | nil => exact fun _ _ h => h
  | cons g gs ih =>
    intro earlier s h
    refine ih _ _ ?_
    split
    · simpa using h
    · exact place_fits _ h

theorem placeOwn_fits (s : State) (n : RegionIndex) (h : s.dir.entries.length ≤ Config.directoryCapacity) :
    (placeOwn s n).dir.entries.length ≤ Config.directoryCapacity := by
  unfold placeOwn
  split
  · split
    · exact place_fits _ h
    · exact place_fits _ h
  · exact h

theorem returnRegion_fits (s : State) (n : RegionIndex) (h : s.dir.entries.length ≤ Config.directoryCapacity) :
    (returnRegion s n).dir.entries.length ≤ Config.directoryCapacity := by
  unfold returnRegion
  split
  next hc =>
    simp only [Bool.and_eq_true, decide_eq_true_eq] at hc
    simp only [insertEntry, raise, setStatus, State.setDir_dir, State.setEv_dir, insertByBase_length]
    omega
  · exact h

theorem returnRule_fits (h : s.dir.entries.length ≤ Config.directoryCapacity) :
    (returnRule s).dir.entries.length ≤ Config.directoryCapacity := by
  have hfold := List.foldlRecOn (motive := fun v => v.dir.entries.length ≤ Config.directoryCapacity) allRegionIndexes returnRegion h
    fun v hv n _ => returnRegion_fits v n hv
  unfold returnRule
  split
  · unfold requestIfReturned
    split
    · simpa using hfold
    · exact hfold
  · exact h

theorem removeOwner_fits (n : Station) (h : s.dir.entries.length ≤ Config.directoryCapacity) :
    (removeOwner n s).dir.entries.length ≤ Config.directoryCapacity := (List.length_filter_le _ _).trans h

theorem placeOwnRegions_fits (h : s.dir.entries.length ≤ Config.directoryCapacity) :
    (placeOwnRegions s).dir.entries.length ≤ Config.directoryCapacity := by
  unfold placeOwnRegions
  exact List.foldlRecOn (motive := fun v : State => v.dir.entries.length ≤ Config.directoryCapacity) allRegionIndexes placeOwn h
    fun v hv n _ => placeOwn_fits v n hv

theorem takeRegions_fits (n : Station) (gs : List RegionGroup) (h : s.dir.entries.length ≤ Config.directoryCapacity) :
    (takeRegions n gs s).dir.entries.length ≤ Config.directoryCapacity := by
  unfold takeRegions
  split
  · exact returnRule_fits (placeListed_fits n gs _ _ (removeOwner_fits n h))
  · exact h

/-! ### The operations of the write agent -/

/-- The Posted Write Queue is within its capacity. -/
def QueueFits (s : State) : Prop := s.writes.queue.length ≤ Config.writeQueueCapacity

theorem QueueFits.of_eq (h : QueueFits s) (hq : t.writes.queue = s.writes.queue) : QueueFits t := by
  rw [QueueFits, hq]
  exact h

theorem QueueFits.popHead (h : QueueFits s) : QueueFits (popHead s) := by
  have hq : (Machine.popHead s).writes.queue = s.writes.queue.tail := rfl
  rw [QueueFits, hq, List.length_tail]
  exact (Nat.sub_le _ _).trans h

theorem QueueFits.dropHead (h : QueueFits s) (w : PostedWrite) (r : FaultReason) : QueueFits (dropHead w r s) := h.popHead.of_eq rfl

theorem QueueFits.judgeHeads : ∀ (l : List PostedWrite) {s : State}, QueueFits s → QueueFits (judgeHeads l s)
  | [], _, h => h
  | w :: rest, s, h => by
    unfold Machine.judgeHeads
    split
    · exact h.of_eq rfl
    · exact QueueFits.judgeHeads rest (h.dropHead w _)

theorem QueueFits.headGone (h : QueueFits s) : QueueFits (headGone s) :=
  (QueueFits.judgeHeads s.writes.queue h).of_eq (by simp [Machine.headGone])

theorem QueueFits.setHead (h : QueueFits s) {w : PostedWrite} {rest : List PostedWrite} (hq : s.writes.queue = w :: rest)
    (w' : PostedWrite) : QueueFits (setHead w' s) := by
  have hset : (Machine.setHead w' s).writes.queue = w' :: rest := by simp [Machine.setHead, setQueue, hq]
  rw [QueueFits, hset]
  rw [QueueFits, hq] at h
  exact h

theorem QueueFits.takeWriteAck (h : QueueFits s) (n : Station) (tag : Byte) : QueueFits (takeWriteAck n tag s) := by
  unfold Machine.takeWriteAck
  split
  · exact h.of_eq rfl
  split
  · exact h.popHead.headGone
  · exact h.of_eq rfl

theorem QueueFits.takeWriteNack (h : QueueFits s) (n : Station) (tag : Byte) (r : NackReason) : QueueFits (takeWriteNack n tag r s) := by
  unfold Machine.takeWriteNack
  split
  · exact h.of_eq rfl
  next w rest hq =>
    split
    · split
      · exact QueueFits.setHead (s := unreadyWrite s) (h.of_eq rfl) hq _
      · exact (h.dropHead w _).headGone
    · exact h.of_eq rfl

theorem QueueFits.readyHead (h : QueueFits s) {w : PostedWrite} {rest : List PostedWrite} (hq : s.writes.queue = w :: rest) :
    QueueFits (readyHead w s) := (h.setHead hq _).of_eq rfl

theorem QueueFits.headTimedOut (h : QueueFits s) {w : PostedWrite} {rest : List PostedWrite} (hq : s.writes.queue = w :: rest) :
    QueueFits (headTimedOut w s) := by
  unfold Machine.headTimedOut
  split
  · exact h.readyHead hq
  · exact QueueFits.headGone (s := markSilent _ _) ((h.dropHead w .noAnswer).of_eq (by simp))

theorem QueueFits.writeSent (h : QueueFits s) (a : Word) : QueueFits (writeSent a s) := by
  unfold Machine.writeSent
  split
  · exact h
  next w rest hq =>
    split
    · exact h.setHead hq _
    · exact h

theorem QueueFits.purgeWrites (h : QueueFits s) (gone : PostedWrite → Bool) (r : FaultReason) : QueueFits (purgeWrites gone r s) := by
  have hremoved : QueueFits (removeWrites gone s) := by
    have hq : (removeWrites gone s).writes.queue = s.writes.queue.filter (fun w => !gone w) := by
      simp only [removeWrites]
      split <;> rfl
    rw [QueueFits, hq]
    exact (List.length_filter_le _ _).trans h
  unfold Machine.purgeWrites
  split
  · exact h
  next w rest _ =>
    have hfaulted : QueueFits (handOn (writeFault w r) (count .writeLoss (rest.length + 1) (removeWrites gone s))) :=
      hremoved.of_eq (by simp)
    simp only
    split
    · exact hfaulted.headGone
    · exact hfaulted.of_eq (by simp)

theorem QueueFits.agentsLose (h : QueueFits s) (n : Station) : QueueFits (agentsLose n s) := by
  have hchoice : QueueFits (s.setChoice (s.choice + 1)) := h.of_eq rfl
  simp only [Machine.agentsLose]
  split
  · exact QueueFits.purgeWrites (s := purgeReads _ _ _) (hchoice.of_eq (by simp)) _ _
  · exact (hchoice.purgeWrites (fun w => w.dest == n) .peerLost).of_eq (by simp)

theorem QueueFits.drainAgents (h : QueueFits s) : QueueFits (drainAgents s) := by
  have hchoice : QueueFits (s.setChoice (s.choice + 1)) := h.of_eq rfl
  simp only [Machine.drainAgents]
  split
  · exact QueueFits.purgeWrites (s := drainReads _) (hchoice.of_eq (by simp)) _ _
  · exact (hchoice.purgeWrites (fun _ => true) .leaving).of_eq (by simp)

end Sys2Proof.Machine


namespace Sys2Proof.Machine

variable {s t u : State} {c : Instr}

/-! ### Peers and their frames -/

theorem BoundsKept.hear (h : BoundsKept s) (n : Station) : BoundsKept (hear n s) := by
  unfold Machine.hear
  split
  · exact h.setPeer n (.of_reset _ rfl)
  · exact h

theorem BoundsKept.markSilent (h : BoundsKept s) (n : Station) : BoundsKept (markSilent n s) := by
  have hany := (h.peerOf n).any
  unfold Machine.markSilent
  split
  · exact h.setPeer n ⟨by simp, by simp, hany⟩
  · exact h

theorem BoundsKept.count (h : BoundsKept s) (k : Counter) (n : Nat) : BoundsKept (count k n s) :=
  h.of_same ⟨rfl, rfl, rfl, rfl, rfl, rfl, rfl⟩

/-- The read agent leaves all of it. -/
theorem BoundsKept.of_reads (h : BoundsKept s) (ha : AgentStep s t)
    (ht : t.dir = s.dir ∧ t.writes = s.writes ∧ t.iface = s.iface ∧ t.ram = s.ram ∧ t.ctl = s.ctl ∧ t.peers = s.peers) :
    BoundsKept t := by
  obtain ⟨hd, hw, hrest⟩ := ht
  exact h.of_queue ha (by rw [hw]; exact h.queue) ⟨hd, hrest⟩

theorem BoundsKept.takeWriteAck (h : BoundsKept s) (n : Station) (tag : Byte) : BoundsKept (takeWriteAck n tag s) :=
  h.of_queue (.takeWriteAck n tag s) (QueueFits.takeWriteAck h.queue n tag) (by simp)

theorem BoundsKept.takeWriteNack (h : BoundsKept s) (n : Station) (tag : Byte) (r : NackReason) : BoundsKept (takeWriteNack n tag r s) :=
  h.of_queue (.takeWriteNack n tag r s) (QueueFits.takeWriteNack h.queue n tag r) (by simp)

theorem BoundsKept.respond (h : BoundsKept s) (n : Station) (tag : Byte) (x : Answer) : BoundsKept (respond n tag x s) :=
  h.of_same ⟨rfl, rfl, rfl, rfl, rfl, rfl, rfl⟩

theorem BoundsKept.ramWrite (h : BoundsKept s) {a : Nat} {data : List Byte} (ha : a + data.length ≤ Config.ramSize) :
    BoundsKept (ramWrite a data s) :=
  ⟨h.entries, h.queue, h.iface, memWf_memWriteBytes data s.ram a h.ram ha, h.timers, h.heard⟩

theorem BoundsKept.takeReadReq (h : BoundsKept s) (n : Station) (tag : Byte) (a : GlobalAddr) (len : Nat) :
    BoundsKept (takeReadReq n tag a len s) := h.of_same (by simp)

theorem BoundsKept.takeWrite (h : BoundsKept s) (n : Station) (seq : Byte) (a : GlobalAddr) (data : List Byte) (notice : Bool)
    (hend : onSpan s.ctl.span = true → servedPastEnd a data.length s = false) : BoundsKept (takeWrite n seq a data notice s) := by
  unfold Machine.takeWrite
  split
  · exact h
  next hon =>
    split
    · exact h.of_same ⟨rfl, rfl, rfl, rfl, rfl, rfl, rfl⟩
    split
    · exact h.respond _ _ _
    · exact h.respond _ _ _
    next writable l hregion =>
      have hinside : l + data.length ≤ Config.ramSize := by
        have := hend (by simpa using hon)
        simpa [servedPastEnd, hregion] using this
      split
      · exact h.respond _ _ _
      split
      · exact h.respond _ _ _
      split
      · exact h.respond _ _ _
      · have happlied : BoundsKept (Machine.setPeer n { Machine.peerOf n s with lastApplied := some seq } (Machine.ramWrite l data s)) :=
          (h.ramWrite hinside).setPeer n ((h.peerOf n).of_same ⟨rfl, rfl, rfl⟩)
        unfold applyWrite
        refine BoundsKept.respond ?_ _ _ _
        cases notice with
        | false => exact happlied
        | true => exact happlied.of_same ⟨rfl, rfl, rfl, rfl, rfl, rfl, rfl⟩

theorem BoundsKept.returnRule (h : BoundsKept s) : BoundsKept (returnRule s) :=
  h.of_entries (returnRule_fits h.entries) ⟨by simp, by simp, by simp, by simp, (SameLine.returnRule s).heartbeat, by simp⟩

theorem BoundsKept.takeRegions (h : BoundsKept s) (n : Station) (gs : List RegionGroup) : BoundsKept (takeRegions n gs s) := by
  have hheartbeat : (Machine.takeRegions n gs s).sel.heartbeatTimer = s.sel.heartbeatTimer := by
    unfold Machine.takeRegions
    split
    · rw [(SameLine.returnRule _).heartbeat]
      simp
    · rfl
  exact h.of_entries (takeRegions_fits n gs h.entries) ⟨by simp, by simp, by simp, by simp, hheartbeat, by simp⟩

/-- An ANNOUNCE of a station that has just been heard. -/
theorem BoundsKept.takeAnnounce (h : BoundsKept s) (f : Frame) (interval : Byte) (gs : List RegionGroup)
    (hheard : hearing s.ctl.span = true → (Machine.peerOf f.src s).heardAgo = 0) : BoundsKept (takeAnnounce f interval gs s) := by
  have hinterval : BoundsKept (takeInterval f.src interval s) := by
    unfold takeInterval
    split
    next hx => exact h.setPeer _ (.of_reset _ (hheard hx))
    · exact h
  have hfresh (v : State) (hv : BoundsKept v) : BoundsKept (takeFresh f.src v) := by
    unfold takeFresh
    split
    · exact hv.setPeer _ ((hv.peerOf f.src).of_same ⟨rfl, rfl, rfl⟩)
    · exact hv
  have hasked (v : State) (hv : BoundsKept v) : BoundsKept (if f.fresh && decide (v.ctl.span = .online) then requestAnnounce v else v) := by
    split
    · exact hv.of_same ⟨by simp, by simp, by simp, by simp, by simp, (SameLine.requestAnnounce v).heartbeat, by simp⟩
    · exact hv
  unfold Machine.takeAnnounce
  refine hasked _ (BoundsKept.takeRegions ?_ _ _)
  split
  · exact hfresh _ hinterval
  · exact hinterval

theorem BoundsKept.losePeer (h : BoundsKept s) (n : Station) : BoundsKept (losePeer n s) := by
  have hgone : BoundsKept (removeOwner n (Machine.setPeer n (lostRecord (Machine.peerOf n s)) s)) :=
    (h.setPeer n (.of_reset _ rfl)).of_entries (removeOwner_fits n (by simpa using h.entries)) ⟨rfl, rfl, rfl, rfl, rfl, rfl⟩
  have hagents : BoundsKept (agentsLose n (directoryLoses n (Machine.setPeer n (lostRecord (Machine.peerOf n s)) s))) := by
    have hreturned := hgone.returnRule
    exact hreturned.of_queue (.agentsLose n _) (QueueFits.agentsLose hreturned.queue n) (by simp [directoryLoses])
  exact hagents.of_same ⟨rfl, rfl, rfl, rfl, rfl, rfl, rfl⟩

end Sys2Proof.Machine


namespace Sys2Proof.Machine

variable {s t u : State} {c : Instr}

/-! ### Frames -/

theorem servedPastEnd_congr (ht : t.dir.entries = s.dir.entries ∧ t.ctl.config = s.ctl.config) (a : GlobalAddr) (n : Nat) :
    servedPastEnd a n t = servedPastEnd a n s := by
  unfold servedPastEnd regionCheck localAddress
  rw [ht.1, ht.2]

theorem BoundsKept.frameContent (h : BoundsKept s) (f : Frame)
    (hheard : hearing s.ctl.span = true → (Machine.peerOf f.src s).heardAgo = 0)
    (hend : ∀ a n, onSpan s.ctl.span = true → servedPastEnd a n s = false) : BoundsKept (frameContent f s) := by
  unfold Machine.frameContent
  split
  · exact h.of_reads (.takeReadRsp _ _ _ s) (by simp)
  · exact h.takeWriteAck _ _
  · split
    · exact h.takeWriteNack _ _ _
    · exact h.of_reads (.takeReadNack _ _ _ s) (by simp)
  · exact h.takeReadReq _ _ _ _
  next a data _ => exact h.takeWrite _ _ a data _ (hend a data.length)
  · exact h
  · exact h.takeAnnounce f _ _ hheard
  · unfold takeLeave
    split
    · exact h.losePeer _
    · exact h

/-! ### OFFLINE and STOPPED -/

theorem BoundsKept.purged (h : BoundsKept s) (x : SpanState) (cause : Option StopCause) :
    BoundsKept (setSpan x (setStopCause cause (purgeAll s))) := by
  have hctl : (setSpan x (setStopCause cause (purgeAll s))).ctl =
      { s.ctl with listenTimer := none, drainTimer := none, stopCause := cause, span := x } := by
    rw [setSpan_ctl]
    simp [setStopCause, purgeAll_ctl]
  have hsel : (setSpan x (setStopCause cause (purgeAll s))).sel.heartbeatTimer = none := by
    simp [purgeAll, clearSelector, Selector.reset]
  have hpeers : (setSpan x (setStopCause cause (purgeAll s))).peers = s.peers.map lostRecord := by
    simp [purgeAll, clearPeers]
  have hiface := purged_iface x cause s
  obtain ⟨hbuffer, -, -⟩ := h.iface
  refine ⟨?_, ?_, ?_, ?_, ⟨?_, ?_, ?_⟩, ?_⟩
  · simp [purgeAll_dir]
  · simp [purgeAll, emptyWrites, setQueue]
  · rw [hiface]
    exact ⟨hbuffer, Nat.zero_le _, Nat.zero_le _⟩
  · simpa [ramCanonical] using h.ram
  · rw [hsel]
    simp
  · simp [hctl]
  · simp [hctl]
  · rw [hpeers]
    rintro r hr
    obtain ⟨q, -, rfl⟩ := List.mem_map.mp hr
    exact .of_reset _ rfl

theorem BoundsKept.of_iface (h : BoundsKept s) (hi : IfaceFits t.iface)
    (ht : t.dir = s.dir ∧ t.writes = s.writes ∧ t.ram = s.ram ∧ t.ctl = s.ctl ∧ t.sel = s.sel ∧ t.peers = s.peers) : BoundsKept t := by
  obtain ⟨hd, hq, hr, hc, hs, hp⟩ := ht
  exact ⟨hd ▸ h.entries, hq ▸ h.queue, hi, by rw [ramCanonical, hr]; exact h.ram, h.timers.of_same hc (by rw [hs]),
    by rw [hp, hc]; exact h.heard⟩

theorem BoundsKept.enterOffline (h : BoundsKept s) : BoundsKept (enterOffline s) := by
  have hcut : BoundsKept (Machine.cut s) := h.of_iface h.iface (by simp)
  unfold Machine.enterOffline
  split
  · exact h
  · exact hcut.purged .offline none

theorem BoundsKept.enterStopped (h : BoundsKept s) (cause : StopCause) : BoundsKept (enterStopped cause s) := h.purged .stopped (some cause)

theorem BoundsKept.frameTaken (h : BoundsKept s) (bytes : List Byte) : BoundsKept (frameTaken bytes s) := by
  obtain ⟨hbuffer, hlosses, hfailures⟩ := h.iface
  unfold Machine.frameTaken
  split
  · exact h.of_iface ⟨by simp, hlosses, hfailures⟩ ⟨rfl, rfl, rfl, rfl, rfl, rfl⟩
  · exact h.of_iface ⟨hbuffer, hlosses, hfailures⟩ ⟨rfl, rfl, rfl, rfl, rfl, rfl⟩

theorem heardAgo_hear {n : Station} (hn : validStation n = true) (hs : s.peers.length = Config.peerRecords)
    (hx : hearing s.ctl.span = true) : (peerOf n (hear n s)).heardAgo = 0 := by
  rw [hear, if_pos hx, peerOf_setPeer_self _ n _ hn hs]

theorem BoundsKept.frameArrives (hk : WellKept s) (bytes : List Byte) {f : Frame} (hsrc : validStation f.src = true) :
    BoundsKept (frameArrives bytes f s) := by
  have htaken : (Machine.frameTaken bytes s).peers = s.peers ∧ (Machine.frameTaken bytes s).dir = s.dir ∧
      (Machine.frameTaken bytes s).ctl = s.ctl := by
    unfold Machine.frameTaken
    split <;> simp
  obtain ⟨hpeers, hdir, hctl⟩ := htaken
  have ht := hk.boundsKept.frameTaken bytes
  have hcontent : BoundsKept (Machine.frameContent f (Machine.hear f.src (Machine.frameTaken bytes s))) := by
    refine (ht.hear f.src).frameContent f (fun hx => ?_) fun a n hon => ?_
    · exact heardAgo_hear hsrc (by rw [hpeers]; exact hk.sized.1) (by simpa using hx)
    · have hoff : s.ctl.span ≠ .offline := by
        rintro hoff
        simp [hoff, onSpan] at hon
      rw [servedPastEnd_congr (s := s) (by simp)]
      exact hk.servedPastEnd_eq_false hoff a n
  simp only [Machine.frameArrives]
  split
  · exact ht
  split
  · split
    · exact ht
    · unfold takeClash
      split
      · exact ht.enterStopped _
      · exact ht
  split
  · exact hcontent
  · exact ht.hear f.src

/-! ### Events -/

theorem BoundsKept.setSpan (h : BoundsKept s) (x : SpanState) : BoundsKept (setSpan x s) := by
  have hctl := setSpan_ctl x s
  refine ⟨by simpa using h.entries, by simpa using h.queue, by simpa using h.iface, by simpa [ramCanonical] using h.ram, ⟨?_, ?_, ?_⟩, ?_⟩
  · simpa [hctl] using h.timers.heartbeat
  · simpa [hctl] using h.timers.listen
  · simpa [hctl] using h.timers.drain
  · simpa [hctl] using h.heard

theorem BoundsKept.startHeartbeat (h : BoundsKept s) : BoundsKept (startHeartbeat s) := by
  refine ⟨h.entries, h.queue, h.iface, h.ram, ⟨fun k hk => ?_, h.timers.listen, h.timers.drain⟩, h.heard⟩
  obtain rfl := Option.some.inj (show some (heartbeatTicks s.ctl.config) = some k from hk)
  exact le_rfl

theorem BoundsKept.itemSent (h : BoundsKept s) (x : Offered) : BoundsKept (itemSent x s) := by
  cases x with
  | response r => exact h.of_same (t := responseSent r s) (by simp)
  | leave =>
    have hmark : BoundsKept (s.setSel { s.sel with leaveMark := false }) := h.of_same ⟨rfl, rfl, rfl, rfl, rfl, rfl, rfl⟩
    exact hmark.enterOffline
  | announce fresh copy =>
    have hrenewed (v : State) (hv : BoundsKept v) : BoundsKept (renewAnnounce copy v) := hv.of_same ⟨rfl, rfl, rfl, rfl, rfl, rfl, rfl⟩
    cases fresh with
    | false => exact hrenewed s h
    | true =>
      simp only [Machine.itemSent, announceSent, freshSent, if_true]
      split
      · exact hrenewed _ (h.setSpan .online).startHeartbeat
      · exact hrenewed s h
  | heartbeat => exact h
  | request y =>
    cases y with
    | read i inc => exact h.of_reads (t := readSent i inc (unreadyItem (.read i inc) s)) (.trans (.unreadyItem _ s) (.readSent i inc _)) (by simp)
    | write a =>
      refine h.of_queue (t := writeSent a (unreadyItem (.write a) s)) (.trans (.unreadyItem _ s) (.writeSent a _)) ?_ (by simp)
      exact QueueFits.writeSent (s := unreadyItem (.write a) s) h.queue a

theorem BoundsKept.endSent (h : BoundsKept s) : BoundsKept (endSent s) := by
  unfold Machine.endSent
  split
  next x _ =>
    refine BoundsKept.itemSent ?_ x.item
    refine ⟨h.entries, h.queue, ⟨?_, Nat.zero_le _, Nat.zero_le _⟩, h.ram, ⟨fun k hk => ?_, h.timers.listen, h.timers.drain⟩, h.heard⟩
    · exact List.length_take_le _ _
    · obtain ⟨-, -, rfl⟩ := Option.map_eq_some_iff.mp
        (show s.sel.heartbeatTimer.map (fun _ => heartbeatTicks s.ctl.config) = some k from hk)
      exact le_rfl
  · exact h

theorem BoundsKept.endBreak (h : BoundsKept s) : BoundsKept (endBreak s) := by
  obtain ⟨-, hlosses, hfailures⟩ := h.iface
  unfold Machine.endBreak
  split
  · split
    next b _ =>
      have hlost : BoundsKept (receiverLost (setTx none s)) :=
        h.of_iface ⟨Nat.zero_le _, hlosses, hfailures⟩ ⟨rfl, rfl, rfl, rfl, rfl, rfl⟩
      cases b with
      | failure =>
        have hcounted : BoundsKept (countFailure (Machine.count .txFail 1 (receiverLost (setTx none s)))) :=
          (hlost.count .txFail 1).of_iface ⟨Nat.zero_le _, hlosses, Nat.min_le_right _ _⟩ ⟨rfl, rfl, rfl, rfl, rfl, rfl⟩
        simp only [breakOutcome, stopIfFailing]
        split
        · exact hcounted.enterStopped _
        · exact hcounted
      | failureThenOffline => exact hlost.count _ _
      | cut => exact hlost
    · exact h
  · exact h

theorem BoundsKept.listenEnds (h : BoundsKept s) : BoundsKept (listenEnds s) := by
  have hstopped : BoundsKept (s.setCtl { s.ctl with listenTimer := none }) :=
    ⟨h.entries, h.queue, h.iface, h.ram, ⟨h.timers.heartbeat, by simp, h.timers.drain⟩, h.heard⟩
  have hspan := hstopped.setSpan .announcing
  have hplaced : BoundsKept (placeOwnRegions (Machine.setSpan .announcing (s.setCtl { s.ctl with listenTimer := none }))) :=
    hspan.of_entries (placeOwnRegions_fits hspan.entries) (by simp)
  have hmarked (v : State) (hv : BoundsKept v) : BoundsKept (v.setSel { v.sel with announceMark := .pendingFresh }) :=
    hv.of_same ⟨rfl, rfl, rfl, rfl, rfl, rfl, rfl⟩
  exact hmarked _ hplaced

theorem BoundsKept.effect (hk : WellKept s) (hu : Effect c s u) : BoundsKept u := by
  have h := hk.boundsKept
  obtain ⟨hbuffer, hlosses, hfailures⟩ := h.iface
  cases hu with
  | attemptBegin _ =>
    cases hx : offer s with
    | none => rwa [beginAttempt_of_no_offer hx]
    | some x =>
      rw [beginAttempt_of_offer hx]
      exact h.of_iface ⟨Nat.zero_le _, hlosses, hfailures⟩ ⟨rfl, rfl, rfl, rfl, rfl, rfl⟩
  | attemptLost _ _ => exact h.of_iface ⟨hbuffer, Nat.min_le_right _ _, hfailures⟩ ⟨rfl, rfl, rfl, rfl, rfl, rfl⟩
  | readbackMismatch _ _ => exact h.of_iface h.iface ⟨rfl, rfl, rfl, rfl, rfl, rfl⟩
  | breakEnd _ _ => exact h.endBreak
  | attemptSent _ _ => exact h.endSent
  | frameBroken _ _ =>
    unfold breakFrame
    split <;> exact h.of_iface ⟨Nat.zero_le _, hlosses, hfailures⟩ ⟨rfl, rfl, rfl, rfl, rfl, rfl⟩
  | @frameFormatError _ bytes _ =>
    unfold discardFrame
    split
    · exact h.frameTaken bytes
    · exact (h.frameTaken []).count _ _
  | clashReport hf _ _ => exact .frameArrives hk _ (checkFrame_src hf)
  | frame hf _ _ => exact .frameArrives hk _ (checkFrame_src hf)
  | @readResponseTimeout _ i _ =>
    unfold readTimedOut
    split
    · exact h.of_reads (.makeReady i s) (by simp)
    · exact (h.of_reads (.failRead .noAnswer s i) (by simp)).markSilent _
  | @discardExpiry _ i _ =>
    have hfreed : BoundsKept (freeRead i s) := h.of_reads (.freeRead i s) (by simp)
    unfold discardRead
    split
    · exact hfreed
    · exact hfreed.of_same ⟨rfl, rfl, rfl, rfl, rfl, rfl, rfl⟩
  | @writeResponseTimeout _ w rest hq _ =>
    unfold headTimedOut
    split
    · exact h.of_queue (.readyHead w s) (QueueFits.readyHead h.queue hq) (by simp)
    · have hdropped : BoundsKept (dropHead w .noAnswer s) :=
        h.of_queue (.dropHead w .noAnswer s) (QueueFits.dropHead h.queue w .noAnswer) (by simp)
      have hsilent := hdropped.markSilent w.dest
      exact hsilent.of_queue (.headGone _) (QueueFits.headGone hsilent.queue) (by simp)
  | @holdExpiry _ w rest hq _ => exact h.of_queue (.readyHead w s) (QueueFits.readyHead h.queue hq) (by simp)
  | heartbeatTimerExpiry _ =>
    exact BoundsKept.startHeartbeat (s := s.setSel { s.sel with heartbeatMark := true }) (h.of_same ⟨rfl, rfl, rfl, rfl, rfl, rfl, rfl⟩)
  | listenTimerExpiry _ => exact h.listenEnds
  | drainTimerExpiry _ =>
    obtain ⟨hd, hp, hc⟩ := drainAgents_frame s
    have hrest : (drainAgents s).iface = s.iface ∧ (drainAgents s).ram = s.ram := by
      simp only [drainAgents]
      split <;> simp
    exact h.of_queue (.drainAgents s) (QueueFits.drainAgents h.queue) ⟨hd, hrest.1, hrest.2, hc, hp⟩
  | silenceLimit _ => exact h.markSilent _
  | absenceLimit _ => exact h.losePeer _
  | idleFound _ =>
    unfold foundIdle
    split <;> exact h.of_iface ⟨hbuffer, hlosses, hfailures⟩ ⟨rfl, rfl, rfl, rfl, rfl, rfl⟩
  | startBitConfirmed _ _ => exact h.of_iface ⟨Nat.zero_le _, hlosses, hfailures⟩ ⟨rfl, rfl, rfl, rfl, rfl, rfl⟩
  | ownFrameEnd _ _ _ => exact h.of_iface ⟨hbuffer, hlosses, hfailures⟩ ⟨rfl, rfl, rfl, rfl, rfl, rfl⟩

theorem BoundsKept.commanded (h : BoundsKept s) (hu : Commanded c s u) : BoundsKept u := by
  cases hu with
  | join _ _ =>
    have hlisten : BoundsKept (s.setCtl { s.ctl with listenTimer := some (listenTicks s.ctl.config) }) := by
      refine ⟨h.entries, h.queue, h.iface, h.ram, ⟨h.timers.heartbeat, fun k hk => ?_, h.timers.drain⟩, h.heard⟩
      obtain rfl := Option.some.inj hk
      exact le_rfl
    have hmarked : BoundsKept (markWaiting (s.setCtl { s.ctl with listenTimer := some (listenTicks s.ctl.config) })) :=
      hlisten.of_iface hlisten.iface ⟨rfl, rfl, rfl, rfl, rfl, rfl⟩
    exact hmarked.setSpan .listening
  | leaveOnline _ =>
    have hdrain : BoundsKept (s.setCtl { s.ctl with drainTimer := some drainTicks }) := by
      refine ⟨h.entries, h.queue, h.iface, h.ram, ⟨h.timers.heartbeat, h.timers.listen, fun k hk => ?_⟩, h.heard⟩
      obtain rfl := Option.some.inj hk
      exact le_rfl
    exact hdrain.setSpan .leaving
  | leaveJoining _ => exact h.enterOffline
  | restart => exact h.enterOffline

end Sys2Proof.Machine


namespace Sys2Proof.Machine

variable {s t u : State} {c : Instr}

/-! ### Cycles -/

theorem laneBytes_width (be : Enables) (d : Word) : (laneBytes be d).length = accessWidth be := by
  obtain ⟨lo, hi⟩ := be
  cases lo <;> cases hi <;> rfl

/-- A word of shared RAM lies inside it. -/
theorem ramWord_inside (w : BitVec 13) (be : Enables) (d : Word) :
    accessStart (w.toNat * 2) be + (laneBytes be d).length ≤ Config.ramSize := by
  have hw := w.isLt
  rw [laneBytes_width]
  unfold accessStart accessWidth Config.ramSize
  split <;> split <;> omega

theorem BoundsKept.loopbackWrite (h : BoundsKept s) {e : DirEntry} {n : RegionIndex} {a : GlobalAddr} {data : List Byte} (x : Bool)
    (hend : localAddress e n a s + data.length ≤ Config.ramSize) : BoundsKept (loopbackWrite e n a data x s).next := by
  have hrefused (r : FaultReason) (m : Station) : BoundsKept (refuseAccess .write r a m s).next := h.of_same ⟨rfl, rfl, rfl, rfl, rfl, rfl, rfl⟩
  have hwritten := h.ramWrite hend
  have hovertaken (v : State) (hv : BoundsKept v) : BoundsKept (overtake a.toNat data.length v) := hv.of_reads (.overtake _ _ v) (by simp)
  unfold Machine.loopbackWrite
  split
  · exact hrefused _ _
  split
  · exact hrefused _ _
  · cases x with
    | false =>
      simp only [Bool.false_eq_true, if_false, answerOnly]
      exact hovertaken _ hwritten
    | true =>
      simp only [if_true, answerOnly]
      exact hovertaken _ (hwritten.of_same ⟨rfl, rfl, rfl, rfl, rfl, rfl, rfl⟩)

theorem BoundsKept.admitWrite (h : BoundsKept s) (n : Station) (a : GlobalAddr) (data : List Byte) (x : Bool)
    (hroom : s.writes.queue.length < Config.writeQueueCapacity) : BoundsKept (admitWrite n a data x s) := by
  have hposted : BoundsKept (s.setWrites
      { queue := s.writes.queue ++ [posted n a data x s], admission := s.writes.admission + 1 }) :=
    ⟨h.entries, by simpa using hroom, h.iface, h.ram, h.timers, h.heard⟩
  have hqueued : BoundsKept (enqueueWrite n a data x s) := hposted.setPeer n ((h.peerOf n).of_same ⟨rfl, rfl, rfl⟩)
  have hovertaken : BoundsKept (overtake a.toNat data.length (enqueueWrite n a data x s)) :=
    hqueued.of_reads (.overtake _ _ _) (by simp)
  have hready (v : State) (hv : BoundsKept v) (y : ReadyItem) : BoundsKept (appendReady y v) :=
    hv.of_same ⟨rfl, rfl, rfl, rfl, rfl, rfl, rfl⟩
  unfold Machine.admitWrite
  simp only
  split
  · exact hready _ hovertaken _
  · exact hovertaken

theorem BoundsKept.apertureWriteTaken (h : BoundsKept s) {a : GlobalAddr} {data : List Byte} (x : Bool)
    (hend : ∀ e n, lookup a s = some e → e.own = some n → s.ctl.span = .online →
      localAddress e n a s + data.length ≤ Config.ramSize) : BoundsKept (apertureWriteTaken a data x s).next := by
  have hrefused (r : FaultReason) (n : Station) : BoundsKept (refuseAccess .write r a n s).next := h.of_same ⟨rfl, rfl, rfl, rfl, rfl, rfl, rfl⟩
  unfold Machine.apertureWriteTaken
  split
  · exact hrefused _ _
  next hx =>
    split
    · exact hrefused _ _
    next e he =>
      split
      next n hn => exact h.loopbackWrite x (hend e n he hn (by simpa using hx))
      split
      · exact hrefused _ _
      split
      · split
        · exact h
        next hroom => exact h.admitWrite _ a data x (by omega)
      · exact hrefused _ _

/-- In OFFLINE no timer runs and no station is heard, whatever the configuration becomes. -/
theorem BoundsKept.of_config (hk : WellKept s) (hx : s.ctl.span = .offline)
    (ht : t.dir.entries = s.dir.entries ∧ t.writes.queue = s.writes.queue ∧ t.ram = s.ram ∧ t.sel = s.sel)
    (hi : IfaceFits t.iface) (hc : t.ctl.listenTimer = s.ctl.listenTimer ∧ t.ctl.drainTimer = s.ctl.drainTimer)
    (hp : ∀ r ∈ t.peers, r.heardAgo = 0) : BoundsKept t := by
  have h := hk.boundsKept
  obtain ⟨hd, hq, hr, hs⟩ := ht
  obtain ⟨-, -, -, hsel, hlisten, hdrain, -⟩ := hk.empty.2.1 (by simp [hx, hearing])
  refine ⟨by rw [hd]; exact h.entries, by rw [hq]; exact h.queue, hi, by rw [ramCanonical, hr]; exact h.ram, ⟨?_, ?_, ?_⟩,
    fun r hmem => .of_reset _ (hp r hmem)⟩
  · simp [hs, hsel, Selector.reset]
  · simp [hc.1, hlisten]
  · simp [hc.2, hdrain]

theorem BoundsKept.setCommandStatus (h : BoundsKept s) (code : Byte) (r : RefusalCode) : BoundsKept (setCommandStatus code r s) :=
  ⟨h.entries, h.queue, h.iface, h.ram, ⟨h.timers.heartbeat, h.timers.listen, h.timers.drain⟩, h.heard⟩

theorem BoundsKept.owned (hk : WellKept s) (hu : Owned c s u) : BoundsKept u := by
  have h := hk.boundsKept
  have hsilent (hx : s.ctl.span = .offline) : ∀ r ∈ s.peers, r.heardAgo = 0 := fun r hr => by
    obtain ⟨-, -, -, -, -, -, hlost⟩ := hk.empty.2.1 (by simp [hx, hearing])
    rw [hlost r hr]
    rfl
  have hcleared (n : Station) (v : State) (hv : BoundsKept v) : BoundsKept (Machine.setPeer n { Machine.peerOf n v with changed := false } v) :=
    hv.setPeer n ((hv.peerOf n).of_same ⟨rfl, rfl, rfl⟩)
  cases hu with
  | ramWrite => exact h.ramWrite (ramWord_inside _ _ _)
  | @apertureRead _ notice w be _ =>
    obtain ⟨hiface, hdir, hpeers, hwrites, -, hram, hctl⟩ := apertureReadTaken_frame (apertureAddr w be s) be s
    exact h.of_reads (.apertureReadTaken _ be s) ⟨hdir, hwrites, hiface, hram, hctl, hpeers⟩
  | @apertureWrite _ notice w be d _ =>
    refine h.apertureWriteTaken notice fun e n he hn hx => ?_
    obtain ⟨hmem, hlo, hhi⟩ := mem_of_lookup he
    rw [laneBytes_width]
    exact localAddress_add_le hlo (aperture_access_le_dirEnd hhi) (hk.ownEntry_inside_ram (by simp [hx]) hmem hn)
  | @storeConfig _ w be d hx =>
    have hset : BoundsKept (setConfig (writeConfigWord w be d s.ctl.config) s) :=
      .of_config hk hx ⟨rfl, rfl, rfl, rfl⟩ h.iface ⟨rfl, rfl⟩ (hsilent hx)
    have hstatus (v : State) (hv : BoundsKept v) (n : RegionIndex) (y : OwnStatus) : BoundsKept (setStatus n y v) :=
      hv.of_same ⟨rfl, rfl, rfl, rfl, rfl, rfl, rfl⟩
    unfold storeConfig configStored
    split
    · split
      · exact hcleared _ _ hset
      · exact hset
    · exact hstatus _ hset _ _
    · exact hset
  | storeBitDiv hx =>
    unfold storeBitDiv
    split
    · exact .of_config hk hx ⟨rfl, rfl, rfl, rfl⟩ ⟨Nat.zero_le _, h.iface.2⟩ ⟨rfl, rfl⟩ (hsilent hx)
    · exact h
  | storeTickDiv hx =>
    unfold storeTickDiv
    split
    · exact .of_config hk hx ⟨rfl, rfl, rfl, rfl⟩ h.iface ⟨rfl, rfl⟩ (hsilent hx)
    · exact h
  | readEffect =>
    unfold readEffect
    split
    · split
      · exact hcleared _ s h
      · exact h
    · exact h
  | status => exact h.setCommandStatus _ _
  | noticePop => exact (h.of_same (t := popNotice s) ⟨rfl, rfl, rfl, rfl, rfl, rfl, rfl⟩).setCommandStatus _ _
  | clearFault => exact (h.of_same (t := clearFault s) ⟨rfl, rfl, rfl, rfl, rfl, rfl, rfl⟩).setCommandStatus _ _
  | clearCounters => exact (h.of_same (t := clearCounters s) ⟨rfl, rfl, rfl, rfl, rfl, rfl, rfl⟩).setCommandStatus _ _
  | clearEvents | storeEnables => exact h.of_same ⟨rfl, rfl, rfl, rfl, rfl, rfl, rfl⟩

/-! ### Ticks -/

/-- A record of the table is that of a station. -/
theorem mem_peers_station (hs : s.peers.length = Config.peerRecords) {r : PeerRecord} (hr : r ∈ s.peers) :
    ∃ n ∈ allStations, peerOf n s = r := by
  obtain ⟨k, hk, rfl⟩ := List.getElem_of_mem hr
  have hlt : k < 30 := by rw [hs] at hk; exact hk
  refine ⟨BitVec.ofNat 5 (k + 1), List.mem_map.mpr ⟨k, List.mem_range.mpr hlt, rfl⟩, ?_⟩
  have hn : (BitVec.ofNat 5 (k + 1)).toNat = k + 1 := by rw [BitVec.toNat_ofNat]; omega
  have hvalid : validStation (BitVec.ofNat 5 (k + 1)) = true := by
    refine validStation_iff.mpr ⟨fun h => ?_, fun h => ?_⟩
    · simp [h] at hn
    · rw [h] at hn
      have h31 : k + 1 = 31 := hn.symm
      omega
  rw [peerOf, if_pos hvalid, hn]
  simp [hk]

/-- A time since last heard advances only while its limit has not been reached. -/
theorem HeardFits.tick {c : ConfigRecord} {r : PeerRecord} (h : HeardFits c r)
    (hs : r.presence = .present → r.heardAgo < silenceTicks c r) (ha : r.presence ≠ .absent → r.heardAgo < absenceTicks c r) :
    HeardFits c (tickRecord r) := by
  unfold tickRecord
  split
  · exact h
  next hne => exact ⟨fun habs => absurd habs hne, fun hp => hs hp, ha hne⟩

theorem BoundsKept.tickAll (h : BoundsKept s) (hs : s.peers.length = Config.peerRecords) (hdue : expiryDue s = false) :
    BoundsKept (tickAll s) := by
  refine ⟨h.entries, ?_, h.iface, h.ram, ⟨?_, ?_, ?_⟩, fun r hr => ?_⟩
  · show (s.writes.queue.map _).length ≤ _
    rw [List.length_map]
    exact h.queue
  · exact countDown_le h.timers.heartbeat
  · exact countDown_le h.timers.listen
  · exact countDown_le h.timers.drain
  · obtain ⟨q, hq, rfl⟩ := List.mem_map.mp (show r ∈ s.peers.map tickRecord from hr)
    obtain ⟨n, hn, rfl⟩ := mem_peers_station hs hq
    have hnot : silenceReached n s = false ∧ absenceReached n s = false := by
      simp only [expiryDue, Bool.or_eq_false_iff, List.any_eq_false] at hdue
      simpa using hdue.2 n hn
    refine (h.heard _ hq).tick (fun hp => ?_) fun ha => ?_
    · simpa [silenceReached, hp] using hnot.1
    · simpa [absenceReached, ha] using hnot.2

/-! ### Every command -/

theorem markChanged_heard (q r : PeerRecord) {c : ConfigRecord} (h : HeardFits c r) : HeardFits c (markChanged q r) := by
  unfold markChanged
  split
  · exact h
  · exact h.of_same ⟨rfl, rfl, rfl⟩

theorem mem_zipWith_right {f : PeerRecord → PeerRecord → PeerRecord} {l m : List PeerRecord} {x : PeerRecord}
    (hx : x ∈ List.zipWith f l m) : ∃ q, ∃ r ∈ m, x = f q r := by
  rw [← List.map_uncurry_zip_eq_zipWith] at hx
  obtain ⟨⟨q, r⟩, hqr, rfl⟩ := List.mem_map.mp hx
  exact ⟨q, r, (List.of_mem_zip hqr).2, rfl⟩

theorem BoundsKept.eventEnd (h : BoundsKept s) (b : State) : BoundsKept (eventEnd b s) := by
  have hpeers : BoundsKept (peerEventEnd b.peers s) := by
    unfold peerEventEnd
    split
    · refine ⟨h.entries, h.queue, h.iface, h.ram, h.timers, fun r hr => ?_⟩
      obtain ⟨q, r, hmem, rfl⟩ := mem_zipWith_right (show r ∈ List.zipWith markChanged b.peers s.peers from hr)
      exact markChanged_heard q r (h.heard r hmem)
    · exact h
  have hdirectory (v : State) (hv : BoundsKept v) : BoundsKept (directoryEventEnd b.dir.entries v) := by
    unfold directoryEventEnd
    split
    · exact hv
    · exact hv.of_same ⟨rfl, rfl, rfl, rfl, rfl, rfl, rfl⟩
  have hdrain (v : State) (hv : BoundsKept v) : BoundsKept (drainCheck v) := by
    unfold drainCheck
    split
    · exact ⟨hv.entries, hv.queue, hv.iface, hv.ram, ⟨hv.timers.heartbeat, hv.timers.listen, by simp⟩, hv.heard⟩
    · exact hv
  exact hdrain _ (hdirectory _ hpeers)

theorem BoundsKept.of_reset {m : List (Nat × Byte)} (hm : memWf m = true) (p : HostPort) (k : Nat) (l : List Instr) :
    BoundsKept { State.reset with ram := m, port := p, choice := k, pending := l } := by
  refine ⟨Nat.zero_le _, Nat.zero_le _, ⟨Nat.zero_le _, Nat.zero_le _, Nat.zero_le _⟩, hm, ⟨?_, ?_, ?_⟩, fun r hr => ?_⟩
  · exact fun k hk => by cases hk
  · exact fun k hk => by cases hk
  · exact fun k hk => by cases hk
  · rw [List.eq_of_mem_replicate hr]
    exact .of_reset _ rfl

theorem BoundsKept.does (hk : WellKept s) (ht : Does c s t) : BoundsKept t := by
  have h := hk.boundsKept
  have hport (u : State) (hu : BoundsKept u) (p : HostPort) : BoundsKept (u.setPort p) := hu.of_same ⟨rfl, rfl, rfl, rfl, rfl, rfl, rfl⟩
  cases ht with
  | powerOn => exact .of_reset memWf_nil _ _ _
  | clearEnd => exact hport (s.setRam []) ⟨h.entries, h.queue, h.iface, memWf_nil, h.timers, h.heard⟩ _
  | pinReset => exact .of_reset h.ram _ _ _
  | port p => exact hport s h p
  | tick hdue => exact h.tickAll hk.sized.1 hdue
  | event hu => exact (BoundsKept.effect hk hu).eventEnd s
  | command hu code p => exact hport _ (((h.commanded hu).eventEnd s).setCommandStatus _ _) p
  | cycle hu p => exact hport _ (BoundsKept.owned hk hu) p

theorem BoundsKept.step (hs : WellKept s) (ht : step s = .next t) : BoundsKept t := by
  refine of_step hs ht ?_ fun c u hu hd => .does hu hd
  have h := hs.boundsKept
  obtain ⟨hbuffer, hlosses, hfailures⟩ := h.iface
  unfold idleStep
  split
  · exact h
  split
  · refine h.of_iface ?_ ⟨rfl, rfl, rfl, rfl, rfl, rfl⟩
    simp only [State.setIface_iface, ownBitsReceived]
    split
    · exact ⟨List.length_take_le _ _, hlosses, hfailures⟩
    · exact ⟨hbuffer, hlosses, hfailures⟩
  · exact h

end Sys2Proof.Machine


/-! ## Every step keeps the sizes, and what is held in its bounds -/

namespace Sys2Proof.Machine

variable {s t u : State} {c : Instr}

theorem storeConfigWord_regions_length (w : ConfigWord) (d : Word) (x : ConfigRecord) :
    (storeConfigWord w d x).regions.length = x.regions.length := by
  cases w <;> simp [storeConfigWord, setRegion]

theorem storeConfig_config (w : ConfigWord) (be : Enables) (d : Word) (s : State) :
    (storeConfig w be d s).ctl.config = writeConfigWord w be d s.ctl.config := by
  unfold storeConfig configStored
  split
  · split <;> simp [setConfig]
  all_goals simp [setConfig, setStatus]

theorem owned_regions_length (hu : Owned c s u) : u.ctl.config.regions.length = s.ctl.config.regions.length := by
  cases hu with
  | @apertureRead _ notice w be _ =>
    obtain ⟨-, -, -, -, -, -, hctl⟩ := apertureReadTaken_frame (apertureAddr w be s) be s
    rw [hctl]
  | @apertureWrite _ notice w be d _ =>
    obtain ⟨-, -, -, -, hctl⟩ := apertureWriteTaken_frame (apertureAddr w be s) (laneBytes be d) notice s
    rw [hctl]
  | storeConfig _ => rw [storeConfig_config, writeConfigWord, storeConfigWord_regions_length]
  | storeBitDiv _ =>
    unfold storeBitDiv
    split <;> rfl
  | storeTickDiv _ =>
    unfold storeTickDiv
    split <;> rfl
  | readEffect =>
    unfold readEffect
    split
    · split <;> simp
    · rfl
  | _ => rfl

theorem does_regions_length (h : s.ctl.config.regions.length = 4) (ht : Does c s t) : t.ctl.config.regions.length = 4 := by
  cases ht with
  | powerOn | pinReset => rfl
  | event hu => rw [eventEnd_config, (Unmarked.effect hu).config, h]
  | @command _ _ u hu code p =>
    have hconfig : (eventEnd s u).ctl.config = s.ctl.config := by rw [eventEnd_config, (Unmarked.commanded hu).config]
    exact hconfig ▸ h
  | @cycle _ _ u hu p =>
    have hlen := owned_regions_length hu
    exact hlen ▸ h
  | _ => exact h

theorem step_regions_length (hs : WellKept s) (ht : step s = .next t) : t.ctl.config.regions.length = 4 := by
  refine of_step (P := fun t => t.ctl.config.regions.length = 4) hs ht ?_ fun c u hu hd => does_regions_length hu.sized.2.2.2 hd
  obtain ⟨x, hx, -⟩ := idleStep_eq s
  rw [hx]
  exact hs.sized.2.2.2

/-- Settles O51: the requests by `RequestsKept`, the answers and notices by `AnswersKept`, and the capacities, shared RAM and the other
timers by `BoundsKept`. -/
theorem stepKeepsSizesAndBounds : Obligations.StepKeepsSizesAndBounds := by
  intro s t hs ht
  have htables := hs.step_tables ht
  have hrequests := RequestsKept.step hs ht
  have hanswers := AnswersKept.step hs ht
  have hbounds := BoundsKept.step hs ht
  obtain ⟨hbuffer, hlosses, hfailures⟩ := hbounds.iface
  refine ⟨⟨htables.sized, htables.reads.sized, htables.dir.sized, step_regions_length hs ht⟩,
    ⟨hbounds.entries, hbounds.queue, hanswers.few, hanswers.room, hbuffer, hlosses, hfailures⟩, hbounds.ram,
    ⟨fun e he => ?_, fun w hw => ?_⟩, ⟨fun e he => ?_, fun w hw => (hrequests.queue w hw).bound, ?_⟩,
    ⟨fun e he => (hrequests.mem he).free, fun e he => (hrequests.mem he).shape, fun w hw => (hrequests.queue w hw).shape,
      hanswers.shape, hanswers.values⟩⟩
  · have hread := hrequests.mem he
    exact ⟨hread.attempts, hread.retries, fun hw => (hread.waiting hw).2.2⟩
  · exact ⟨(hrequests.queue w hw).attempts, (hrequests.queue w hw).retries⟩
  · exact ⟨(hrequests.mem he).responseBound, (hrequests.mem he).discardBound⟩
  · obtain ⟨hheartbeat, hlisten, hdrain⟩ := hbounds.timers
    exact ⟨hheartbeat, hlisten, hdrain, fun r hr => ⟨(hbounds.heard r hr).absent, (hbounds.heard r hr).present, (hbounds.heard r hr).any⟩⟩

end Sys2Proof.Machine


/-! ## Events that move no presence, no directory entry and no drain -/

namespace Sys2Proof.Machine

variable {s t : State}

/-- Such an event is its effect and nothing more. -/
theorem stationEvent_of_quiet {arises : State → Bool} {f : State → State} (hlow : s.port.resetLow = false) (ha : arises s = true)
    (hp : (f s).peers = s.peers) (hd : (f s).dir.entries = s.dir.entries) (hs : drainSettled (f s)) :
    stationEvent arises f s = .next (f s) := by
  rw [stationEvent_eq, if_pos ⟨hlow, ha⟩, event_eq_of_quiet s f (by rw [hp]) hd hs]

theorem lineEvent_of_quiet {arises : State → Bool} {f : State → State} (hlow : s.port.resetLow = false) (hu : s.iface.untaken = false)
    (ha : arises s = true) (hp : (f s).peers = s.peers) (hd : (f s).dir.entries = s.dir.entries) (hs : drainSettled (f s)) :
    lineEvent arises f s = .next (f s) :=
  stationEvent_of_quiet hlow (by simp [hu, ha]) hp hd hs

theorem inPhase_of_tx {p : TxPhase → Bool} {x : Transmission} (hx : s.iface.tx = some x) (hp : p x.phase = true) : inPhase p s = true := by
  simp [inPhase, hx, hp]

theorem onLine_of_sends {x : Transmission} (hp : x.phase = .arbitrating ∨ x.phase = .sending) : onLine x.phase = true := by
  obtain hp | hp := hp <;> rw [hp] <;> rfl

/-- Settles O10. -/
theorem lostAndMismatchedAttempts : Obligations.LostAndMismatchedAttempts := by
  intro s x hlow hu hdrain hx
  refine ⟨fun hp => ?_, fun hp => ?_⟩
  · exact lineEvent_of_quiet hlow hu (inPhase_of_tx hx (by rw [hp]; rfl)) rfl rfl hdrain
  · have hfail : failReadback s =
        { s with
          iface :=
            { s.iface with
              tx := some { x with phase := .breaking .failure, breakLength := 12 * s.ctl.config.bitDiv.toNat } } } := by
      simp only [failReadback, hx]
      rfl
    rw [← hfail]
    exact lineEvent_of_quiet hlow hu (inPhase_of_tx hx (onLine_of_sends hp)) rfl rfl hdrain

/-! ### The receiver -/

theorem takesFrame_of_receiving (h : receivingFrame s) : takesFrame s = true := by
  obtain ⟨-, ⟨hr, htx, hown⟩ | hu⟩ := h
  · simp [takesFrame, receivingPeer, hr, htx, hown]
  · simp [takesFrame, hu]

/-- An event of the line waits for a frame that has ended to be taken. -/
theorem lineEvent_of_untaken (hu : s.iface.untaken = true) (arises : State → Bool) (f : State → State) :
    lineEvent arises f s = .next s := by
  rw [lineEvent_eq, if_neg (by simp [hu])]

theorem exec_idleFound_eq (hlow : s.port.resetLow = false) {x : SpanInterface} (ha : awaitsIdle s = true ∨ receivingPeer s = true)
    (hx : foundIdle s = s.setIface x) (hdrain : drainSettled s) : exec .idleFound s = .next (s.setIface x) := by
  rw [← hx]
  show stationEvent (fun s => awaitsIdle s || receivingPeer s) foundIdle s = _
  refine stationEvent_of_quiet hlow (by simpa using ha) ?_ ?_ ?_ <;> rw [hx]
  exacts [rfl, rfl, hdrain]

theorem exec_frameBroken_eq (hlow : s.port.resetLow = false) (hr : s.iface.receiver = .receiving) (htx : s.iface.tx = none)
    (hdrain : drainSettled s) : exec .frameBroken s = .next (breakFrame s) := by
  show stationEvent (fun s => s.iface.receiver == .receiving && s.iface.tx.isNone) breakFrame s = _
  have hsame : (breakFrame s).peers = s.peers ∧ (breakFrame s).dir = s.dir ∧ drainSettled (breakFrame s) := by
    unfold breakFrame
    split <;> exact ⟨rfl, rfl, hdrain⟩
  exact stationEvent_of_quiet hlow (by simp [hr, htx]) hsame.1 (by rw [hsame.2.1]) hsame.2.2

theorem exec_frameFormatError_eq {bytes : List Byte} (hrec : receivingFrame s) (hbad : checkFrame bytes = none) (hdrain : drainSettled s) :
    exec (.frameFormatError bytes) s = .next (discardFrame bytes s) := by
  have hsame : (discardFrame bytes s).peers = s.peers ∧ (discardFrame bytes s).dir = s.dir ∧ drainSettled (discardFrame bytes s) := by
    unfold discardFrame
    rw [frameTaken_eq, frameTaken_eq]
    split <;> exact ⟨rfl, rfl, hdrain⟩
  simp only [exec, execFrameFormatError, hbad]
  exact stationEvent_of_quiet hrec.1 (takesFrame_of_receiving hrec) hsame.1 (by rw [hsame.2.1]) hsame.2.2

/-- Settles O14. -/
theorem receiverMovesAndDiscards : Obligations.ReceiverMovesAndDiscards := by
  intro s hlow hdrain
  refine ⟨fun hr htx hlo hhi => ?_, fun hr htx hown => ?_, fun hr hu => ?_, fun hr hown htx => ?_, fun hu c hc => ?_,
    fun hr htx => ?_, fun bytes hrec hbad => ?_⟩
  · have hidle : awaitsIdle s = true := by simp [awaitsIdle, hr, htx, bitsRun, hlo, hhi]
    exact exec_idleFound_eq hlow (.inl hidle) (by rw [foundIdle, if_pos hidle]; rfl) hdrain
  · have hidle : awaitsIdle s = false := by simp [awaitsIdle, hr]
    exact exec_idleFound_eq hlow (.inr (by simp [receivingPeer, hr, htx, hown])) (by rw [foundIdle, if_neg (by simp [hidle])]) hdrain
  · show lineEvent (fun s => s.iface.receiver == .idle) (startReceiving false) s = _
    exact lineEvent_of_quiet hlow hu (by simp [hr]) rfl rfl hdrain
  · show stationEvent (fun s => s.iface.receiver == .receiving && s.iface.rxOwn && s.iface.tx.isNone)
      (fun s => s.setIface { s.iface with receiver := .idle, rxOwn := false }) s = _
    exact stationEvent_of_quiet hlow (by simp [hr, hown, htx]) rfl rfl hdrain
  · simp only [List.mem_cons, List.not_mem_nil, or_false] at hc
    obtain rfl | rfl | rfl | rfl | rfl := hc
    · exact lineEvent_of_untaken hu (inPhase arbitrating) loseAttempt
    · exact lineEvent_of_untaken hu (inPhase onLine) failReadback
    · exact lineEvent_of_untaken hu (inPhase breaking) endBreak
    · exact lineEvent_of_untaken hu (inPhase onLine) endSent
    · exact lineEvent_of_untaken hu (fun s => s.iface.receiver == .idle) (startReceiving false)
  · exact exec_frameBroken_eq hlow hr htx hdrain
  · rw [exec_frameFormatError_eq hrec hbad hdrain, discardFrame, frameTaken_eq, frameTaken_eq]
    rfl

end Sys2Proof.Machine


/-! ## The step, the resets and the tick -/

namespace Sys2Proof.Machine

variable {s t : State}

/-! ### The step -/

theorem bitPassed_eq {x : Transmission} (hp : x.phase = .arbitrating ∨ x.phase = .sending) :
    bitPassed x =
      { x with
        bitsSent := min (x.bitsSent + 1) (10 * x.image.length - 1)
        phase := if 9 ≤ min (x.bitsSent + 1) (10 * x.image.length - 1) then .sending else x.phase } := by
  rw [bitPassed, if_pos (onLine_of_sends hp)]
  simp only [frameBits, Config.bitsPerByte, Nat.reduceLeDiff]

theorem onLine_iff {p : TxPhase} : onLine p = true ↔ p = .arbitrating ∨ p = .sending := by
  cases p <;> simp [onLine]

/-- Settles O1: with a command waiting the step is its `exec`; with none it is `idleStep`, one bit of the own frame. -/
theorem stepRunsFrontCommand : Obligations.StepRunsFrontCommand := by
  refine ⟨fun c rest s => rfl, fun s hpending => ?_⟩
  have hstep : step s = .next (idleStep s) := by
    unfold step
    rw [hpending]
  rw [hstep]
  refine ⟨fun hquiet => ?_, fun x hlow hu hx => ?_⟩
  · obtain ⟨y, hy, hsame⟩ := idleStep_eq s
    rw [hy, hsame hquiet]
    rfl
  · have hidle : idleStep s = s.setIface (ownBitsReceived (bitPassed x) { s.iface with tx := some (bitPassed x) }) := by
      simp [idleStep, hlow, hu, hx]
    rw [hidle]
    by_cases hp : x.phase = .arbitrating ∨ x.phase = .sending
    · have hstays : onLine (bitPassed x).phase = true := by
        rw [bitPassed_eq hp]
        simp only
        split
        · rfl
        · exact onLine_of_sends hp
      rw [if_pos hp, ownBitsReceived, if_pos hstays, bitPassed_eq hp]
      rfl
    · have hoff : onLine x.phase = false := by
        rw [← Bool.not_eq_true, onLine_iff]
        exact hp
      have hsame : bitPassed x = x := by simp [bitPassed, hoff]
      rw [if_neg hp, hsame]
      simp [ownBitsReceived, hoff, ← hx, State.setIface]

/-! ### The resets -/

/-- Settles O3. -/
theorem resetValues : Obligations.ResetValues := by
  refine ⟨rfl, rfl, rfl, rfl, rfl, rfl, rfl, rfl, rfl, rfl, rfl, rfl, rfl, rfl, rfl, rfl, rfl, rfl, rfl, rfl, rfl, rfl, rfl, rfl,
    rfl, rfl, rfl, rfl, rfl, rfl, rfl, rfl, rfl, rfl, rfl, by decide, rfl, rfl, fun k => ?_⟩
  cases k <;> rfl

/-- Settles O5. -/
theorem resetCommandsResult : Obligations.ResetCommandsResult := by
  intro s
  refine ⟨rfl, fun hclear => ?_, rfl, rfl, rfl⟩
  simp only [exec, execPowerOnClearEnd, hclear, if_true]
  rfl

/-! ### The tick -/

theorem expired_iff {o : Option Nat} : expired o = true ↔ o = some 0 := by simp [expired]

theorem mem_allStations_iff {n : Station} : n ∈ allStations ↔ validStation n = true := by
  revert n
  decide

theorem headExpired_iff {p : PostedWrite → Bool} :
    headExpired p s = true ↔ ∃ w ∈ s.writes.queue.head?, p w = true ∧ w.timer = some 0 := by
  simp [headExpired, Option.any_eq_true, expired_iff]

theorem silenceReached_iff {n : Station} :
    silenceReached n s = true ↔
      (peerOf n s).presence = .present ∧ 3 * ((peerOf n s).interval.getD s.ctl.config.hbInterval).toNat * 1000 ≤ (peerOf n s).heardAgo := by
  simp only [silenceReached, Bool.and_eq_true, beq_iff_eq, decide_eq_true_eq]
  rfl

theorem absenceReached_iff {n : Station} :
    absenceReached n s = true ↔
      (peerOf n s).presence ≠ .absent ∧ 8 * ((peerOf n s).interval.getD s.ctl.config.hbInterval).toNat * 1000 ≤ (peerOf n s).heardAgo := by
  simp only [absenceReached, Bool.and_eq_true, bne_iff_ne, decide_eq_true_eq]
  rfl

/-- What is due, timer by timer and limit by limit. -/
theorem expiryDue_iff :
    expiryDue s = true ↔
      (∃ i, (readAt i s).state = .issued ∧ (readAt i s).responseTimer = some 0 ∨
        (readAt i s).state = .complete ∧ (readAt i s).discardTimer = some 0) ∨
      (∃ w ∈ s.writes.queue.head?, (w.inFlight = true ∨ w.held = true) ∧ w.timer = some 0) ∨
      s.sel.heartbeatTimer = some 0 ∨ s.ctl.span = .listening ∧ s.ctl.listenTimer = some 0 ∨
      s.ctl.span = .leaving ∧ s.ctl.drainTimer = some 0 ∨
      ∃ n, validStation n = true ∧
        ((peerOf n s).presence = .present ∧ 3 * ((peerOf n s).interval.getD s.ctl.config.hbInterval).toNat * 1000 ≤ (peerOf n s).heardAgo ∨
          (peerOf n s).presence ≠ .absent ∧ 8 * ((peerOf n s).interval.getD s.ctl.config.hbInterval).toNat * 1000 ≤ (peerOf n s).heardAgo) := by
  have hreads : allReadIndexes.any (fun i => responseDue i s || discardDue i s) = true ↔
      ∃ i, (readAt i s).state = .issued ∧ (readAt i s).responseTimer = some 0 ∨
        (readAt i s).state = .complete ∧ (readAt i s).discardTimer = some 0 := by
    simp [List.any_eq_true, mem_allReadIndexes, responseDue, discardDue, expired_iff]
  have hhead : headExpired (·.inFlight) s = true ∨ headExpired (·.held) s = true ↔
      ∃ w ∈ s.writes.queue.head?, (w.inFlight = true ∨ w.held = true) ∧ w.timer = some 0 := by
    rw [headExpired_iff, headExpired_iff]
    constructor
    · rintro (⟨w, hw, hp, ht⟩ | ⟨w, hw, hp, ht⟩)
      · exact ⟨w, hw, .inl hp, ht⟩
      · exact ⟨w, hw, .inr hp, ht⟩
    · rintro ⟨w, hw, hp | hp, ht⟩
      · exact .inl ⟨w, hw, hp, ht⟩
      · exact .inr ⟨w, hw, hp, ht⟩
  have hpeers : allStations.any (fun n => silenceReached n s || absenceReached n s) = true ↔
      ∃ n, validStation n = true ∧
        ((peerOf n s).presence = .present ∧ 3 * ((peerOf n s).interval.getD s.ctl.config.hbInterval).toNat * 1000 ≤ (peerOf n s).heardAgo ∨
          (peerOf n s).presence ≠ .absent ∧ 8 * ((peerOf n s).interval.getD s.ctl.config.hbInterval).toNat * 1000 ≤ (peerOf n s).heardAgo) := by
    simp only [List.any_eq_true, mem_allStations_iff, Bool.or_eq_true, silenceReached_iff, absenceReached_iff]
  simp only [expiryDue, Bool.or_eq_true, hreads, hpeers, heartbeatEnded, listenDue, drainDue, expired_iff, Bool.and_eq_true, beq_iff_eq,
    or_assoc]
  rw [← or_assoc (a := headExpired _ _ = true), hhead]

/-- Settles O15. -/
theorem tickAdvancesEveryTimer : Obligations.TickAdvancesEveryTimer := by
  intro s hlow running limit due
  have hruns : ticksRun s.ctl.config = true ↔ running := by
    simp only [ticksRun, Bool.and_eq_true, decide_eq_true_eq]
    rfl
  have hdue : expiryDue s = true ↔ due := expiryDue_iff
  have htick : exec .tick s = .next (if running ∧ ¬due then tickAll s else s) := by
    show Host.Outcome.next _ = _
    by_cases hr : running <;> by_cases hd : due
    · simp [hr, hd, hdue.mpr hd]
    · simp [hr, hd, hruns.mpr hr, hlow, Bool.eq_false_iff.mpr (mt hdue.mp hd)]
    · simp [hr, hd, hdue.mpr hd]
    · simp [hr, hd, Bool.eq_false_iff.mpr (mt hruns.mp hr)]
  refine ⟨fun hr hd => ?_, fun hr => ?_, fun hd => ?_⟩
  · rw [htick, if_pos ⟨hr, hd⟩]
    rfl
  · rw [htick, if_neg fun h => hr h.1]
  · rw [htick, if_neg fun h => h.2 hd]

end Sys2Proof.Machine


/-! ## Sent outcomes -/

namespace Sys2Proof.Machine

variable {s t : State}

/-- A read that fetches keeps the drain open. -/
theorem drained_of_fetching (hs : s.reads.entries.length = Config.readEntries) {i : ReadIndex}
    (hi : fetching (readAt i s).state = true) : drained s = false := by
  have hmem : readAt i s ∈ s.reads.entries := (mem_reads_iff hs _).mpr ⟨i, rfl⟩
  simp only [drained, Bool.and_eq_false_iff, List.all_eq_false]
  exact .inr ⟨_, hmem, by simp [hi]⟩

theorem drained_of_queue {w : PostedWrite} {rest : List PostedWrite} (hq : s.writes.queue = w :: rest) : drained s = false := by
  simp [drained, hq]

theorem drainSettled_of_open (h : drained s = false) : drainSettled s := fun _ hd => by simp [h] at hd

/-- The interface and the selector once the frame has been sent, before the item's own consequence (R8, R113). -/
theorem endSent_of_tx {x : Transmission} (hx : s.iface.tx = some x) :
    endSent s = itemSent x.item
      { s with
        iface :=
          { s.iface with
            tx := none, lossCount := 0, failCount := 0, rxBuffer := x.image.take 42, rxCount := x.image.length }
        sel :=
          { s.sel with
            heartbeatMark := false
            heartbeatTimer := s.sel.heartbeatTimer.map (fun _ => s.ctl.config.hbInterval.toNat * 1000) } } := by
  simp only [endSent, hx, attemptSentOn, ownBytesReceived, List.take_length]
  rfl

/-- The event of ATTEMPT_SENT, where the item's consequence moves no presence, no directory entry and no drain. -/
theorem exec_attemptSent_of_quiet {x : Transmission} (hlow : s.port.resetLow = false) (hu : s.iface.untaken = false)
    (hx : s.iface.tx = some x) (hp : x.phase = .arbitrating ∨ x.phase = .sending) (ht : endSent s = t) (hpeers : t.peers = s.peers)
    (hd : t.dir = s.dir) (hs : drainSettled t) : exec .attemptSent s = .next t := by
  subst ht
  exact lineEvent_of_quiet hlow hu (inPhase_of_tx hx (onLine_of_sends hp)) hpeers (by rw [hd]) hs

/-- Settles O12. -/
theorem sentResponseOrRequest : Obligations.SentResponseOrRequest := by
  intro s x hk hlow hu hx hp u
  have hsent : endSent s = itemSent x.item u := endSent_of_tx hx
  have hquiet (t : State) (ht : itemSent x.item u = t) (hpeers : t.peers = s.peers) (hd : t.dir = s.dir) (hs : drainSettled t) :
      exec .attemptSent s = .next t := exec_attemptSent_of_quiet hlow hu hx hp (hsent.trans ht) hpeers hd hs
  have hsettled : drainSettled u := hk.drain
  refine ⟨fun hi => ?_, fun r hi => ?_, fun i inc hi => ?_, fun a hi => ?_⟩
  · exact hquiet u (by rw [hi]; rfl) rfl rfl hsettled
  · by_cases hhead : s.resp.responses.head? = some r
    · rw [if_pos hhead]
      exact hquiet _ (by rw [hi]; exact (responseSent_eq u r).trans (if_pos hhead)) rfl rfl hsettled
    · rw [if_neg hhead]
      exact hquiet _ (by rw [hi]; exact (responseSent_eq u r).trans (if_neg hhead)) rfl rfl hsettled
  · let v := withReady (s.sel.ready.filter (· != .read i inc)) u
    have hread : itemSent x.item u = readSent i inc v := by rw [hi]; rfl
    by_cases hready : (readAt i s).incarnation = inc ∧ (readAt i s).state = .ready
    · rw [if_pos hready]
      refine hquiet _ (hread.trans ?_) rfl rfl (drainSettled_of_open (drained_of_fetching ?_ (i := i) ?_))
      · exact if_pos (by simpa [v, withReady, readAt, u] using hready)
      · exact (List.length_set ..).trans hk.sized.2.1
      · have hself := readAt_setRead_self v i { readAt i s with
          state := .issued, attempts := (readAt i s).attempts + 1, responseTimer := some (s.ctl.config.respTimeout.toNat * 100) } hk.sized.2.1
        exact congrArg (fun e => fetching e.state) hself
    · rw [if_neg hready]
      exact hquiet _ (hread.trans (if_neg (by simpa [v, withReady, readAt, u] using hready))) rfl rfl hsettled
  · let v := withReady (s.sel.ready.filter (· != .write a)) u
    have hwrite : itemSent x.item u = writeSent a v := by rw [hi]; rfl
    cases hq : s.writes.queue with
    | nil => exact hquiet v (hwrite.trans (by simp [writeSent, v, withReady, u, hq])) rfl rfl hsettled
    | cons w rest =>
      have hqv : v.writes.queue = w :: rest := hq
      simp only
      by_cases hhead : w.admission = a ∧ w.inFlight = false ∧ w.held = false
      · rw [if_pos hhead]
        refine hquiet _ (hwrite.trans ?_) rfl rfl (drainSettled_of_open (drained_of_queue rfl))
        have hready : (w.admission = a && headReady w) = true := by simp [headReady, hhead]
        simp only [writeSent, hqv, hready, if_true, setHead, List.tail_cons]
        rfl
      · rw [if_neg hhead]
        refine hquiet v (hwrite.trans ?_) rfl rfl hsettled
        have hready : ¬(w.admission = a && headReady w) = true := by simpa [headReady] using hhead
        simp only [writeSent, hqv, if_neg hready]

end Sys2Proof.Machine


/-! ## The marks of presence as one update of the state

An event ends with the comparison of the peer table (R120). Its result is `marked`: the peers' records with their changed marks, and
PEER. The operations that a frame's content runs neither read nor write these marks, so a mark set before them is one set after. -/

namespace Sys2Proof.Machine

variable {s t v : State} {n : Station}

/-- The peer table becomes `l`, and PEER is set where `moved`. -/
def marked (l : List PeerRecord) (moved : Bool) (s : State) : State :=
  { s with peers := l, ev := { s.ev with flags := { s.ev.flags with peer := s.ev.flags.peer || moved } } }

/-- The records after the comparison with those before the event, and whether a presence has moved. -/
def markedPeers (before after : List PeerRecord) : List PeerRecord := List.zipWith markChanged before after

def peersMoved (before after : List PeerRecord) : Bool := (List.zipWith presenceMoved before after).any id

theorem markedPeers_of_still : ∀ {before after : List PeerRecord}, before.length = after.length → peersMoved before after = false →
    markedPeers before after = after
  | [], [], _, _ => rfl
  | x :: before, y :: after, hl, hm => by
    simp only [peersMoved, List.zipWith_cons_cons, List.any_cons, Bool.or_eq_false_iff, id, presenceMoved, decide_eq_false_iff_not,
      not_not] at hm
    have hrest := markedPeers_of_still (by simpa using hl) hm.2
    simp only [markedPeers, List.zipWith_cons_cons, List.cons.injEq] at hrest ⊢
    exact ⟨by simp [markChanged, hm.1], hrest⟩

theorem peerEventEnd_eq_marked {before : List PeerRecord} (hl : before.length = s.peers.length) :
    peerEventEnd before s = marked (markedPeers before s.peers) (peersMoved before s.peers) s := by
  by_cases hm : peersMoved before s.peers = true
  · rw [show peerEventEnd before s = raise .peer (s.setPeers (List.zipWith markChanged before s.peers)) from if_pos hm, hm]
    simp [marked, raise, setFlag, State.setEv, State.setPeers, markedPeers]
  · have hstill : peersMoved before s.peers = false := by simpa using hm
    rw [show peerEventEnd before s = s from if_neg hm, hstill, markedPeers_of_still hl hstill]
    simp [marked]

/-! ### One record -/

theorem zipWith_set_right {f : PeerRecord → PeerRecord → PeerRecord} (hf : ∀ x, f x x = x) (l : List PeerRecord) (k : Nat) (r : PeerRecord) :
    List.zipWith f l (l.set k r) = l.set k (f (l.getD k PeerRecord.reset) r) := by
  refine List.ext_getElem (by simp) fun j hj _ => ?_
  have hjl : j < l.length := by simpa using hj
  by_cases hk : k = j
  · subst hk
    simp [hjl]
  · simp [List.getElem_set_ne hk, hf]

theorem markedPeers_set (l : List PeerRecord) (k : Nat) (r : PeerRecord) :
    markedPeers l (l.set k r) = l.set k (markChanged (l.getD k PeerRecord.reset) r) :=
  zipWith_set_right (fun x => by simp [markChanged]) l k r

theorem peersMoved_set {l : List PeerRecord} {k : Nat} (hk : k < l.length) (r : PeerRecord) :
    peersMoved l (l.set k r) = presenceMoved (l.getD k PeerRecord.reset) r := by
  rw [Bool.eq_iff_iff, peersMoved, List.any_eq_true]
  constructor
  · rintro ⟨b, hb, hbt⟩
    obtain ⟨j, hj, rfl⟩ := List.getElem_of_mem hb
    have hjl : j < l.length := by simp at hj; exact hj
    by_cases hkj : k = j
    · subst hkj
      simpa [hk] using hbt
    · simp [List.getElem_set_ne hkj, presenceMoved] at hbt
  · intro hm
    exact ⟨true, List.mem_iff_getElem.mpr ⟨k, by simpa using hk, by simpa [hk] using hm⟩, rfl⟩

theorem setPeer_peers (hn : validStation n = true) (r : PeerRecord) (s : State) :
    (setPeer n r s).peers = s.peers.set (n.toNat - 1) r := by
  rw [setPeer, if_pos hn, State.setPeers_peers]

theorem peerOf_eq_getD (hn : validStation n = true) (s : State) : peerOf n s = s.peers.getD (n.toNat - 1) PeerRecord.reset := by
  rw [peerOf, if_pos hn]

theorem station_index_lt (hn : validStation n = true) (hs : s.peers.length = Config.peerRecords) : n.toNat - 1 < s.peers.length := by
  obtain ⟨h0, h31⟩ := validStation_iff.mp hn
  have h0' : n.toNat ≠ 0 := fun h => h0 (BitVec.eq_of_toNat_eq h)
  have h31' : n.toNat ≠ 31 := fun h => h31 (BitVec.eq_of_toNat_eq h)
  have hlt := n.isLt
  rw [hs]
  show n.toNat - 1 < 30
  omega

/-- The comparison after an event that has rewritten one record. -/
theorem peerEventEnd_of_set (hn : validStation n = true) (hs : s.peers.length = Config.peerRecords) {r : PeerRecord}
    (ht : t.peers = s.peers.set (n.toNat - 1) r) :
    peerEventEnd s.peers t =
      marked (s.peers.set (n.toNat - 1) (markChanged (peerOf n s) r)) (presenceMoved (peerOf n s) r) t := by
  rw [peerEventEnd_eq_marked (by simp [ht]), ht, markedPeers_set, peersMoved_set (station_index_lt hn hs), ← peerOf_eq_getD hn]

theorem markChanged_eq (q r : PeerRecord) (h : r.changed = q.changed) :
    markChanged q r = { r with changed := q.changed || decide (q.presence ≠ r.presence) } := by
  unfold markChanged
  split
  next hp => simp [hp, ← h]
  next hp => simp [hp]

/-! ### HEARTBEAT_TIMER_EXPIRY and SILENCE_LIMIT -/

/-- An event whose only presence is that of one record, and which moves no directory entry and no drain. -/
theorem stationEvent_of_record {arises : State → Bool} {f : State → State} (hlow : s.port.resetLow = false) (ha : arises s = true)
    (hn : validStation n = true) (hs : s.peers.length = Config.peerRecords) {r : PeerRecord} (hp : (f s).peers = s.peers.set (n.toNat - 1) r)
    (hd : (f s).dir.entries = s.dir.entries) (hdrain : drainSettled (f s)) :
    stationEvent arises f s = .next
      (marked (s.peers.set (n.toNat - 1) (markChanged (peerOf n s) r)) (presenceMoved (peerOf n s) r) (f s)) := by
  have hsame (l : List PeerRecord) (b : Bool) : directoryEventEnd s.dir.entries (marked l b (f s)) = marked l b (f s) := if_pos hd
  rw [stationEvent_eq, if_pos ⟨hlow, ha⟩, event, eventEnd, peerEventEnd_of_set hn hs hp, hsame]
  exact congrArg _ (drainCheck_of_settled _ hdrain)

/-- Settles O31. -/
theorem heartbeatAndSilence : Obligations.HeartbeatAndSilence := by
  intro s hk hlow
  refine ⟨fun ht => ?_, fun n hn hp hlimit => ?_⟩
  · exact stationEvent_of_quiet hlow (by simp [heartbeatEnded, expired, ht]) rfl rfl hk.drain
  · have hsilent : markSilent n s = s.setPeers (s.peers.set (n.toNat - 1) { peerOf n s with presence := .silent }) := by
      rw [markSilent, if_pos hp, setPeer, if_pos hn]
    have hevent := stationEvent_of_record (f := markSilent n) hlow (silenceReached_iff.mpr ⟨hp, hlimit⟩) hn hk.sized.1
      (r := { peerOf n s with presence := .silent }) (by rw [hsilent]; rfl) (by rw [hsilent]; rfl) (by rw [hsilent]; exact hk.drain)
    simp only [exec, execSilenceLimit, hn, if_true]
    rw [hevent, hsilent, markChanged_eq (peerOf n s) { peerOf n s with presence := .silent } rfl]
    rfl

end Sys2Proof.Machine


/-! ## The arrival of a frame -/

namespace Sys2Proof.Machine

variable {s t v : State} {n : Station} {k : Kind} {bytes : List Byte} {f : Frame}

/-! ### The source is heard -/

theorem markedPeers_self (l : List PeerRecord) : markedPeers l l = l := by
  rw [markedPeers, List.zipWith_self]
  simp [markChanged]

theorem peersMoved_self (l : List PeerRecord) : peersMoved l l = false := by
  rw [peersMoved, List.zipWith_self]
  simp [presenceMoved]

theorem marked_same (s : State) : marked s.peers false s = s := by simp [marked]

/-- The hearing with its marks is the hearing, and then the comparison. -/
theorem withHeard_eq_marked (hn : validStation n = true) (hs : s.peers.length = Config.peerRecords) :
    withHeard n s = marked (markedPeers s.peers (hear n s).peers) (peersMoved s.peers (hear n s).peers) (hear n s) := by
  by_cases hx : hearing s.ctl.span = true
  · have hhear : hear n s = s.setPeers (s.peers.set (n.toNat - 1) { peerOf n s with presence := .present, heardAgo := 0 }) := by
      rw [hear, if_pos hx, setPeer, if_pos hn]
    rw [hhear, withHeard, if_pos hx]
    simp only [State.setPeers_peers]
    rw [markedPeers_set, peersMoved_set (station_index_lt hn hs), ← peerOf_eq_getD hn,
      markChanged_eq (peerOf n s) { peerOf n s with presence := .present, heardAgo := 0 } rfl]
    rfl
  · rw [withHeard, if_neg hx, hear, if_neg hx, markedPeers_self, peersMoved_self, marked_same]

/-- The state in which a frame's content is taken, before the marks. -/
def taken (bytes : List Byte) (f : Frame) (s : State) : State := hear f.src (withFrame bytes s)

theorem arrived_eq_marked (hn : validStation f.src = true) (hs : s.peers.length = Config.peerRecords) :
    arrived bytes f s =
      marked (markedPeers s.peers (taken bytes f s).peers) (peersMoved s.peers (taken bytes f s).peers) (taken bytes f s) :=
  withHeard_eq_marked (s := withFrame bytes s) hn hs

theorem taken_frame (bytes : List Byte) (f : Frame) (s : State) :
    (taken bytes f s).sel = s.sel ∧ (taken bytes f s).dir = s.dir ∧ (taken bytes f s).reads = s.reads ∧
      (taken bytes f s).writes = s.writes ∧ (taken bytes f s).resp = s.resp ∧ (taken bytes f s).ram = s.ram ∧
      (taken bytes f s).ctl = s.ctl ∧ (taken bytes f s).ev = s.ev := by
  simp [taken, withFrame]

theorem taken_peers_length (bytes : List Byte) (f : Frame) (s : State) : (taken bytes f s).peers.length = s.peers.length :=
  (Unmarked.hear f.src (withFrame bytes s)).records

theorem arrived_frame (bytes : List Byte) (f : Frame) (s : State) :
    (arrived bytes f s).sel = s.sel ∧ (arrived bytes f s).dir = s.dir ∧ (arrived bytes f s).reads = s.reads ∧
      (arrived bytes f s).writes = s.writes ∧ (arrived bytes f s).resp = s.resp ∧ (arrived bytes f s).ram = s.ram ∧
      (arrived bytes f s).ctl = s.ctl := by
  unfold arrived withHeard
  split <;> exact ⟨rfl, rfl, rfl, rfl, rfl, rfl, rfl⟩

/-- The records have the same presence, station by station. -/
def SamePresence (l m : List PeerRecord) : Prop := l.map (·.presence) = m.map (·.presence)

theorem markedPeers_presence : ∀ {before after : List PeerRecord}, before.length = after.length →
    SamePresence (markedPeers before after) after
  | [], [], _ => rfl
  | x :: before, y :: after, hl => by
    have hrest := markedPeers_presence (before := before) (after := after) (by simpa using hl)
    have hhead : (markChanged x y).presence = y.presence := by
      unfold markChanged
      split <;> rfl
    simp only [SamePresence, markedPeers, List.zipWith_cons_cons, List.map_cons, hhead] at hrest ⊢
    rw [hrest]

theorem SamePresence.peerOf {l : List PeerRecord} (h : SamePresence l s.peers) (b : Bool) (n : Station) :
    (peerOf n (marked l b s)).presence = (Machine.peerOf n s).presence := by
  unfold Machine.peerOf
  split
  · have hat := congrArg (fun m => m[n.toNat - 1]?) h
    simp only [List.getElem?_map] at hat
    show (l.getD (n.toNat - 1) _).presence = _
    rw [List.getD_eq_getElem?_getD, List.getD_eq_getElem?_getD]
    cases hl : l[n.toNat - 1]? <;> cases hm : s.peers[n.toNat - 1]? <;> simp_all
  · rfl

/-! ### The event -/

theorem takesValid_of_receiving (h : receivingFrame s) (hsrc : f.src ≠ ownStation s) : takesValid f s = true := by
  simp [takesValid, takesFrame_of_receiving h, hsrc]

/-- A frame of another station is an event with its arrival. -/
theorem WellKept.exec_frame (hk : WellKept s) (h : receivingFrame s) (hf : checkFrameOf k bytes = some f) (hsrc : f.src ≠ ownStation s) :
    exec (frameCommand k bytes) s = .next (event (frameArrives bytes f) s) := by
  rw [exec_frameCommand, receiveKind, hf]
  simp only [hk.framePastEnd_eq_false f, Bool.and_false, Bool.false_eq_true, if_false]
  rw [stationEvent_eq, if_pos ⟨h.1, takesValid_of_receiving h hsrc⟩]

/-- A change of the state that neither reads nor writes the marks, and leaves the peers and the directory's entries. -/
structure Unseen (g : State → State) (v : State) : Prop where
  peers : (g v).peers = v.peers
  entries : (g v).dir.entries = v.dir.entries
  commutes : ∀ l b, SamePresence l v.peers → g (marked l b v) = marked l b (g v)

/-- The content of a frame, taken where its source has been heard, with the marks of the hearing set before it (R13, R120). -/
theorem WellKept.exec_content (hk : WellKept s) (h : receivingFrame s) (hf : checkFrameOf k bytes = some f) (hsrc : f.src ≠ ownStation s)
    {g : State → State} (hg : frameArrives bytes f s = g (taken bytes f s)) (hu : Unseen g (taken bytes f s)) :
    exec (frameCommand k bytes) s = .next (drainCheck (g (arrived bytes f s))) := by
  have hn : validStation f.src = true := checkFrame_src (frameCommand_of_checkFrameOf hf).1
  have hlen : s.peers.length = (taken bytes f s).peers.length := (taken_peers_length bytes f s).symm
  have hdir : (taken bytes f s).dir.entries = s.dir.entries := by rw [(taken_frame bytes f s).2.1]
  have hmark : peerEventEnd s.peers (g (taken bytes f s)) = g (arrived bytes f s) := by
    rw [peerEventEnd_eq_marked (by rw [hu.peers, hlen]), hu.peers, arrived_eq_marked hn hk.sized.1,
      hu.commutes _ _ (markedPeers_presence hlen)]
  have hsame : (g (arrived bytes f s)).dir.entries = s.dir.entries := by
    rw [← hmark, peerEventEnd_eq_marked (by rw [hu.peers, hlen])]
    exact hu.entries.trans hdir
  rw [hk.exec_frame h hf hsrc, event, eventEnd, hg, hmark, show directoryEventEnd s.dir.entries (g (arrived bytes f s)) = _ from if_pos hsame]

theorem Unseen.id (v : State) : Unseen (fun u => u) v := ⟨rfl, rfl, fun _ _ _ => rfl⟩

/-- The drain stays settled where only the interface, the peers and the marks have moved. -/
theorem WellKept.drainSettled_arrived (hk : WellKept s) (bytes : List Byte) (f : Frame) : drainSettled (arrived bytes f s) := by
  have h := hk.drain
  unfold arrived withHeard
  split <;> exact h

theorem frameArrives_eq (hx : s.ctl.span ≠ .stopped) (hsrc : f.src ≠ ownStation s) :
    frameArrives bytes f s =
      if f.dest = ownStation s ∨ f.dest = 31 then frameContent f (taken bytes f s) else taken bytes f s := by
  have hx' : (withFrame bytes s).ctl.span ≠ .stopped := hx
  have hsrc' : f.src ≠ ownStation (withFrame bytes s) := hsrc
  have haddr : addressed f (withFrame bytes s) = true ↔ f.dest = ownStation s ∨ f.dest = 31 := by
    simp [addressed, ownStation, withFrame]
  simp only [frameArrives, frameTaken_eq, if_neg hx', if_neg hsrc', haddr]
  rfl

/-- The content of a frame for this station. -/
theorem WellKept.exec_arrivesHere (hk : WellKept s) (h : arrivesHere k bytes f s) {g : State → State}
    (hg : frameContent f (taken bytes f s) = g (taken bytes f s)) (hu : Unseen g (taken bytes f s)) :
    exec (frameCommand k bytes) s = .next (drainCheck (g (arrived bytes f s))) := by
  obtain ⟨hrec, hf, hx, hsrc, hdest⟩ := h
  exact hk.exec_content hrec hf hsrc ((frameArrives_eq hx hsrc).trans ((if_pos hdest).trans hg)) hu

/-! ### A frame that is heard, and nothing else -/

theorem frameArrives_of_stopped (hx : s.ctl.span = .stopped) : frameArrives bytes f s = withFrame bytes s := by
  have hx' : (withFrame bytes s).ctl.span = .stopped := hx
  simp only [frameArrives, frameTaken_eq, if_pos hx']

theorem taken_of_deaf (hx : hearing s.ctl.span = false) : taken bytes f s = withFrame bytes s := by
  have hx' : hearing (withFrame bytes s).ctl.span = false := hx
  rw [taken, hear, if_neg (by simp [hx'])]

theorem arrived_of_deaf (hx : hearing s.ctl.span = false) : arrived bytes f s = withFrame bytes s := by
  have hx' : hearing (withFrame bytes s).ctl.span = false := hx
  rw [arrived, withHeard, if_neg (by simp [hx'])]

theorem frameContent_of_heartbeat (h : bodyKind f.body = .heartbeat) : frameContent f v = v := by
  unfold frameContent
  split <;> simp_all [bodyKind]

/-- An ANNOUNCE and a LEAVE where no peer is heard. -/
theorem frameContent_of_deaf (h : bodyKind f.body = .announce ∨ bodyKind f.body = .leave) (hx : hearing v.ctl.span = false) :
    frameContent f v = v := by
  have hno : v.ctl.span ≠ .online := by rintro ho; simp [ho, hearing] at hx
  unfold frameContent
  split <;> simp_all [bodyKind, takeAnnounce, takeInterval, takeFresh, takeRegions, takeLeave]

/-- Settles O16. -/
theorem heardAndNothingElse : Obligations.HeardAndNothingElse := by
  intro k bytes f s hk hrec hf hsrc
  have hheard (h : frameArrives bytes f s = taken bytes f s) : exec (frameCommand k bytes) s = .next (arrived bytes f s) := by
    rw [hk.exec_content hrec hf hsrc (g := fun u => u) h (.id _), drainCheck_of_settled _ (hk.drainSettled_arrived bytes f)]
  have hkind := (frameCommand_of_checkFrameOf hf).2
  refine ⟨fun h => hheard ?_, fun hx h => ?_, fun hx => ?_⟩
  · by_cases hx : s.ctl.span = .stopped
    · rw [frameArrives_of_stopped hx, taken_of_deaf (by simp [hx, hearing])]
    · rw [frameArrives_eq hx hsrc]
      split
      next hdest =>
        obtain rfl | ⟨h1, h2⟩ := h
        · exact frameContent_of_heartbeat hkind
        · exact absurd hdest (not_or.mpr ⟨h1, h2⟩)
      · rfl
  · have hdeaf : hearing s.ctl.span = false := by rw [hx]; rfl
    rw [← arrived_of_deaf hdeaf (f := f)]
    refine hheard ?_
    rw [frameArrives_eq (by simp [hx]) hsrc]
    split
    · refine frameContent_of_deaf (by rwa [hkind]) ?_
      rwa [(taken_frame bytes f s).2.2.2.2.2.2.1]
    · rfl
  · have hdeaf : hearing s.ctl.span = false := by rw [hx]; rfl
    rw [← arrived_of_deaf hdeaf (f := f)]
    exact hheard (by rw [frameArrives_of_stopped hx, taken_of_deaf hdeaf])

end Sys2Proof.Machine


/-! ## Answers and requests of peers -/

namespace Sys2Proof.Machine

variable {s t v : State} {n : Station} {k : Kind} {bytes : List Byte} {f : Frame}

/-! ### Operations that do not see the marks -/

/-- Such an operation leaves the peers and the directory's entries, and commutes with the marks of any event. -/
structure Blind (g : State → State) : Prop where
  peers : ∀ v, (g v).peers = v.peers
  entries : ∀ v, (g v).dir.entries = v.dir.entries
  commutes : ∀ l b v, SamePresence l v.peers → g (marked l b v) = marked l b (g v)

theorem Blind.unseen {g : State → State} (h : Blind g) (v : State) : Unseen g v :=
  ⟨h.peers v, h.entries v, fun l b hl => h.commutes l b v hl⟩

theorem Blind.id : Blind (fun v => v) := ⟨fun _ => rfl, fun _ => rfl, fun _ _ _ _ => rfl⟩

theorem Blind.comp {g h : State → State} (hg : Blind g) (hh : Blind h) : Blind (fun v => h (g v)) where
  peers v := (hh.peers _).trans (hg.peers v)
  entries v := (hh.entries _).trans (hg.entries v)
  commutes l b v hl := by rw [hg.commutes l b v hl, hh.commutes l b (g v) (by rwa [hg.peers])]

/-- A choice on what is no mark. -/
theorem Blind.ite {p : State → Prop} [DecidablePred p] {g h : State → State}
    (hp : ∀ l b v, SamePresence l v.peers → (p (marked l b v) ↔ p v))
    (hg : Blind g) (hh : Blind h) : Blind (fun v => if p v then g v else h v) where
  peers v := by split <;> [exact hg.peers v; exact hh.peers v]
  entries v := by split <;> [exact hg.entries v; exact hh.entries v]
  commutes l b v hl := by
    by_cases hv : p v
    · simp only [if_pos ((hp l b v hl).mpr hv), if_pos hv, hg.commutes l b v hl]
    · simp only [if_neg (mt (hp l b v hl).mp hv), if_neg hv, hh.commutes l b v hl]

theorem Blind.count (c : Counter) (m : Nat) : Blind (count c m) := ⟨fun _ => rfl, fun _ => rfl, fun _ _ _ _ => rfl⟩

theorem Blind.handOn (r : FaultReport) : Blind (handOn r) := ⟨fun _ => rfl, fun _ => rfl, fun _ _ _ _ => rfl⟩

theorem Blind.freeRead (i : ReadIndex) : Blind (freeRead i) := ⟨fun _ => rfl, fun _ => rfl, fun _ _ _ _ => rfl⟩

theorem Blind.completeRead (i : ReadIndex) (o : ReadOutcome) (data : List Byte) : Blind (completeRead i o data) :=
  .ite (p := fun v => (readAt i v).overtaken = true) (fun _ _ _ _ => Iff.rfl) (.freeRead i) ⟨fun _ => rfl, fun _ => rfl, fun _ _ _ _ => rfl⟩

theorem Blind.failRead (i : ReadIndex) (r : FaultReason) : Blind (fun v => failRead r v i) :=
  .ite (p := fun v => (readAt i v).overtaken = true) (fun _ _ _ _ => Iff.rfl) (.freeRead i)
    ⟨fun v => by simp, fun v => by simp, fun l b v hl => by
      rw [(Blind.completeRead i (.fault r) []).commutes l b v hl]
      rfl⟩

theorem Blind.takeReadRsp (n : Station) (tag : Byte) (data : List Byte) : Blind (takeReadRsp n tag data) :=
  .ite (p := fun v => (awaitsAnswer n tag v && data.length == (readAt (tagIndex tag) v).length) = true) (fun _ _ _ _ => Iff.rfl)
    (.completeRead _ _ _) (.count _ _)

theorem Blind.takeReadNack (n : Station) (tag : Byte) (r : NackReason) : Blind (takeReadNack n tag r) :=
  .ite (p := fun v => awaitsAnswer n tag v = true) (fun _ _ _ _ => Iff.rfl) (.failRead _ _) (.count _ _)

/-! ### Answers to delayed reads -/

theorem awaitsAnswer_iff {tag : Byte} : awaitsAnswer n tag s = true ↔ readAnswered n tag (readAt (tagIndex tag) s) := by
  simp [awaitsAnswer, readAnswered, tagIncarnation, and_assoc]

/-- Settles O17. -/
theorem answersEndTheirRead : Obligations.AnswersEndTheirRead := by
  intro s bytes f hk i u hanswered
  have hread : readAt i u = readAt i s := by rw [readAt, readAt, (arrived_frame bytes f s).2.2.1]
  have hawaits : awaitsAnswer f.src f.tag u = true := awaitsAnswer_iff.mpr (by rwa [hread])
  refine ⟨fun data h hbody hlen => ?_, fun a r h hnotice hbody => ?_⟩
  · have hexec := hk.exec_arrivesHere h (g := takeReadRsp f.src f.tag data) (by simp only [frameContent, hbody])
      (Blind.unseen (.takeReadRsp _ _ _) _)
    refine hexec.trans ?_
    have hlen' : data.length = (readAt (tagIndex f.tag) u).length := hlen.trans (by rw [hread])
    rw [takeReadRsp, if_pos (Bool.and_eq_true_iff.mpr ⟨hawaits, beq_iff_eq.mpr hlen'⟩), completeRead_eq, hread]
  · have hexec := hk.exec_arrivesHere h (g := takeReadNack f.src f.tag r) (by simp only [frameContent, hbody, hnotice]; rfl)
      (Blind.unseen (.takeReadNack _ _ _) _)
    refine hexec.trans ?_
    rw [takeReadNack, if_pos hawaits, failRead_eq, hread]

/-! ### Answers that nothing awaits -/

theorem answersHead_iff {tag : Byte} {w : PostedWrite} : answersHead n tag w = true ↔ headAnswered n tag w := by
  simp [answersHead, headAnswered, headAwaits, or_assoc, and_assoc]

theorem takeWriteAck_of_stale {tag : Byte} (h : ∀ w rest, s.writes.queue = w :: rest → ¬headAnswered n tag w) :
    takeWriteAck n tag s = count .stale 1 s := by
  unfold takeWriteAck
  split
  · rfl
  next w rest hq => rw [if_neg (mt answersHead_iff.mp (h w rest hq))]

theorem takeWriteNack_of_stale {tag : Byte} (r : NackReason) (h : ∀ w rest, s.writes.queue = w :: rest → ¬headAnswered n tag w) :
    takeWriteNack n tag r s = count .stale 1 s := by
  unfold takeWriteNack
  split
  · rfl
  next w rest hq => rw [if_neg (mt answersHead_iff.mp (h w rest hq))]

/-- An answer whose content is counted in STALE and nothing else. -/
theorem WellKept.exec_stale (hk : WellKept s) (h : arrivesHere k bytes f s)
    (hg : frameContent f (taken bytes f s) = count .stale 1 (taken bytes f s)) :
    exec (frameCommand k bytes) s = .next (withCount .stale 1 (arrived bytes f s)) := by
  rw [hk.exec_arrivesHere h hg ((Blind.count _ _).unseen _)]
  exact congrArg _ (drainCheck_of_settled _ (hk.drainSettled_arrived bytes f))

theorem arrivesHere.kind (h : arrivesHere k bytes f s) : bodyKind f.body = k := (frameCommand_of_checkFrameOf h.2.1).2

theorem body_of_nack (h : bodyKind f.body = .nack) : ∃ a r, f.body = .nack a r := by
  cases hb : f.body <;> simp_all [bodyKind]

/-- Settles O18. -/
theorem unawaitedAnswersAreStale : Obligations.UnawaitedAnswersAreStale := by
  intro s bytes f hk stale noRead noHead
  obtain ⟨-, -, hreads, hwrites, -⟩ := taken_frame bytes f s
  have hread : readAt (tagIndex f.tag) (taken bytes f s) = readAt (tagIndex f.tag) s := by rw [readAt, readAt, hreads]
  have hsilent (h : noRead) : awaitsAnswer f.src f.tag (taken bytes f s) = false := by
    rw [← Bool.not_eq_true, awaitsAnswer_iff, hread]
    exact h
  have hhead (h : noHead) : ∀ w rest, (taken bytes f s).writes.queue = w :: rest → ¬headAnswered f.src f.tag w := by rwa [hwrites]
  refine ⟨fun data h hbody hno => hk.exec_stale h ?_, fun h hnotice hno => hk.exec_stale h ?_, fun h hnotice hno => hk.exec_stale h ?_,
    fun h hno => hk.exec_stale h ?_⟩
  · simp only [frameContent, hbody, takeReadRsp]
    refine if_neg fun hyes => ?_
    obtain ⟨ha, hl⟩ := Bool.and_eq_true_iff.mp hyes
    obtain hno | hno := hno
    · simp [hsilent hno] at ha
    · rw [hread] at hl
      exact hno (by simpa using hl)
  · obtain ⟨a, r, hbody⟩ := body_of_nack h.kind
    simp [frameContent, hbody, hnotice, takeReadNack, hsilent hno]
  · obtain ⟨a, r, hbody⟩ := body_of_nack h.kind
    simp only [frameContent, hbody, hnotice, if_true]
    exact takeWriteNack_of_stale r (hhead hno)
  · have hbody : f.body = .writeAck := by
      have := h.kind
      cases hb : f.body <;> simp_all [bodyKind]
    simp only [frameContent, hbody]
    exact takeWriteAck_of_stale (hhead hno)

/-! ### Requests -/

theorem responsesFull_iff : responsesFull s = true ↔ Config.responseCapacity ≤ s.resp.responses.length := by simp [responsesFull]

theorem onSpan_eq_false_of_hearing (hx : s.ctl.span ≠ .stopped) :
    onSpan s.ctl.span = false ↔ s.ctl.span = .offline ∨ s.ctl.span = .listening := by
  cases hs : s.ctl.span <;> simp_all [onSpan]

theorem regionCheck_congr (ht : t.dir = s.dir ∧ t.ctl = s.ctl) (a : GlobalAddr) (m : Nat) : regionCheck a m t = regionCheck a m s := by
  unfold regionCheck localAddress
  rw [ht.1, ht.2]

theorem Blind.respond (n : Station) (tag : Byte) (x : Answer) : Blind (respond n tag x) := ⟨fun _ => rfl, fun _ => rfl, fun _ _ _ _ => rfl⟩

theorem Blind.dropRequest : Blind dropRequest := ⟨fun _ => rfl, fun _ => rfl, fun _ _ _ _ => rfl⟩

/-- A request is turned away before its range is looked up, in a state that agrees with `s` on what decides (R87, R88); otherwise `g`
answers it. -/
def requestTaken (s : State) (g : State → State) (u : State) : State :=
  if s.ctl.span = .offline ∨ s.ctl.span = .listening then u
  else if s.resp.responses.length = 4 then withFlag .overrun (withCount .overrun 1 u)
  else g u

theorem Blind.requestTaken {g : State → State} (h : Blind g) : Blind (requestTaken s g) := by
  unfold Machine.requestTaken
  by_cases hx : s.ctl.span = .offline ∨ s.ctl.span = .listening
  · simpa only [if_pos hx] using Blind.id
  by_cases hfull : s.resp.responses.length = 4
  · simp only [if_neg hx, if_pos hfull]
    exact Blind.dropRequest
  · simpa only [if_neg hx, if_neg hfull] using h

/-- The requests of peers read nothing but the span state, the Response Queue, the directory and shared RAM. -/
structure SameServer (s u : State) : Prop where
  ctl : u.ctl = s.ctl
  dir : u.dir = s.dir
  resp : u.resp = s.resp
  ram : u.ram = s.ram

theorem sameServer_taken (bytes : List Byte) (f : Frame) (s : State) : SameServer s (taken bytes f s) := by
  obtain ⟨-, hdir, -, -, hresp, hram, hctl, -⟩ := taken_frame bytes f s
  exact ⟨hctl, hdir, hresp, hram⟩

/-- The two tests that a request meets first. -/
theorem requestTaken_eq (hx : s.ctl.span ≠ .stopped) (hcap : s.resp.responses.length ≤ 4) {u : State} (hu : SameServer s u)
    (g : State → State) :
    (if (!onSpan u.ctl.span) = true then u else if responsesFull u = true then Machine.dropRequest u else g u) = requestTaken s g u := by
  have hoff : (!onSpan u.ctl.span) = true ↔ s.ctl.span = .offline ∨ s.ctl.span = .listening := by
    rw [Bool.not_eq_true', hu.ctl, onSpan_eq_false_of_hearing hx]
  have hfull : responsesFull u = true ↔ s.resp.responses.length = 4 := by
    rw [responsesFull_iff, hu.resp]
    show 4 ≤ _ ↔ _
    omega
  simp only [requestTaken, hoff, hfull]
  rfl

/-- The answer to a READ_REQ whose bytes stand in the directory and the RAM of `s` (R89, R90). -/
def readAnswer (s : State) (n : Station) (tag : Byte) (a : GlobalAddr) (len : Nat) (u : State) : State :=
  match regionCheck a len s with
  | .notMine => withResponse n tag (.nack a .notMine false) u
  | .outOfRange => withResponse n tag (.nack a .outOfRange false) u
  | .inRegion _ l => withResponse n tag (.readRsp ((List.range len).map (fun k => memRead s.ram (l + k)))) u

theorem Blind.readAnswer (n : Station) (tag : Byte) (a : GlobalAddr) (len : Nat) : Blind (readAnswer s n tag a len) := by
  unfold Machine.readAnswer
  cases regionCheck a len s <;> exact .respond n tag _

theorem takeReadReq_eq (hx : s.ctl.span ≠ .stopped) (hcap : s.resp.responses.length ≤ 4) {u : State} (hu : SameServer s u)
    (n : Station) (tag : Byte) (a : GlobalAddr) (len : Nat) :
    takeReadReq n tag a len u = requestTaken s (readAnswer s n tag a len) u := by
  have hanswer : (match regionCheck a len u with
      | .notMine => respond n tag (.nack a .notMine false) u
      | .outOfRange => respond n tag (.nack a .outOfRange false) u
      | .inRegion _ l => respond n tag (.readRsp (ramRead l len u)) u) = readAnswer s n tag a len u := by
    rw [regionCheck_congr ⟨hu.dir, hu.ctl⟩, readAnswer]
    cases regionCheck a len s with
    | inRegion writable l =>
      show respond n tag _ u = _
      rw [ramRead, memReadBytes, hu.ram]
      rfl
    | _ => rfl
  rw [← requestTaken_eq hx hcap hu, ← hanswer]
  rfl

theorem drainSettled_requestTaken {g : State → State} {u : State} (hg : drainSettled (g u)) (hu : drainSettled u) :
    drainSettled (requestTaken s g u) := by
  unfold requestTaken
  split
  · exact hu
  split
  · exact hu
  · exact hg

/-- A request whose answer does not see the marks. -/
theorem WellKept.exec_request (hk : WellKept s) (h : arrivesHere k bytes f s) {g : State → State} (hg : Blind g)
    (hcontent : frameContent f (taken bytes f s) = requestTaken s g (taken bytes f s)) (hdrain : drainSettled (g (arrived bytes f s))) :
    exec (frameCommand k bytes) s = .next (requestTaken s g (arrived bytes f s)) := by
  rw [hk.exec_arrivesHere h hcontent ((Blind.requestTaken hg).unseen _),
    drainCheck_of_settled _ (drainSettled_requestTaken hdrain (hk.drainSettled_arrived bytes f))]

/-- Settles O21. -/
theorem readReqIsAnswered : Obligations.ReadReqIsAnswered := by
  intro s bytes f a len hk h hbody u
  refine hk.exec_request h (.readAnswer f.src f.tag a len.toNat) ?_ ?_
  · simp only [frameContent, hbody]
    exact takeReadReq_eq h.2.2.1 hk.capacity.2.2.1 (sameServer_taken bytes f s) _ _ _ _
  · unfold readAnswer
    split <;> exact hk.drainSettled_arrived bytes f

/-- The answer to a WRITE where the directory, the sender's record and the notices of `s` decide (R89 to R94). -/
def writeAnswer (s : State) (n : Station) (seq : Byte) (a : GlobalAddr) (data : List Byte) (notice : Bool) (u : State) : State :=
  match regionCheck a data.length s with
  | .notMine => withResponse n seq (.nack a .notMine true) u
  | .outOfRange => withResponse n seq (.nack a .outOfRange true) u
  | .inRegion writable l =>
    if writable = false then withResponse n seq (.nack a .readOnly true) u
    else if (peerOf n s).lastApplied = some seq then withResponse n seq .writeAck u
    else if notice = true ∧ s.resp.notices.length = 8 then withResponse n seq (.nack a .noticeFull true) u
    else applyWrite n seq a data notice l u

theorem takeWrite_eq (hx : s.ctl.span ≠ .stopped) (hcap : s.resp.responses.length ≤ 4) (hroom : s.resp.notices.length ≤ 8) {u : State}
    (hu : SameServer s u) (hlast : (peerOf n u).lastApplied = (peerOf n s).lastApplied) (seq : Byte) (a : GlobalAddr) (data : List Byte)
    (notice : Bool) : takeWrite n seq a data notice u = requestTaken s (writeAnswer s n seq a data notice) u := by
  have hnotices : (notice && noticesFull u) = true ↔ notice = true ∧ s.resp.notices.length = 8 := by
    rw [Bool.and_eq_true, noticesFull, decide_eq_true_eq, hu.resp]
    show _ ∧ 8 ≤ _ ↔ _
    exact and_congr_right fun _ => by omega
  rw [← requestTaken_eq hx hcap hu, takeWrite, regionCheck_congr ⟨hu.dir, hu.ctl⟩, writeAnswer]
  cases regionCheck a data.length s with
  | inRegion writable l => simp only [hnotices, hlast, Bool.not_eq_true', respond_eq]
  | _ => rfl

theorem lastApplied_taken (n : Station) (bytes : List Byte) (f : Frame) (s : State) :
    (peerOf n (taken bytes f s)).lastApplied = (peerOf n s).lastApplied := by
  rw [show (peerOf n s) = peerOf n (withFrame bytes s) from rfl]
  unfold taken hear
  split
  · exact lastApplied_setPeer _ _ _ rfl
  · rfl

theorem WellKept.writeContent (hk : WellKept s) (hx : s.ctl.span ≠ .stopped) {a : GlobalAddr} {data : List Byte} (hbody : f.body = .write a data) :
    frameContent f (taken bytes f s) = requestTaken s (writeAnswer s f.src f.tag a data f.notice) (taken bytes f s) := by
  simp only [frameContent, hbody]
  exact takeWrite_eq hx hk.capacity.2.2.1 hk.capacity.2.2.2.1 (sameServer_taken bytes f s) (lastApplied_taken _ _ _ _) _ _ _ _

/-- Settles O22. -/
theorem writeIsTurnedAway : Obligations.WriteIsTurnedAway := by
  intro s bytes f a data hk h hbody u answered
  have hcontent := hk.writeContent (bytes := bytes) h.2.2.1 hbody
  have hanswered (x : Answer) (hon : ¬(s.ctl.span = .offline ∨ s.ctl.span = .listening)) (hfew : ¬s.resp.responses.length = 4)
      (hx : ∀ u, writeAnswer s f.src f.tag a data f.notice u = withResponse f.src f.tag x u) : answered x := by
    have hopen (u : State) : requestTaken s (respond f.src f.tag x) u = withResponse f.src f.tag x u := by
      rw [requestTaken, if_neg hon, if_neg hfew, respond_eq]
    refine (hk.exec_request h (.respond f.src f.tag x) ?_ (hk.drainSettled_arrived bytes f)).trans (by rw [hopen])
    rw [hcontent, hopen, requestTaken, if_neg hon, if_neg hfew, hx]
  split
  next hoff =>
    have hclosed (g : State → State) (u : State) : requestTaken s g u = u := if_pos hoff
    exact (hk.exec_request h .id ((hcontent.trans (hclosed _ _)).trans (hclosed _ _).symm) (hk.drainSettled_arrived bytes f)).trans
      (by rw [hclosed])
  next hon =>
    split
    next hfull =>
      have hdropped (g : State → State) (u : State) : requestTaken s g u = withFlag .overrun (withCount .overrun 1 u) :=
        (if_neg hon).trans (if_pos hfull)
      exact (hk.exec_request h .id ((hcontent.trans (hdropped _ _)).trans (hdropped _ _).symm) (hk.drainSettled_arrived bytes f)).trans
        (by rw [hdropped])
    next hfew =>
      split
      next hr => exact hanswered _ hon hfew fun u => by simp only [writeAnswer, hr]
      next hr => exact hanswered _ hon hfew fun u => by simp only [writeAnswer, hr]
      next writable l hr =>
        split
        next hw => exact hanswered _ hon hfew fun u => by simp only [writeAnswer, hr, if_pos hw]
        next hw =>
          split
          next hlast => exact hanswered _ hon hfew fun u => by simp only [writeAnswer, hr, if_neg hw, if_pos hlast]
          next hlast =>
            exact fun hnotice hfull => hanswered _ hon hfew fun u => by
              simp only [writeAnswer, hr, if_neg hw, if_neg hlast, if_pos (And.intro hnotice hfull)]

end Sys2Proof.Machine


/-! ## A WRITE that is applied -/

namespace Sys2Proof.Machine

variable {s t v : State} {n : Station} {k : Kind} {bytes : List Byte} {f : Frame}

/-- The records after a frame whose source is heard, before and with the marks. -/
theorem taken_of_hearing (hx : hearing s.ctl.span = true) (hn : validStation f.src = true) :
    taken bytes f s =
      { withFrame bytes s with
        peers := s.peers.set (f.src.toNat - 1) { peerOf f.src s with presence := .present, heardAgo := 0 } } := by
  have hx' : hearing (withFrame bytes s).ctl.span = true := hx
  rw [taken, hear, if_pos hx', setPeer, if_pos hn]
  rfl

theorem arrived_of_hearing (hx : hearing s.ctl.span = true) :
    arrived bytes f s =
      { withFrame bytes s with
        peers := s.peers.set (f.src.toNat - 1)
          { peerOf f.src s with
            presence := .present, heardAgo := 0, changed := (peerOf f.src s).changed || decide ((peerOf f.src s).presence ≠ .present) }
        ev :=
          { s.ev with flags := { s.ev.flags with peer := s.ev.flags.peer || decide ((peerOf f.src s).presence ≠ .present) } } } := by
  have hx' : hearing (withFrame bytes s).ctl.span = true := hx
  rw [arrived, withHeard, if_pos hx']
  rfl

theorem peerOf_set (hn : validStation n = true) (hs : s.peers.length = Config.peerRecords) {r : PeerRecord}
    (ht : t.peers = s.peers.set (n.toNat - 1) r) : peerOf n t = r := by
  rw [peerOf_eq_getD hn, ht]
  simp [station_index_lt hn hs]

/-- The state that an applied WRITE leaves, from the state in which its source has been heard (R94). -/
def withApplied (n : Station) (seq : Byte) (a : GlobalAddr) (data : List Byte) (notice : Bool) (l : Nat) (u : State) : State :=
  { withResponse n seq .writeAck u with
    ram := memWriteBytes u.ram l data
    peers := u.peers.set (n.toNat - 1) { peerOf n u with lastApplied := some seq }
    resp :=
      { (withResponse n seq .writeAck u).resp with
        notices := u.resp.notices ++ if notice = true then [{ source := n, addr := a, value := data.take 2 }] else [] } }

theorem applyWrite_eq (hn : validStation n = true) (seq : Byte) (a : GlobalAddr) (data : List Byte) (notice : Bool) (l : Nat) (u : State) :
    applyWrite n seq a data notice l u = withApplied n seq a data notice l u := by
  have hset (r : PeerRecord) : setPeer n r (ramWrite l data u) =
      { u with ram := memWriteBytes u.ram l data, peers := u.peers.set (n.toNat - 1) r } := by
    rw [setPeer, if_pos hn]
    rfl
  simp only [applyWrite, hset]
  cases notice with
  | false =>
    simp only [withApplied, Bool.false_eq_true, if_false, List.append_nil]
    rfl
  | true => rfl

/-- Settles O23. -/
theorem writeIsApplied : Obligations.WriteIsApplied := by
  intro s bytes f a data l hk h hbody hon hfew hregion hlast hnotice
  obtain ⟨hrec, hf, hx, hsrc, hdest⟩ := id h
  have hn : validStation f.src = true := checkFrame_src (frameCommand_of_checkFrameOf hf).1
  have hhear := hearing_of_onSpan hon
  have hs := hk.sized.1
  have hopen : ¬(s.ctl.span = .offline ∨ s.ctl.span = .listening) := by
    rintro (ho | ho) <;> simp [ho, onSpan] at hon
  have hcontent : frameContent f (taken bytes f s) = withApplied f.src f.tag a data f.notice l (taken bytes f s) := by
    have hroom : ¬(f.notice = true ∧ s.resp.notices.length = 8) := fun hc => absurd (hnotice hc.1) (by omega)
    rw [hk.writeContent hx hbody, requestTaken, if_neg hopen, if_neg (by omega), writeAnswer]
    simp only [hregion, Bool.true_eq_false, if_false, if_neg hlast, if_neg hroom, applyWrite_eq hn]
  have hpeers : (withApplied f.src f.tag a data f.notice l (taken bytes f s)).peers =
      s.peers.set (f.src.toNat - 1) { peerOf f.src s with presence := .present, heardAgo := 0, lastApplied := some f.tag } := by
    have hheard := taken_of_hearing (bytes := bytes) hhear hn
    have hrecord : peerOf f.src (taken bytes f s) = { peerOf f.src s with presence := .present, heardAgo := 0 } :=
      peerOf_set hn hs (by rw [hheard])
    simp only [withApplied, hrecord]
    rw [hheard, List.set_set]
  have hmarked : peerEventEnd s.peers (withApplied f.src f.tag a data f.notice l (taken bytes f s)) =
      withApplied f.src f.tag a data f.notice l (arrived bytes f s) := by
    have hheard := arrived_of_hearing (bytes := bytes) (f := f) hhear
    have hbefore := taken_of_hearing (bytes := bytes) hhear hn
    have hrecord := peerOf_set (t := arrived bytes f s) hn hs (by rw [hheard])
    have hrecord' := peerOf_set (t := taken bytes f s) hn hs (by rw [hbefore])
    rw [peerEventEnd_of_set hn hs hpeers, markChanged_eq (peerOf f.src s)
      { peerOf f.src s with presence := .present, heardAgo := 0, lastApplied := some f.tag } rfl]
    simp only [withApplied, hrecord, hrecord']
    simp only [hheard, hbefore, List.set_set]
    rfl
  have hsettled : drainSettled (withApplied f.src f.tag a data f.notice l (arrived bytes f s)) := hk.drainSettled_arrived bytes f
  have hevent : exec (.write bytes) s = .next (withApplied f.src f.tag a data f.notice l (arrived bytes f s)) := by
    refine (hk.exec_frame (k := .write) hrec hf hsrc).trans ?_
    have hentries : (withApplied f.src f.tag a data f.notice l (arrived bytes f s)).dir.entries = s.dir.entries := by
      have hdir := (arrived_frame bytes f s).2.1
      exact congrArg Directory.entries hdir
    rw [event, eventEnd, frameArrives_eq hx hsrc, if_pos hdest, hcontent, hmarked,
      show directoryEventEnd s.dir.entries _ = withApplied f.src f.tag a data f.notice l (arrived bytes f s) from if_pos hentries,
      drainCheck_of_settled _ hsettled]
  obtain ⟨-, -, -, -, hresp, hram, -⟩ := arrived_frame bytes f s
  refine ⟨_, hevent, fun x => ?_, ?_⟩
  · have hinside : l + data.length ≤ Config.ramSize := by
      have hserved := hk.servedPastEnd_eq_false (fun ho => hopen (.inl ho)) a data.length
      simpa [servedPastEnd, hregion] using hserved
    show memRead (memWriteBytes (arrived bytes f s).ram l data) x = _
    rw [hram]
    exact memRead_memWriteBytes data s.ram l x hk.ram hinside
  · rw [← hresp]
    rfl

end Sys2Proof.Machine


/-! ## The head leaves the queue

What R72 and R73 do one entry after the other, and R51 read after read, is one update of the state: `afterHead`. -/

namespace Sys2Proof.Machine

variable {s t v : State} {n : Station} {k : Option Word} {w : PostedWrite} {rest : List PostedWrite} {bytes : List Byte} {f : Frame}

/-! ### The release of the barriers (R51) -/

/-- A WAITING read with nothing left ahead of it. -/
def due (s : State) (i : ReadIndex) : Bool := (readAt i s).state = .waiting && (readAt i s).ahead == 0

/-- The ready list's item of a read. -/
def readItem (s : State) (i : ReadIndex) : ReadyItem := .read i (readAt i s).incarnation

theorem released_of_due {i : ReadIndex} (h : due s i = true) (ht : (readAt i s).responseTimer = none) :
    released 0 (readAt i s) = { readAt i s with state := .ready, responseTimer := none } := by
  simp only [due, Bool.and_eq_true, decide_eq_true_eq, beq_iff_eq] at h
  obtain ⟨hs, h0⟩ := h
  simp [released, hs, h0, ← ht]

theorem released_of_not_due {i : ReadIndex} (h : ¬due s i = true) : released 0 (readAt i s) = readAt i s := by
  have hno : ¬((readAt i s).state = .waiting ∧ (readAt i s).ahead ≤ 0) := by simpa [due] using h
  simp only [released, if_neg hno, Nat.sub_zero]

theorem releaseRead_of_due {i : ReadIndex} (h : due s i = true) : releaseRead s i = makeReady i s := if_pos h

theorem releaseRead_of_not_due {i : ReadIndex} (h : ¬due s i = true) : releaseRead s i = s := if_neg h

theorem foldl_releaseRead (l : List ReadIndex) (hl : l.Nodup) (hs : s.reads.entries.length = Config.readEntries)
    (ht : ∀ i, (readAt i s).state = .waiting → (readAt i s).responseTimer = none) :
    l.foldl releaseRead s =
      { withReady (s.sel.ready ++ (l.filter (due s)).map (readItem s)) s with
        reads := { s.reads with entries := allReadIndexes.map (fun i => if i ∈ l then released 0 (readAt i s) else readAt i s) } } := by
  induction l generalizing s with
  | nil =>
    simp only [List.foldl_nil, List.filter_nil, List.map_nil, List.append_nil, List.not_mem_nil, if_false, ← entries_eq_map hs]
    rfl
  | cons i l ih =>
    obtain ⟨hi, hl⟩ := List.nodup_cons.mp hl
    rw [List.foldl_cons]
    by_cases hd : due s i = true
    · have hother (j : ReadIndex) (hj : j ≠ i) : readAt j (makeReady i s) = readAt j s := readAt_setRead_other s i j _ hj
      have hself : readAt i (makeReady i s) = released 0 (readAt i s) := by
        rw [released_of_due hd (ht i (by simp [due] at hd; exact hd.1))]
        exact readAt_setRead_self s i _ hs
      have hfilter : l.filter (due (makeReady i s)) = l.filter (due s) :=
        List.filter_congr fun j hj => by rw [due, hother j (fun h => hi (h ▸ hj)), due]
      have hitems : (l.filter (due s)).map (readItem (makeReady i s)) = (l.filter (due s)).map (readItem s) :=
        List.map_congr_left fun j hj => by rw [readItem, hother j (fun h => hi (h ▸ List.mem_of_mem_filter hj)), readItem]
      have hentries (j : ReadIndex) : (if j ∈ l then released 0 (readAt j (makeReady i s)) else readAt j (makeReady i s)) =
          if j ∈ i :: l then released 0 (readAt j s) else readAt j s := by
        by_cases hj : j = i
        · subst hj
          simp [hi, hself]
        · simp [hother j hj, hj]
      rw [releaseRead_of_due hd, ih hl (by simpa [makeReady] using hs), hfilter, hitems, List.filter_cons_of_pos hd]
      · simp only [hentries]
        simp [withReady, makeReady, readItem, appendReady, setRead, State.setSel, State.setReads]
      · intro j hj
        by_cases hji : j = i
        · subst hji
          rw [hself, released_of_due hd (ht j (by simp [due] at hd; exact hd.1))]
        · rw [hother j hji] at hj ⊢
          exact ht j hj
    · have hentries (j : ReadIndex) : (if j ∈ l then released 0 (readAt j s) else readAt j s) =
          if j ∈ i :: l then released 0 (readAt j s) else readAt j s := by
        by_cases hj : j = i
        · subst hj
          simp [hi, released_of_not_due hd]
        · simp [hj]
      rw [releaseRead_of_not_due hd, ih hl hs ht, List.filter_cons_of_neg hd]
      simp only [hentries]

theorem releaseBarriers_of_right (h : RequestsRight k 0 s) :
    releaseBarriers s =
      { withReady (s.sel.ready ++ (s.reads.order.filter (due s)).map (readItem s)) s with
        reads := { s.reads with entries := s.reads.entries.map (released 0) } } := by
  have hentries (i : ReadIndex) : (if i ∈ s.reads.order then released 0 (readAt i s) else readAt i s) = released 0 (readAt i s) := by
    by_cases hi : i ∈ s.reads.order
    · simp [hi]
    · have hfree : (readAt i s).state = .free := by simpa using mt (h.ranks.2 i).mpr hi
      rw [if_neg hi, released_of_not_due (by simp [due, hfree])]
  have htimer (i : ReadIndex) (hi : (readAt i s).state = .waiting) : (readAt i s).responseTimer = none := by
    simpa [hi] using (h.reads i).response
  rw [releaseBarriers, foldl_releaseRead _ h.ranks.1 h.sized htimer]
  simp only [hentries]
  rw [← Function.comp_def, ← List.map_map, ← entries_eq_map h.sized]

/-! ### The heads that are judged (R73) -/

/-- The queue is `q`, and `m` entries in front of it have left. -/
def behind (m : Nat) (q : List PostedWrite) (s : State) : State :=
  { s with
    writes := { s.writes with queue := q }
    reads := { s.reads with entries := s.reads.entries.map (fun e => { e with ahead := e.ahead - m }) } }

theorem behind_behind (m m' : Nat) (q q' : List PostedWrite) (s : State) : behind m' q' (behind m q s) = behind (m + m') q' s := by
  simp [behind, Function.comp_def, Nat.sub_sub]

theorem behind_zero {q : List PostedWrite} (hq : s.writes.queue = q) : behind 0 q s = s := by simp [behind, ← hq]

/-- Drops write the counters and the fault record alone. -/
theorem drops_eq (r : FaultReason) (l : List PostedWrite) (s : State) :
    l.foldl (withDrop r) s = { s with ev := (l.foldl (withDrop r) s).ev } := by
  induction l generalizing s with
  | nil => rfl
  | cons w l ih => rw [List.foldl_cons, ih]; rfl

theorem drops_behind (r : FaultReason) (l : List PostedWrite) (m : Nat) (q : List PostedWrite) (s : State) :
    l.foldl (withDrop r) (behind m q s) = behind m q (l.foldl (withDrop r) s) := by
  induction l generalizing s with
  | nil => rfl
  | cons w l ih => exact ih (withDrop r s w)

/-- The item of the first entry of a queue. -/
def headItem (q : List PostedWrite) : List ReadyItem := q.head?.toList.map (fun w => .write w.admission)

theorem judgeHeads_eq (l : List PostedWrite) (hq : s.writes.queue = l) (hr : unreadyWrite s = s) :
    judgeHeads l s =
      withReady (s.sel.ready ++ headItem (l.dropWhile (unreachableNow s)))
        (behind (l.takeWhile (unreachableNow s)).length (l.dropWhile (unreachableNow s))
          ((l.takeWhile (unreachableNow s)).foldl (withDrop .unreachable) s)) := by
  induction l generalizing s with
  | nil =>
    rw [judgeHeads, List.takeWhile_nil, List.dropWhile_nil, List.length_nil, List.foldl_nil, behind_zero hq]
    simp [headItem, withReady]
  | cons w rest ih =>
    unfold judgeHeads
    split
    next hp =>
      have hw : ¬unreachableNow s w = true := by simp [unreachableNow, hp]
      rw [List.takeWhile_cons_of_neg hw, List.dropWhile_cons_of_neg hw, List.length_nil, List.foldl_nil, behind_zero hq]
      rfl
    next hp =>
      have hw : unreachableNow s w = true := by simp [unreachableNow, hp]
      have hdrop : dropHead w .unreachable s = behind 1 rest (withDrop .unreachable s w) := by
        rw [dropHead, popHead, hr, hq]
        rfl
      have hready : unreadyWrite (behind 1 rest (withDrop .unreachable s w)) = behind 1 rest (withDrop .unreachable s w) := by
        exact congrArg (fun u => behind 1 rest (withDrop .unreachable u w)) hr
      rw [hdrop, ih rfl hready, drops_behind, behind_behind]
      rw [List.takeWhile_cons_of_pos hw, List.dropWhile_cons_of_pos hw, List.length_cons, List.foldl_cons, Nat.add_comm _ 1]
      rfl

theorem drops_withReady (r : FaultReason) (l : List PostedWrite) (x : List ReadyItem) (s : State) :
    l.foldl (withDrop r) (withReady x s) = withReady x (l.foldl (withDrop r) s) := by
  induction l generalizing s with
  | nil => rfl
  | cons w l ih => exact ih (withDrop r s w)

/-! ### The head has left (R72) -/

/-- The new head is ready, and the reads that wait for nothing more follow it. -/
theorem releaseBarriers_behind {x : List ReadyItem} {m : Nat} {q : List PostedWrite} (h : RequestsRight k 0 (withReady x (behind m q v)))
    (hv : v.reads = s.reads) (hs : s.reads.entries.length = Config.readEntries) :
    releaseBarriers (withReady x (behind m q v)) =
      { withReady
          (x ++ (s.reads.order.filter (fun i => decide ((readAt i s).state = .waiting ∧ (readAt i s).ahead ≤ m))).map (readItem s))
          (withQueue q v) with
        reads := { s.reads with entries := s.reads.entries.map (released m) } } := by
  have hat (i : ReadIndex) : readAt i (withReady x (behind m q v)) = { readAt i s with ahead := (readAt i s).ahead - m } :=
    readAt_map (fun e => { e with ahead := e.ahead - m }) i hs (by rw [← hv]; rfl)
  have hdue (i : ReadIndex) : due (withReady x (behind m q v)) i = decide ((readAt i s).state = .waiting ∧ (readAt i s).ahead ≤ m) := by
    rw [due, hat, Bool.eq_iff_iff]
    simp [Nat.sub_eq_zero_iff_le]
  have hitem (i : ReadIndex) : readItem (withReady x (behind m q v)) i = readItem s i := by rw [readItem, hat, readItem]
  have hentry (e : ReadEntry) : released 0 { e with ahead := e.ahead - m } = released m e := by
    simp [released, Nat.sub_eq_zero_iff_le]
  rw [releaseBarriers_of_right h, funext hdue, funext hitem]
  simp only [withReady, withQueue, behind, hv, List.map_map, Function.comp_def, hentry]

theorem headGone_popHead (h : RequestsKept s) (hq : s.writes.queue = w :: rest) : headGone (popHead s) = afterHead rest s := by
  have hpopped : popHead s = behind 1 rest (unreadyWrite s) := by
    rw [popHead, hq]
    rfl
  have htwice : unreadyWrite (popHead s) = popHead s := by simp [hpopped, unreadyWrite, behind, State.setSel]
  have hqueue : (popHead s).writes.queue = rest := by rw [hpopped]; rfl
  have hright := (RequestsRight.popHead h).judgeHeads rest hqueue fun x hx => RequestsRight.atRest_tail h hq x hx
  have hjudged : judgeHeads rest (popHead s) =
      withReady (s.sel.ready.filter (fun x => !isWriteItem x) ++ headItem (rest.dropWhile (unreachableNow s)))
        (behind ((rest.takeWhile (unreachableNow s)).length + 1) (rest.dropWhile (unreachableNow s))
          ((rest.takeWhile (unreachableNow s)).foldl (withDrop .unreachable) s)) := by
    rw [judgeHeads_eq rest hqueue htwice, hpopped, drops_behind, behind_behind, Nat.add_comm 1, unreadyWrite_eq, drops_withReady]
    rfl
  rw [hjudged] at hright
  rw [headGone, hqueue, hjudged, releaseBarriers_behind hright (by rw [drops_eq]) h.sized]
  rfl

theorem headGone_dropHead (h : RequestsKept s) (hq : s.writes.queue = w :: rest) (r : FaultReason) :
    headGone (dropHead w r s) = afterHead rest (withDrop r s w) :=
  headGone_popHead (s := withDrop r s w) (h.of_same ⟨rfl, rfl, rfl, rfl⟩) hq

/-! ### Marks -/

theorem drops_marked (r : FaultReason) (l : List PostedWrite) (m : List PeerRecord) (b : Bool) (s : State) :
    l.foldl (withDrop r) (marked m b s) = marked m b (l.foldl (withDrop r) s) := by
  induction l generalizing s with
  | nil => rfl
  | cons w l ih => exact ih (withDrop r s w)

theorem Blind.afterHead (rest : List PostedWrite) : Blind (afterHead rest) where
  peers v := by
    have h := congrArg State.peers (drops_eq .unreachable (rest.takeWhile (unreachableNow v)) v)
    exact h
  entries v := by
    have h := congrArg (fun u => u.dir.entries) (drops_eq .unreachable (rest.takeWhile (unreachableNow v)) v)
    exact h
  commutes l b v hl := by
    have hsame : unreachableNow (marked l b v) = unreachableNow v := funext fun w => by
      rw [unreachableNow, hl.peerOf, unreachableNow]
    simp only [Machine.afterHead, hsame, drops_marked]
    rfl

theorem Blind.withDrop (r : FaultReason) (w : PostedWrite) : Blind (fun v => withDrop r v w) :=
  ⟨fun _ => rfl, fun _ => rfl, fun _ _ _ _ => rfl⟩

theorem Blind.holdHead (w : PostedWrite) : Blind (holdHead w) := ⟨fun _ => rfl, fun _ => rfl, fun _ _ _ _ => rfl⟩

/-- Settles O19. -/
theorem answersForTheHead : Obligations.AnswersForTheHead := by
  intro s bytes f w rest hk hq hanswered
  obtain ⟨hsel, -, hreads, hwrites, -, -, hctl, -⟩ := taken_frame bytes f s
  have hkept : RequestsKept (taken bytes f s) := hk.requestsKept.of_same ⟨hreads, by rw [hwrites], by rw [hsel], by rw [hctl]⟩
  have hq' : (taken bytes f s).writes.queue = w :: rest := by rw [hwrites, hq]
  have hyes : answersHead f.src f.tag w = true := answersHead_iff.mpr hanswered
  refine ⟨fun h => ?_, fun a r h hnotice hbody => ?_⟩
  · have hbody : f.body = .writeAck := by
      have := h.kind
      cases hb : f.body <;> simp_all [bodyKind]
    refine hk.exec_arrivesHere h (g := afterHead rest) ?_ ((Blind.afterHead rest).unseen _)
    simp only [frameContent, hbody, takeWriteAck, hq', if_pos hyes]
    exact headGone_popHead hkept hq'
  · have hcontent : frameContent f (taken bytes f s) = takeWriteNack f.src f.tag r (taken bytes f s) := by
      simp only [frameContent, hbody, hnotice, if_true]
    have hholds : (decide (r = .noticeFull) && retriesLeft w.attempts (taken bytes f s)) = true ↔
        r = .noticeFull ∧ w.attempts ≤ s.ctl.config.retryLimit.toNat := by simp [retriesLeft, hctl]
    simp only [takeWriteNack, hq', if_pos hyes, hholds] at hcontent
    split
    next hr =>
      rw [if_pos hr] at hcontent
      refine (hk.exec_arrivesHere h (g := holdHead w) hcontent ((Blind.holdHead w).unseen _)).trans ?_
      have hopen : drainSettled (holdHead w (arrived bytes f s)) :=
        drainSettled_of_open (drained_of_queue (rest := (arrived bytes f s).writes.queue.tail) rfl)
      obtain ⟨hsel', -, -, hwrites', -, -, hctl'⟩ := arrived_frame bytes f s
      rw [drainCheck_of_settled _ hopen]
      simp only [holdHead, setHead, setQueue, unreadyWrite, State.setWrites, State.setSel, withReady, withQueue, hsel', hwrites', hctl', hq]
      rfl
    next hr =>
      rw [if_neg hr] at hcontent
      exact hk.exec_arrivesHere h (g := fun v => afterHead rest (withDrop (nackFault r) v w))
        (hcontent.trans (headGone_dropHead hkept hq' _)) (((Blind.withDrop _ w).comp (.afterHead rest)).unseen _)

end Sys2Proof.Machine


/-! ## The timers of the requests -/

namespace Sys2Proof.Machine

variable {s t v : State} {n : Station} {w : PostedWrite} {rest : List PostedWrite} {arises : State → Bool} {f g : State → State}

/-! ### The destination becomes SILENT (R124) -/

/-- An event that does on `v` what it would do after the marks. -/
theorem stationEvent_of_unseen (hlow : s.port.resetLow = false) (ha : arises s = true) (hf : f s = g v)
    (hl : s.peers.length = v.peers.length) (hd : v.dir.entries = s.dir.entries) (hu : Unseen g v) :
    stationEvent arises f s =
      .next (drainCheck (g (marked (markedPeers s.peers v.peers) (peersMoved s.peers v.peers) v))) := by
  have hmark : peerEventEnd s.peers (g v) = g (marked (markedPeers s.peers v.peers) (peersMoved s.peers v.peers) v) := by
    rw [peerEventEnd_eq_marked (by rw [hu.peers, hl]), hu.peers, hu.commutes _ _ (markedPeers_presence hl)]
  have hsame : (g (marked (markedPeers s.peers v.peers) (peersMoved s.peers v.peers) v)).dir.entries = s.dir.entries := by
    rw [hu.commutes _ _ (markedPeers_presence hl)]
    exact hu.entries.trans hd
  rw [stationEvent_eq, if_pos ⟨hlow, ha⟩, event, eventEnd, hf, hmark, show directoryEventEnd s.dir.entries _ = _ from if_pos hsame]

/-- The state after its destination has been marked. -/
def withSilent (n : Station) (s : State) : State := if (peerOf n s).presence = .present then withPresence n .silent s else s

theorem withSilent_eq_marked (hn : validStation n = true) (hs : s.peers.length = Config.peerRecords) :
    marked (markedPeers s.peers (markSilent n s).peers) (peersMoved s.peers (markSilent n s).peers) (markSilent n s) = withSilent n s := by
  by_cases hp : (peerOf n s).presence = .present
  · have hsilent : markSilent n s = s.setPeers (s.peers.set (n.toNat - 1) { peerOf n s with presence := .silent }) := by
      rw [markSilent, if_pos hp, setPeer, if_pos hn]
    rw [hsilent, withSilent, if_pos hp]
    simp only [State.setPeers_peers]
    rw [markedPeers_set, peersMoved_set (station_index_lt hn hs), ← peerOf_eq_getD hn,
      markChanged_eq (peerOf n s) { peerOf n s with presence := .silent } rfl]
    rfl
  · rw [markSilent, if_neg hp, withSilent, if_neg hp, markedPeers_self, peersMoved_self, marked_same]

/-- An event that marks a destination SILENT and does the rest unseen. -/
theorem stationEvent_of_silent (hlow : s.port.resetLow = false) (ha : arises s = true) (hn : validStation n = true)
    (hs : s.peers.length = Config.peerRecords) (hf : f s = g (markSilent n s)) (hu : Blind g) :
    stationEvent arises f s = .next (drainCheck (g (withSilent n s))) := by
  rw [stationEvent_of_unseen hlow ha hf (by simp [markSilent, apply_ite]) (by simp) (hu.unseen _), withSilent_eq_marked hn hs]

/-! ### The head's timer (R76, R79) -/

/-- The mark and an operation that sees no peer change places. -/
theorem markSilent_comm {g : State → State} (hp : (g s).peers = s.peers) (hg : ∀ l, g (s.setPeers l) = (g s).setPeers l) :
    markSilent n (g s) = g (markSilent n s) := by
  have hr : peerOf n (g s) = peerOf n s := by rw [peerOf, hp, peerOf]
  unfold markSilent setPeer
  rw [hr, hp]
  split
  · split
    · exact (hg _).symm
    · rfl
  · rfl

/-- Settles O30. -/
theorem headTimeouts : Obligations.HeadTimeouts := by
  intro s w rest hk hlow hq ht ready
  have hready : readyHead w s = ready := by
    simp only [readyHead, setHead, hq]
    rfl
  have honHead (f : PostedWrite → State → State) : onHead f s = f w s := by simp only [onHead, hq]
  have hexpired {p : PostedWrite → Bool} (hp : p w = true) : headExpired p s = true :=
    headExpired_iff.mpr ⟨w, by simp [hq], hp, ht⟩
  have hopen : drainSettled ready := drainSettled_of_open (drained_of_queue rfl)
  have hagain {arises : State → Bool} {f : PostedWrite → State → State} (ha : arises s = true) (hf : f w s = ready) :
      stationEvent arises (onHead f) s = .next ready := by
    have hsame : onHead f s = ready := (honHead f).trans hf
    rw [← hsame]
    exact stationEvent_of_quiet hlow ha (by rw [hsame]; rfl) (by rw [hsame]; rfl) (by rw [hsame]; exact hopen)
  refine ⟨fun hheld => hagain (f := readyHead) (hexpired hheld) hready, fun hflight => ?_⟩
  have hretries : retriesLeft w.attempts s = true ↔ w.attempts ≤ s.ctl.config.retryLimit.toNat := by simp [retriesLeft]
  split
  next hr => exact hagain (f := headTimedOut) (hexpired hflight) (by rw [headTimedOut, if_pos (hretries.mpr hr), hready])
  next hr =>
    have hn : validStation w.dest = true := (hk.requestsKept.queue w (by simp [hq])).shape.1
    refine stationEvent_of_silent (g := fun v => afterHead rest (withDrop .noAnswer v w)) hlow (hexpired hflight) hn hk.sized.1 ?_
      ((Blind.withDrop .noAnswer w).comp (.afterHead rest))
    have hsilent : markSilent w.dest (dropHead w .noAnswer s) = dropHead w .noAnswer (markSilent w.dest s) :=
      markSilent_comm (g := dropHead w .noAnswer) (by simp) fun _ => rfl
    rw [honHead, headTimedOut, if_neg (mt hretries.mp hr), hsilent]
    exact headGone_dropHead (hk.requestsKept.of_same (by simp)) (by simpa using hq) _

/-! ### The timers of the reads (R56, R58) -/

theorem failRead_setPeers (i : ReadIndex) (r : FaultReason) (s : State) (l : List PeerRecord) :
    failRead r (s.setPeers l) i = (failRead r s i).setPeers l := by
  rw [failRead_eq, failRead_eq, apply_ite (fun u : State => u.setPeers l)]
  rfl

/-- An entry that is not fetching leaves the drain as it is when it becomes FREE. -/
theorem drainSettled_withFree (h : drainSettled s) {i : ReadIndex} (hs : s.reads.entries.length = Config.readEntries)
    (hi : fetching (readAt i s).state = false) : drainSettled (withFree i s) := by
  refine drainSettled_of_same h ⟨rfl, rfl⟩ rfl fun _ hd => ?_
  simp only [drained, Bool.and_eq_true, List.all_eq_true, Bool.not_eq_true'] at hd ⊢
  refine ⟨hd.1, fun e he => ?_⟩
  obtain ⟨j, rfl⟩ := (mem_reads_iff hs e).mp he
  by_cases hj : j = i
  · rw [hj, hi]
  · have hother : readAt j (withFree i s) = readAt j s := readAt_setRead_other s i j _ hj
    exact hd.2 _ ((mem_reads_iff (by simpa [withFree] using hs) _).mpr ⟨j, hother⟩)

/-- Settles O29. -/
theorem readTimersExpire : Obligations.ReadTimersExpire := by
  intro s i hk hlow e
  have hs : s.reads.entries.length = Config.readEntries := hk.sized.2.1
  refine ⟨fun hissued ht => ?_, fun hcomplete ht => ?_⟩
  · have hdue : responseDue i s = true := by simp [responseDue, expired_iff, hissued, ht, e] at *
    have hretries : retriesLeft e.attempts s = true ↔ e.attempts ≤ s.ctl.config.retryLimit.toNat := by simp [retriesLeft]
    split
    next hr =>
      have hready : readTimedOut i s = withReady (s.sel.ready ++ [.read i e.incarnation])
          (withRead i { e with state := .ready, responseTimer := none } s) := by
        rw [readTimedOut, if_pos (hretries.mpr hr)]
        rfl
      have hopen : drained (readTimedOut i s) = false := by
        refine drained_of_fetching (i := i) (by rw [hready]; simpa [withReady, withRead] using hs) ?_
        rw [hready]
        exact (congrArg (fun e => fetching e.state) (readAt_setRead_self s i _ hs)).trans rfl
      rw [← hready]
      exact stationEvent_of_quiet hlow hdue (by rw [hready]; rfl) (by rw [hready]; rfl) (drainSettled_of_open hopen)
    next hr =>
      have hn : validStation e.dest = true := ((hk.requestsKept.reads i).shape (by simp [e] at hissued; simp [hissued])).1
      refine (stationEvent_of_silent (g := fun v => failRead .noAnswer v i) hlow hdue hn hk.sized.1 ?_ (.failRead i .noAnswer)).trans ?_
      · rw [readTimedOut, if_neg (mt hretries.mp hr), markSilent_comm (g := fun v => failRead .noAnswer v i) (by simp) (failRead_setPeers i _ s)]
      · have hread : readAt i (withSilent e.dest s) = e := by
          unfold withSilent
          split <;> rfl
        rw [failRead_eq, hread]
        rfl
  · have hdue : discardDue i s = true := by simp [discardDue, expired_iff, hcomplete, ht, e] at *
    have hfree : drainSettled (withFree i s) := drainSettled_withFree hk.drain hs (by simp [e] at hcomplete; simp [hcomplete, fetching])
    have hevent := stationEvent_of_quiet (f := discardRead i) hlow hdue
    unfold discardRead at hevent
    split
    next hd => 
      rw [if_pos hd] at hevent
      exact hevent rfl rfl hfree
    next hd =>
      rw [if_neg hd] at hevent
      exact hevent rfl rfl hfree

end Sys2Proof.Machine


/-! ## Entering OFFLINE and STOPPED -/

namespace Sys2Proof.Machine

variable {s t u v : State} {x : SpanState} {c : Option StopCause} {bytes : List Byte} {f : Frame}

/-- The purge before the comparisons that end the event: the records and the content of the directory are not yet marked. -/
def unmarkedPurge (x : SpanState) (c : Option StopCause) (s : State) : State :=
  { afterPurge x c s with
    peers := s.peers.map lostRecord
    dir := { (afterPurge x c s).dir with generation := s.dir.generation }
    ev :=
      { s.ev with
        flags :=
          { s.ev.flags with
            span := true
            eclipse := s.ev.flags.eclipse || s.dir.statuses.contains .eclipsed } } }

theorem emptyDirectory_eq (s : State) :
    emptyDirectory s =
      { s with
        dir := { s.dir with entries := [], statuses := restStatuses s.ctl.config }
        ev := { s.ev with flags := { s.ev.flags with eclipse := s.ev.flags.eclipse || s.dir.statuses.contains .eclipsed } } } := by
  by_cases he : s.dir.statuses.contains .eclipsed = true
  · rw [emptyDirectory, if_pos he, he, Bool.or_true]
    rfl
  · rw [emptyDirectory, if_neg he, Bool.eq_false_iff.mpr he, Bool.or_false]
    rfl

theorem purge_eq (hx : s.ctl.span ≠ x) : setSpan x (setStopCause c (purgeAll s)) = unmarkedPurge x c s := by
  have hspan : (setStopCause c (purgeAll s)).ctl.span ≠ x := by
    have hctl := purgeAll_ctl s
    simpa [setStopCause, hctl] using hx
  rw [setSpan, if_neg hspan, purgeAll, emptyDirectory_eq]
  rfl

theorem markedPeers_map_lost (l : List PeerRecord) :
    markedPeers l (l.map lostRecord) =
      l.map (fun r => { PeerRecord.reset with changed := r.changed || decide (r.presence ≠ .absent) }) := by
  have hmark (r : PeerRecord) : markChanged r (lostRecord r) =
      { PeerRecord.reset with changed := r.changed || decide (r.presence ≠ .absent) } := markChanged_eq r (lostRecord r) rfl
  rw [markedPeers, List.zipWith_map_right, List.zipWith_self]
  exact List.map_congr_left fun r _ => hmark r

theorem peersMoved_map_lost (l : List PeerRecord) :
    peersMoved l (l.map lostRecord) = l.any (fun r => decide (r.presence ≠ .absent)) := by
  rw [peersMoved, List.zipWith_map_right, List.zipWith_self, List.any_map]
  rfl

/-- An event in which the station enters OFFLINE or STOPPED (R147). -/
theorem eventEnd_purge (hx : s.ctl.span ≠ x) (hl : x ≠ .leaving) (hp : v.peers = s.peers) (hd : v.dir.entries = s.dir.entries) :
    eventEnd v (setSpan x (setStopCause c (purgeAll s))) = afterPurge x c s := by
  have hmark : peerEventEnd v.peers (unmarkedPurge x c s) =
      marked (afterPurge x c s).peers (s.peers.any (fun r => decide (r.presence ≠ .absent))) (unmarkedPurge x c s) := by
    rw [hp, peerEventEnd_eq_marked (by simp [unmarkedPurge])]
    show marked (markedPeers s.peers (s.peers.map lostRecord)) (peersMoved s.peers (s.peers.map lostRecord)) _ = _
    rw [markedPeers_map_lost, peersMoved_map_lost]
    rfl
  have hcontent : directoryEventEnd v.dir.entries (peerEventEnd v.peers (unmarkedPurge x c s)) = afterPurge x c s := by
    rw [hmark, hd]
    show (if ([] : List DirEntry) = s.dir.entries then _ else _) = _
    by_cases he : s.dir.entries = []
    · rw [if_pos he.symm]
      simp [afterPurge, unmarkedPurge, marked, he]
    · rw [if_neg (Ne.symm he)]
      simp [afterPurge, unmarkedPurge, marked, he, raise, setFlag, State.setEv, State.setDir]
  rw [purge_eq hx, eventEnd, hcontent, drainCheck, if_neg]
  simp [afterPurge, hl]

/-! ### The end of a break (R9, R111, R141) -/

/-- The interface once a break has ended, before the outcome is counted. -/
def quietInterface (s : State) : SpanInterface :=
  { s.iface with receiver := .waitIdle, idleCount := 0, rxBuffer := [], rxCount := 0, rxOwn := false, tx := none }

/-- An event of the line that arises. -/
theorem lineEvent_of_arises {arises : State → Bool} {g : State → State} (hlow : s.port.resetLow = false) (hu : s.iface.untaken = false)
    (ha : arises s = true) (hg : g s = t) : lineEvent arises g s = .next (eventEnd s t) := by
  rw [lineEvent_eq, if_pos ⟨hlow, hu, ha⟩, event, hg]

theorem stopIfFailing_of_few (h : s.iface.failCount < 16) : stopIfFailing s = s := by
  refine if_neg fun hboth => ?_
  have hmany : 16 ≤ s.iface.failCount := of_decide_eq_true (Bool.and_eq_true_iff.mp hboth).1
  omega

theorem stopIfFailing_of_many (h : 16 ≤ s.iface.failCount) (hon : onSpan s.ctl.span = true) :
    stopIfFailing s = enterStopped .txFailures s :=
  if_pos (Bool.and_eq_true_iff.mpr ⟨decide_eq_true h, hon⟩)

theorem countFailure_of_few (h : s.iface.failCount < 15) :
    countFailure s = { s with iface := { s.iface with failCount := s.iface.failCount + 1 } } := by
  have hcount : min (s.iface.failCount + 1) Config.stopFailures = s.iface.failCount + 1 := by
    show min _ 16 = _
    omega
  rw [countFailure, hcount]
  rfl

theorem endBreak_of_tx {y : Transmission} {b : BreakCause} (hu : s.iface.untaken = false) (hk : receiverRight s) (hy : s.iface.tx = some y)
    (hb : y.phase = .breaking b) : endBreak s = breakOutcome b { s with iface := quietInterface s } := by
  have hlost : receiverLost (setTx none s) = { s with iface := quietInterface s } := by
    have hoff : s.iface.fromOffline = false := by
      obtain ⟨-, -, -, -, -, hoff⟩ := hk
      exact Bool.eq_false_iff.mpr fun h => by simp [hoff h] at hu
    simp [receiverLost, setTx, State.setIface, quietInterface, hu, hoff]
  simp only [endBreak, hy, hb, hlost]

/-- Settles O11. -/
theorem endOfABreak : Obligations.EndOfABreak := by
  intro s y hk hlow hu hy quiet
  have hphase {b : BreakCause} (hb : y.phase = .breaking b) : inPhase breaking s = true := inPhase_of_tx hy (by rw [hb]; rfl)
  have hend {b : BreakCause} (hb : y.phase = .breaking b) : endBreak s = breakOutcome b { s with iface := quiet } :=
    endBreak_of_tx hu hk.receiver hy hb
  have hquiet {b : BreakCause} {t : State} (hb : y.phase = .breaking b) (ht : breakOutcome b { s with iface := quiet } = t)
      (hp : t.peers = s.peers) (hd : t.dir = s.dir) (hs : drainSettled t) : exec .breakEnd s = .next t := by
    have ht' : endBreak s = t := (hend hb).trans ht
    rw [← ht']
    exact lineEvent_of_quiet hlow hu (hphase hb) (by rw [ht', hp]) (by rw [ht', hd]) (by rwa [ht'])
  refine ⟨fun hb => ?_, fun hb => ?_, fun hb hfew => ?_, fun hb hmany hon => ?_⟩
  · exact hquiet hb rfl rfl rfl hk.drain
  · exact hquiet hb rfl rfl rfl hk.drain
  · refine hquiet hb ?_ rfl rfl hk.drain
    rw [breakOutcome, countFailure_of_few (s := count .txFail 1 { s with iface := quiet }) hfew, stopIfFailing_of_few]
    · rfl
    · show s.iface.failCount + 1 < 16
      omega
  · have hspan : s.ctl.span ≠ .stopped := fun h => by simp [h, onSpan] at hon
    have hcounted : 16 ≤ min (s.iface.failCount + 1) 16 := by omega
    have hstop : endBreak s = enterStopped .txFailures (countFailure (withCount .txFail 1 { s with iface := quiet })) :=
      (hend hb).trans (stopIfFailing_of_many hcounted hon)
    refine (lineEvent_of_arises hlow hu (hphase hb) hstop).trans (congrArg _ ?_)
    exact (eventEnd_purge (v := s) (s := countFailure (withCount .txFail 1 { s with iface := quiet })) hspan (by simp) rfl rfl).trans rfl

/-! ### The maintenance frames that change the span state (R115, R139, R145) -/

/-- The mark after an ANNOUNCE has been sent: another one is asked for where its list is no longer the station's (R115). -/
def markAfter (copy : List RegionGroup) (s : State) : AnnounceMark :=
  if ownGroups s ≠ copy ∧ s.ctl.span = .online then .pending else .clear

theorem announceSent_of_later (copy : List RegionGroup) (s : State) :
    announceSent false copy s = { s with sel := { s.sel with announceMark := markAfter copy s } } := rfl

theorem announceSent_of_fresh (copy : List RegionGroup) (hx : s.ctl.span = .announcing) :
    announceSent true copy s =
      withFlag .span
        { s with
          ctl := { s.ctl with span := .online }
          sel :=
            { s.sel with
              heartbeatTimer := some (s.ctl.config.hbInterval.toNat * 1000)
              announceMark := if ownGroups s = copy then .clear else .pending } } := by
  have hmark : markAfter copy (startHeartbeat (setSpan .online s)) = if ownGroups s = copy then .clear else .pending := by
    have hgroups : ownGroups (startHeartbeat (setSpan .online s)) = ownGroups s := by simp [ownGroups]
    have honline : (startHeartbeat (setSpan .online s)).ctl.span = .online := by simp [setSpan_ctl]
    rw [markAfter, hgroups, honline]
    by_cases hg : ownGroups s = copy <;> simp [hg]
  have hspan : setSpan .online s = withFlag .span { s with ctl := { s.ctl with span := .online } } := by
    rw [setSpan, if_neg (by simp [hx])]
    rfl
  rw [announceSent, if_pos rfl, freshSent, if_pos hx]
  refine (announceSent_of_later copy (startHeartbeat (setSpan .online s))).trans ?_
  rw [hmark, hspan]
  rfl

theorem cut_of_idle (htx : s.iface.tx = none) : cut s = s := by
  simp only [cut, htx, Option.map_none]
  rw [← htx]
  rfl

theorem leaveSent_eq (hx : s.ctl.span ≠ .offline) (htx : s.iface.tx = none) :
    leaveSent s = setSpan .offline (setStopCause none (purgeAll { s with sel := { s.sel with leaveMark := false } })) := by
  have hcut : cut { s with sel := { s.sel with leaveMark := false } } = { s with sel := { s.sel with leaveMark := false } } :=
    cut_of_idle htx
  exact (if_neg hx).trans (by rw [← hcut]; rfl)

/-- Settles O13. -/
theorem sentMaintenanceFrames : Obligations.SentMaintenanceFrames := by
  intro s y hk hlow hu hy hp sent
  have hline := onLine_of_sends hp
  have hphase := inPhase_of_tx hy hline
  have hsent := endSent_of_tx hy
  obtain ⟨-, -, -, -, -, hmarks⟩ := hk.marks
  obtain ⟨hleave, hfresh⟩ := hmarks y hy hline
  refine ⟨fun regions hi => ?_, fun regions hi => ?_, fun hi => ?_⟩
  · have hx : s.ctl.span = .announcing := hfresh (by rw [hi]; rfl)
    rw [hi] at hsent
    exact exec_attemptSent_of_quiet hlow hu hy hp (hsent.trans (announceSent_of_fresh regions hx)) rfl rfl
      (drainSettled_of_not_leaving (by simp [withFlag]))
  · rw [hi] at hsent
    refine exec_attemptSent_of_quiet hlow hu hy hp (hsent.trans (announceSent_of_later regions _)) rfl rfl hk.drain |>.trans ?_
    simp only [markAfter, and_comm]
    rfl
  · have hx : s.ctl.span = .leaving := hleave (by rw [hi]; rfl)
    have hoff : s.ctl.span ≠ .offline := by simp [hx]
    rw [hi] at hsent
    refine (lineEvent_of_arises hlow hu hphase (hsent.trans (leaveSent_eq hoff rfl))).trans (congrArg _ ?_)
    have hpurge (v : State) (hv : v.ctl.span ≠ .offline) (hpeers : s.peers = v.peers) (hdir : s.dir.entries = v.dir.entries)
        (hsame : afterPurge .offline none v = afterPurge .offline none { s with iface := sent }) :
        eventEnd s (setSpan .offline (setStopCause none (purgeAll v))) = afterPurge .offline none { s with iface := sent } :=
      (eventEnd_purge hv (by simp) hpeers hdir).trans hsame
    exact hpurge _ hoff rfl rfl rfl

end Sys2Proof.Machine


/-! ## The commands of the span state, and the clash report -/

namespace Sys2Proof.Machine

variable {s t u v : State} {x : SpanState} {c : ConfigRecord} {bytes : List Byte} {f : Frame} {k : HostCommand}

/-! ### JOIN judges the configuration (R136) -/

/-- The tests of R136 in their order, each as its table gives it. -/
def stationUnset (c : ConfigRecord) : Prop := c.station = 0 ∨ 30 < c.station.toNat

def timingRange (c : ConfigRecord) : Prop :=
  c.tickDiv.toNat < 8 ∨ 40 < c.tickDiv.toNat ∨ c.bitDiv.toNat < 2 ∨ 32 < c.bitDiv.toNat ∨ c.hbInterval.toNat < 1 ∨
    250 < c.hbInterval.toNat ∨ c.respTimeout.toNat < 1 ∨ c.discardTime.toNat < 1 ∨ 64 < c.discardTime.toNat

def regionOutOfRange (r : RegionConfig) : Prop :=
  r.enable = true ∧
    (r.length = 0 ∨ 64 < r.length.toNat ∨ 0x4000 < r.localOffset.toNat * 256 + 256 * r.length.toNat ∨
      0x1000000 < r.globalBase.toNat * 256 + 256 * r.length.toNat)

/-- A global byte lies in the region. -/
def inRegion (r : RegionConfig) (y : Nat) : Prop :=
  r.globalBase.toNat * 256 ≤ y ∧ y < r.globalBase.toNat * 256 + 256 * r.length.toNat

def regionOverlap (c : ConfigRecord) : Prop :=
  ∃ m n y, m ≠ n ∧ (regionOf c m).enable = true ∧ (regionOf c n).enable = true ∧ inRegion (regionOf c m) y ∧ inRegion (regionOf c n) y

theorem validStation_eq_false_iff : validStation c.station = false ↔ stationUnset c := by
  rw [← Bool.not_eq_true, validStation_iff, stationUnset]
  bv_omega

theorem timingOk_eq_false_iff : timingOk c = false ↔ timingRange c := by
  have hretry := c.retryLimit.isLt
  have htimeout := c.respTimeout.isLt
  rw [← Bool.not_eq_true, timingRange]
  simp only [timingOk, inRange, Bool.and_eq_true, decide_eq_true_eq]
  omega

theorem regionRangeOk_eq_false_iff {r : RegionConfig} : regionRangeOk r = false ↔ regionOutOfRange r := by
  have hzero : r.length = 0 ↔ r.length.toNat = 0 := by bv_omega
  rw [← Bool.not_eq_true, regionOutOfRange, hzero]
  simp only [regionRangeOk, inRange, Bool.or_eq_true, Bool.not_eq_true', Bool.and_eq_true, decide_eq_true_eq]
  cases r.enable with
  | false => simp
  | true =>
    simp only [Bool.true_eq_false, false_or, true_and]
    omega

theorem mem_allRegionIndexes (n : RegionIndex) : n ∈ allRegionIndexes := by fin_cases n <;> decide

theorem regionsOk_iff : allRegionIndexes.all (fun n => regionRangeOk (regionOf c n)) = true ↔ ¬∃ n, regionOutOfRange (regionOf c n) := by
  simp only [List.all_eq_true, ← regionRangeOk_eq_false_iff, not_exists, Bool.not_eq_false]
  exact ⟨fun h n => h n (mem_allRegionIndexes n), fun h n _ => h n⟩

/-- Two enabled regions with bytes meet exactly where they share one. -/
theorem someRegionsMeet_iff (h : ¬∃ n, regionOutOfRange (regionOf c n)) : someRegionsMeet c = true ↔ regionOverlap c := by
  have hlong (n : RegionIndex) (he : (regionOf c n).enable = true) : 1 ≤ (regionOf c n).length.toNat := by
    by_contra hshort
    exact h ⟨n, he, .inl (by bv_omega)⟩
  simp only [someRegionsMeet, List.any_eq_true, Bool.and_eq_true, decide_eq_true_eq, regionsMeet, rangesMeet_iff, regionOverlap, inRegion]
  constructor
  · rintro ⟨m, -, n, -, hmn, ⟨hem, hen⟩, hlo, hhi⟩
    have hm := hlong m hem
    have hn := hlong n hen
    refine ⟨m, n, max ((regionOf c m).globalBase.toNat * 256) ((regionOf c n).globalBase.toNat * 256), hmn, hem, hen, ?_, ?_⟩ <;> omega
  · rintro ⟨m, n, y, hmn, hem, hen, hy, hz⟩
    refine ⟨m, mem_allRegionIndexes m, n, mem_allRegionIndexes n, hmn, ⟨hem, hen⟩, ?_⟩
    omega

theorem judgeConfig_eq (c : ConfigRecord) [Decidable (stationUnset c)] [Decidable (timingRange c)]
    [Decidable (∃ n, regionOutOfRange (regionOf c n))] [Decidable (regionOverlap c)] :
    judgeConfig c =
      if stationUnset c then .stationUnset
      else if timingRange c then .timingRange
      else if ∃ n, regionOutOfRange (regionOf c n) then .regionRange
      else if regionOverlap c then .regionOverlap
      else .none := by
  by_cases hs : stationUnset c
  · rw [if_pos hs, judgeConfig, if_pos (by rw [validStation_eq_false_iff.mpr hs]; rfl)]
  rw [if_neg hs, judgeConfig, if_neg (by simpa [validStation_eq_false_iff] using hs)]
  by_cases ht : timingRange c
  · rw [if_pos ht, if_pos (by rw [timingOk_eq_false_iff.mpr ht]; rfl)]
  rw [if_neg ht, if_neg (by simpa [timingOk_eq_false_iff] using ht)]
  by_cases hr : ∃ n, regionOutOfRange (regionOf c n)
  · rw [if_pos hr, if_pos (by rw [Bool.not_eq_true', ← Bool.not_eq_true, regionsOk_iff]; exact not_not_intro hr)]
  rw [if_neg hr, if_neg (by simp only [Bool.not_eq_true', Bool.not_eq_false]; exact regionsOk_iff.mpr hr)]
  simp only [someRegionsMeet_iff hr]

/-- An event whose marks find nothing to mark. -/
theorem eventEnd_of_same (hp : t.peers = s.peers) (hd : t.dir.entries = s.dir.entries) : eventEnd s t = drainCheck t := by
  rw [eventEnd, peerEventEnd_of_same _ _ (by rw [hp]), directoryEventEnd, if_pos hd]

theorem drainCheck_of_not_leaving (hx : s.ctl.span ≠ .leaving) : drainCheck s = s := drainCheck_of_settled s (drainSettled_of_not_leaving hx)

/-- What an accepted JOIN leaves (R137). -/
def withListening (s : State) : State :=
  withFlag .span
    { s with
      ctl := { s.ctl with span := .listening, listenTimer := some (3 * s.ctl.config.hbInterval.toNat * 1000) }
      iface := { s.iface with fromOffline := s.iface.untaken } }

theorem startListening_eq (hx : s.ctl.span = .offline) : event startListening s = withListening s := by
  have hstart : startListening s = withListening s := by
    have hspan : (markWaiting (s.setCtl { s.ctl with listenTimer := some (listenTicks s.ctl.config) })).ctl.span ≠ .listening := by
      simp [markWaiting, hx]
    rw [startListening, setSpan, if_neg hspan]
    rfl
  rw [event, hstart, eventEnd_of_same (s := s) (t := withListening s) rfl rfl, drainCheck_of_not_leaving (by simp [withListening, withFlag])]

/-- Settles O41. -/
theorem joinIsJudgedAndStartsListening : Obligations.JoinIsJudgedAndStartsListening := by
  classical
  intro s hi hp c refused hset htime hrange hover
  have hjudge := judgeConfig_eq c
  have hrefused {r : RefusalCode} (ht : joinTaken s = refuseCommand (commandCode .join) r s) (hr : r ≠ .none) : refused r :=
    commandCycle_of_refused hi hp ht hr
  have hjudged {r : RefusalCode} (hx : s.ctl.span = .offline) (hc : judgeConfig c = r) (hr : r ≠ .none) : refused r := by
    refine hrefused ?_ hr
    rw [joinTaken, if_neg (by simp [hx]), if_pos (by rw [hc]; exact hr), hc]
  refine ⟨fun hx => hrefused (if_pos hx) (by decide), fun hx => ⟨fun h1 => ?_, fun h1 h2 => ?_, fun h1 h2 h3 => ?_, fun h1 h2 h3 h4 => ?_,
    fun h1 h2 h3 h4 => ?_⟩⟩
  · exact hjudged hx (hjudge.trans (if_pos h1)) (by decide)
  · exact hjudged hx (hjudge.trans ((if_neg h1).trans (if_pos h2))) (by decide)
  · exact hjudged hx (hjudge.trans ((if_neg h1).trans ((if_neg h2).trans (if_pos h3)))) (by decide)
  · exact hjudged hx (hjudge.trans ((if_neg h1).trans ((if_neg h2).trans ((if_neg h3).trans (if_pos h4))))) (by decide)
  · have hnone : judgeConfig c = .none := hjudge.trans ((if_neg h1).trans ((if_neg h2).trans ((if_neg h3).trans (if_neg h4))))
    refine (commandCycle_of_accepted hi hp (effect := event startListening) ?_).trans (by rw [startListening_eq hx]; rfl)
    rw [joinTaken, if_neg (by simp [hx]), if_neg (by simpa using hnone)]

/-! ### LEAVE and RESTART (R142, R146) -/

theorem cutTransmission_eq (c : ConfigRecord) (y : Transmission) :
    cutTransmission c y =
      if y.phase = .arbitrating ∨ y.phase = .sending then { y with phase := .breaking .cut, breakLength := 12 * c.bitDiv.toNat }
      else if y.phase = .breaking .failure then { y with phase := .breaking .failureThenOffline }
      else y := by
  unfold cutTransmission
  split
  next h => simp [h]
  next b hb h => simp [h, show b ≠ .failure from hb]
  next h1 h2 =>
    have hline : y.phase = .arbitrating ∨ y.phase = .sending := by
      cases hy : y.phase with
      | breaking b => exact absurd hy (h2 b)
      | _ => simp
    rw [if_pos hline]
    rfl

theorem event_enterOffline (hx : s.ctl.span ≠ .offline) :
    event enterOffline s =
      afterPurge .offline none { s with iface := { s.iface with tx := s.iface.tx.map (cutTransmission s.ctl.config) } } := by
  rw [event, enterOffline, if_neg hx]
  exact eventEnd_purge (s := cut s) hx (by simp) rfl rfl

theorem event_startLeaving (hx : s.ctl.span = .online) :
    event startLeaving s =
      drainCheck (withFlag .span { s with ctl := { s.ctl with span := .leaving, drainTimer := some 100000 } }) := by
  have hstart : startLeaving s = withFlag .span { s with ctl := { s.ctl with span := .leaving, drainTimer := some 100000 } } := by
    rw [startLeaving, setSpan, if_neg (by simp [hx])]
    rfl
  rw [event, hstart]
  exact eventEnd_of_same rfl rfl

/-- Settles O42. -/
theorem leaveAndRestart : Obligations.LeaveAndRestart := by
  intro s hi hk hp cut offline
  have hcut : cut = cutTransmission s.ctl.config := funext fun y => (cutTransmission_eq s.ctl.config y).symm
  have hoffline {taken : State → Taken} {k : HostCommand} (hx : s.ctl.span ≠ .offline)
      (ht : taken s = acceptCommand k (event enterOffline) s) :
      commandCycle hi taken s = .next
        (withCommand hi k .none (afterPurge .offline none { s with iface := { s.iface with tx := s.iface.tx.map cut } })) := by
    rw [commandCycle_of_accepted hi hp ht, event_enterOffline hx, hcut]
  refine ⟨fun hx => ?_, fun hx => hoffline (by rcases hx with hx | hx <;> simp [hx]) ?_, fun hx => ?_, fun hx => hoffline hx rfl, fun hx => ?_⟩
  · have htaken : leaveTaken s = acceptCommand .leave (event startLeaving) s := by simp only [leaveTaken, hx]
    exact (commandCycle_of_accepted hi hp htaken).trans (by rw [event_startLeaving hx])
  · rcases hx with hx | hx <;> simp only [leaveTaken, hx]
  · have htaken : leaveTaken s = refuseCommand (commandCode .leave) .wrongState s := by
      rcases hx with hx | hx | hx <;> simp only [leaveTaken, hx]
    exact commandCycle_of_refused hi hp htaken (by decide)
  · have hsame : event enterOffline s = s := by
      rw [event, enterOffline, if_pos hx, eventEnd_of_same rfl rfl, drainCheck_of_not_leaving (by simp [hx])]
    exact (commandCycle_of_accepted hi hp (effect := event enterOffline) rfl).trans (by rw [hsame])

/-! ### The clash report (R12, R140) -/

theorem exec_clashReport (hf : checkFrame bytes = some f) (hsrc : f.src = ownStation s) :
    exec (.clashReport bytes) s =
      .next (if s.port.resetLow = false ∧ takesValid f s = true then event (frameArrives bytes f) s else s) := by
  show execClashReport bytes s = _
  simp only [execClashReport, hf]
  rw [stationEvent_eq]
  simp [hsrc]

theorem exec_clashReport_kind (hf : checkFrame bytes = some f) (hsrc : f.src = ownStation s) {k : Kind} (hkind : bodyKind f.body = k) :
    exec (frameCommand k bytes) s = exec (.clashReport bytes) s := by
  have hno : framePastEnd f s = false := by simp [framePastEnd, hsrc]
  have hk : checkFrameOf k bytes = some f := checkFrameOf_iff.mpr ⟨hf, hkind⟩
  rw [exec_frameCommand, exec_clashReport hf hsrc, receiveKind, hk]
  simp only [hno, Bool.and_false, Bool.false_eq_true, if_false]
  exact stationEvent_eq (s := s) (takesValid f) (frameArrives bytes f)

theorem exec_clashReport_of_sending (hf : checkFrame bytes = some f) (hsrc : f.src = ownStation s) (htx : s.iface.tx ≠ none) :
    exec (.clashReport bytes) s = .next s := by
  have hno : ¬(s.port.resetLow = false ∧ takesValid f s = true) := by
    rintro ⟨-, h⟩
    simp [takesValid, hsrc, htx] at h
  rw [exec_clashReport hf hsrc, if_neg hno]

/-- A clash report that is taken, before what it does. -/
theorem exec_clashReport_of_taken (hf : checkFrame bytes = some f) (hsrc : f.src = ownStation s) (h : receivingFrame s)
    (htx : s.iface.tx = none) :
    exec (.clashReport bytes) s =
      .next (eventEnd s (if hearing s.ctl.span = true ∧ s.iface.fromOffline = false then enterStopped .clash (withFrame bytes s)
        else withFrame bytes s)) := by
  have htakes : takesValid f s = true := by simp [takesValid, takesFrame_of_receiving h, htx]
  have hsrc' : f.src = ownStation (withFrame bytes s) := hsrc
  have harrives : frameArrives bytes f s =
      if hearing s.ctl.span = true ∧ s.iface.fromOffline = false then enterStopped .clash (withFrame bytes s) else withFrame bytes s := by
    have hspan : (withFrame bytes s).ctl.span = s.ctl.span := rfl
    simp only [frameArrives, frameTaken_eq, if_pos hsrc', takeClash, hspan]
    by_cases hx : s.ctl.span = .stopped
    · rw [if_pos hx, if_neg (by simp [hx, hearing])]
    · rw [if_neg hx]
      cases s.iface.fromOffline <;> simp
  rw [exec_clashReport hf hsrc, if_pos ⟨h.1, htakes⟩, event, harrives]

theorem eventEnd_withFrame (bytes : List Byte) (s : State) : eventEnd s (withFrame bytes s) = drainCheck (withFrame bytes s) :=
  eventEnd_of_same rfl rfl

/-- Settles O28. -/
theorem clashStopsTheStation : Obligations.ClashStopsTheStation := by
  intro s bytes f hk hlow hf hsrc
  refine ⟨fun k hkind => exec_clashReport_kind hf hsrc hkind, fun h htx => ?_, fun hu htx hx hp hj hi => ?_,
    fun htx => exec_clashReport_of_sending hf hsrc htx⟩
  · rw [exec_clashReport_of_taken hf hsrc h htx]
    split
    next hc =>
      have hspan : (withFrame bytes s).ctl.span ≠ .stopped := fun hx => by
        have hx' : s.ctl.span = .stopped := hx
        simp [hx', hearing] at hc
      exact congrArg _ (eventEnd_purge hspan (by simp) rfl rfl)
    next =>
      rw [eventEnd_withFrame]
      exact congrArg _ (drainCheck_of_settled _ hk.drain)
  · have hwaits : receivingFrame s := ⟨hlow, .inr hu⟩
    have hjoin {v : State} (hv : v.ctl.span = .offline) (hjv : judgeConfig v.ctl.config = .none) (hpv : portReady v) :
        exec (.join hi) v = .next (withCommand hi .join .none (withListening v)) := by
      have htaken : joinTaken v = acceptCommand .join (event startListening) v := by
        rw [joinTaken, if_neg (by simp [hv]), if_neg (by simpa using hjv)]
      exact (commandCycle_of_accepted hi hpv htaken).trans (by rw [startListening_eq hv])
    refine ⟨withCommand hi .join .none (withListening s), withFrame bytes s, hjoin hx hj hp, ?_, ?_, ?_, rfl⟩
    · rw [exec_clashReport_of_taken hf hsrc hwaits htx, if_neg (by simp [hx, hearing]), eventEnd_withFrame]
      exact congrArg _ (drainCheck_of_settled _ hk.drain)
    · have hwaits' : receivingFrame (withCommand hi .join .none (withListening s)) := ⟨hlow, .inr hu⟩
      have hold : ¬(hearing (withCommand hi .join .none (withListening s)).ctl.span = true ∧
          (withCommand hi .join .none (withListening s)).iface.fromOffline = false) := by
        rintro ⟨-, h⟩
        have h' : s.iface.untaken = false := h
        simp [hu] at h'
      have hsrc' : f.src = ownStation (withCommand hi .join .none (withListening s)) := hsrc
      rw [exec_clashReport_of_taken hf hsrc' hwaits' htx, if_neg hold, eventEnd_withFrame]
      exact congrArg _ (drainCheck_of_not_leaving (by simp [withFrame, withCommand, withCycle, withListening, withFlag]))
    · rw [hjoin (v := withFrame bytes s) hx hj hp]
      have hidle : withFrame bytes s =
          { s with
            iface :=
              { s.iface with
                receiver := .idle, rxBuffer := bytes.take 42, rxCount := bytes.length, untaken := false, fromOffline := false } } := by
        rw [withFrame, if_pos htx]
      have hidle' : withFrame bytes (withCommand hi .join .none (withListening s)) =
          { withCommand hi .join .none (withListening s) with
            iface :=
              { s.iface with
                receiver := .idle, rxBuffer := bytes.take 42, rxCount := bytes.length, untaken := false, fromOffline := false } } := by
        have htx' : (withCommand hi .join .none (withListening s)).iface.tx = none := htx
        rw [withFrame, if_pos htx']
        rfl
      rw [hidle, hidle']
      rfl

end Sys2Proof.Machine


/-! ## Placing in the directory

The four outcomes of the placing tests, each with what it leaves (R25, R26). -/

namespace Sys2Proof.Machine

variable {s t u v : State} {e : DirEntry}

/-! ### The tests -/

theorem place_of_clear (h : ∀ g ∈ s.dir.entries, dirOverlaps e g = false) (hroom : s.dir.entries.length < 64) : place e s = insertEntry e s := by
  have hany : ¬s.dir.entries.any (dirOverlaps e) = true := by simpa using h
  have hjudge : judgePlacing e s.dir.entries = .insert := by
    rw [judgePlacing, if_neg hany]
    exact if_neg (Nat.not_le.mpr hroom)
  simp only [place, hjudge]

theorem place_of_full (h : ∀ g ∈ s.dir.entries, dirOverlaps e g = false) (hfull : 64 ≤ s.dir.entries.length) :
    place e s = withFlag .directory (withCount .refusedRegions 1 s) := by
  have hany : ¬s.dir.entries.any (dirOverlaps e) = true := by simpa using h
  have hjudge : judgePlacing e s.dir.entries = .capacity := by
    rw [judgePlacing, if_neg hany]
    exact if_pos hfull
  simp only [place, hjudge]
  rfl

theorem place_of_conflict (h : ∃ g ∈ s.dir.entries, dirOverlaps e g = true ∧ g.owner.toNat ≤ e.owner.toNat) : place e s = withConflict s := by
  obtain ⟨g, hg, hover, howner⟩ := h
  have hany : s.dir.entries.any (dirOverlaps e) = true := List.any_eq_true.mpr ⟨g, hg, hover⟩
  have hall : ¬(s.dir.entries.filter (dirOverlaps e)).all (fun g => decide (e.owner.toNat < g.owner.toNat)) = true := by
    simp only [List.all_eq_true, List.mem_filter, decide_eq_true_eq, not_forall]
    exact ⟨g, ⟨hg, hover⟩, by omega⟩
  have hjudge : judgePlacing e s.dir.entries = .conflict := by rw [judgePlacing, if_pos hany, if_neg hall]
  simp only [place, hjudge]
  rfl

theorem place_of_eviction (h : ∃ g ∈ s.dir.entries, dirOverlaps e g = true)
    (habove : ∀ g ∈ s.dir.entries, dirOverlaps e g = true → e.owner.toNat < g.owner.toNat) : place e s = insertEntry e (evictFor e s) := by
  have hany : s.dir.entries.any (dirOverlaps e) = true := List.any_eq_true.mpr h
  have hall : (s.dir.entries.filter (dirOverlaps e)).all (fun g => decide (e.owner.toNat < g.owner.toNat)) = true := by
    simpa only [List.all_eq_true, List.mem_filter, decide_eq_true_eq, and_imp] using habove
  have hjudge : judgePlacing e s.dir.entries = .evictAndInsert := by rw [judgePlacing, if_pos hany, if_pos hall]
  simp only [place, hjudge]

/-! ### Insertion and eviction -/

theorem directoryOrdered_insert (h : directoryOrdered s) (he : entryShape e) (hclear : ∀ g ∈ s.dir.entries, dirOverlaps e g = false) :
    directoryOrdered (insertEntry e s) := by
  refine ⟨fun g hg => ?_, insertByBase_apart he h.1 hclear h.2⟩
  obtain rfl | hg := List.mem_cons.mp ((insertByBase_perm e s.dir.entries).mem_iff.mp hg)
  · exact he
  · exact h.1 g hg

theorem directoryOrdered_filter (h : directoryOrdered s) {p : DirEntry → Bool} (ht : t.dir.entries = s.dir.entries.filter p) : directoryOrdered t :=
  ⟨fun g hg => h.1 g (List.mem_of_mem_filter (ht ▸ hg)), by rw [ht]; exact h.2.filter p⟩

/-- Evictions write the statuses, and ECLIPSE where an own entry is among them. -/
theorem evictions_eq (l : List DirEntry) (s : State) :
    l.foldl eclipseEvicted s =
      { s with
        dir := { s.dir with statuses := (l.foldl eclipseEvicted s).dir.statuses }
        ev := { s.ev with flags := { s.ev.flags with eclipse := s.ev.flags.eclipse || l.any (fun g => g.own.isSome) } } } := by
  induction l generalizing s with
  | nil => simp
  | cons g l ih =>
    rw [List.foldl_cons, ih]
    cases hg : g.own with
    | none => simp [eclipseEvicted, hg]
    | some n => simp [eclipseEvicted, hg, eclipse, raise, setFlag, setStatus, State.setEv, State.setDir]

theorem evictFor_eq (e : DirEntry) (s : State) :
    evictFor e s =
      { s with
        dir :=
          { s.dir with
            entries := s.dir.entries.filter (fun g => !dirOverlaps e g), statuses := (evictFor e s).dir.statuses }
        ev :=
          { s.ev with
            flags :=
              { s.ev.flags with
                conflict := true
                eclipse := s.ev.flags.eclipse || (s.dir.entries.filter (dirOverlaps e)).any (fun g => g.own.isSome) } } } :=
  evictions_eq _ _

/-- Settles O26. -/
theorem placingTests : Obligations.PlacingTests := by
  intro s e hs ho he met
  have hmet (g : DirEntry) : g ∈ met ↔ g ∈ s.dir.entries ∧ dirOverlaps e g = true := List.mem_filter
  split
  next hnone =>
    have hclear (g : DirEntry) (hg : g ∈ s.dir.entries) : dirOverlaps e g = false := by
      have hno := List.filter_eq_nil_iff.mp hnone g hg
      simpa using hno
    split
    next hfull => exact place_of_full hclear hfull
    next hroom =>
      exact ⟨_, place_of_clear hclear (by omega), insertByBase_perm e _, directoryOrdered_insert ho he hclear, rfl⟩
  next hsome =>
    obtain ⟨g, hg⟩ := List.exists_mem_of_ne_nil _ hsome
    split
    next hbelow =>
      obtain ⟨g, hg, howner⟩ := hbelow
      obtain ⟨hin, hover⟩ := (hmet g).mp hg
      exact place_of_conflict ⟨g, hin, hover, howner⟩
    next hnot =>
      have habove (g : DirEntry) (hin : g ∈ s.dir.entries) (hover : dirOverlaps e g = true) : e.owner.toNat < g.owner.toNat := by
        by_contra hle
        exact hnot ⟨g, (hmet g).mpr ⟨hin, hover⟩, by omega⟩
      have hkept : directoryOrdered (evictFor e s) := directoryOrdered_filter ho (evictFor_entries e s)
      have hperm : (insertEntry e (evictFor e s)).dir.entries.Perm (e :: s.dir.entries.filter (fun g => !dirOverlaps e g)) := by
        rw [← evictFor_entries e s]
        exact insertByBase_perm e _
      refine ⟨_, place_of_eviction ⟨g, (hmet g).mp hg⟩ habove, hperm, directoryOrdered_insert hkept he (evictFor_clear e s), fun n => ?_, ?_⟩
      · have hstatus : statusOf n (insertEntry e (evictFor e s)) = if ∃ g ∈ met, g.own = some n then .eclipsed else statusOf n s :=
          statusOf_evictFor n e hs.2.2.1
        exact ⟨fun hown => by rw [hstatus, if_pos hown], fun hnone => by rw [hstatus, if_neg (by simpa using hnone)]⟩
      · have hevicted := evictFor_eq e s
        have hgeneration : (evictFor e s).dir.generation = s.dir.generation := congrArg (fun u => u.dir.generation) hevicted
        refine (congrArg (fun u => u.setDir (insertEntry e (evictFor e s)).dir) hevicted).trans ?_
        simp only [insertEntry, State.setDir, hgeneration]
        rfl

end Sys2Proof.Machine


/-! ## The return of eclipsed regions (R31) -/

namespace Sys2Proof.Machine

variable {s t u v : State} {e : DirEntry}

/-! ### Own entries -/

/-- Enabled regions of an accepted configuration do not meet. -/
theorem ownEntries_apart (hj : judgeConfig s.ctl.config = .none) {m n : RegionIndex} (hmn : m ≠ n)
    (hm : (regionOf s.ctl.config m).enable = true) (hn : (regionOf s.ctl.config n).enable = true) :
    dirOverlaps (ownEntry m s) (ownEntry n s) = false := by
  have hnone : someRegionsMeet s.ctl.config = false := by
    rw [← Bool.not_eq_true]
    intro hmeet
    unfold judgeConfig at hj
    split at hj
    · cases hj
    split at hj
    · cases hj
    split at hj
    · cases hj
    cases hj
  have hpair := List.any_eq_false.mp (Bool.eq_false_iff.mpr (List.any_eq_false.mp hnone m (mem_allRegionIndexes m))) n (mem_allRegionIndexes n)
  have hranges : rangesMeet ((regionOf s.ctl.config m).globalBase.toNat * 256) (256 * (regionOf s.ctl.config m).length.toNat)
      ((regionOf s.ctl.config n).globalBase.toNat * 256) (256 * (regionOf s.ctl.config n).length.toNat) = false := by
    simpa [hmn, regionsMeet, hm, hn] using hpair
  exact hranges

theorem statuses_eq_map (h : s.dir.statuses.length = 4) : s.dir.statuses = allRegionIndexes.map (fun n => statusOf n s) := by
  obtain ⟨a, b, c, d, hl⟩ : ∃ a b c d, s.dir.statuses = [a, b, c, d] := by
    match hl : s.dir.statuses, h with
    | [a, b, c, d], _ => exact ⟨a, b, c, d, rfl⟩
  simp [statusOf, hl, allRegionIndexes]

/-! ### One region after the other -/

/-- The region's status and range let it return, room left aside. -/
def clearToReturn (s : State) (n : RegionIndex) : Bool :=
  decide (statusOf n s = .eclipsed) && s.dir.entries.all (fun e => !dirOverlaps (ownEntry n s) e)

/-- The state with these regions returned. -/
structure Returned (s : State) (back : List RegionIndex) (t : State) : Prop where
  entries : t.dir.entries.Perm (s.dir.entries ++ back.map (fun n => ownEntry n s))
  ordered : directoryOrdered t
  statuses : ∀ n, statusOf n t = if n ∈ back then .entered else statusOf n s
  sized : t.dir.statuses.length = 4
  rest : t =
    { s with
      dir := { t.dir with generation := s.dir.generation }
      ev := { s.ev with flags := { s.ev.flags with eclipse := s.ev.flags.eclipse || !back.isEmpty } } }

/-- The state in which region `n` has returned. -/
def returnedOne (n : RegionIndex) (s : State) : State := raise .eclipse (setStatus n .entered (insertEntry (ownEntry n s) s))

theorem returnRegion_of_clear {n : RegionIndex} (h : clearToReturn s n = true) (hroom : s.dir.entries.length < 64) :
    returnRegion s n = returnedOne n s := by
  simp only [clearToReturn, Bool.and_eq_true, decide_eq_true_eq, List.all_eq_true, Bool.not_eq_true'] at h
  have hany : s.dir.entries.any (dirOverlaps (ownEntry n s)) = false := List.any_eq_false.mpr fun g hg => by simp [h.2 g hg]
  refine if_pos ?_
  have hroom' : decide (s.dir.entries.length < Config.directoryCapacity) = true := decide_eq_true hroom
  rw [h.1, hany, hroom']
  rfl

theorem returnRegion_of_not {n : RegionIndex} (h : ¬(clearToReturn s n = true ∧ s.dir.entries.length < 64)) : returnRegion s n = s := by
  refine if_neg fun hc => h ?_
  obtain ⟨hc, hr⟩ := Bool.and_eq_true_iff.mp hc
  have hroom : s.dir.entries.length < Config.directoryCapacity := of_decide_eq_true hr
  simp only [Bool.and_eq_true, decide_eq_true_eq, Bool.not_eq_true', List.any_eq_false, Bool.not_eq_true] at hc
  obtain ⟨hs, ha⟩ := hc
  exact ⟨by simpa [clearToReturn, hs] using ha, hroom⟩

theorem statusOf_returnedOne (n m : RegionIndex) (hs : s.dir.statuses.length = 4) :
    statusOf m (returnedOne n s) = if m = n then .entered else statusOf m s :=
  statusOf_setStatus (s := insertEntry (ownEntry n s) s) m n .entered hs

theorem clearToReturn_returnedOne {m n : RegionIndex} (hj : judgeConfig s.ctl.config = .none) (hs : s.dir.statuses.length = 4)
    (hen : ∀ k, statusOf k s = .eclipsed → (regionOf s.ctl.config k).enable = true) (hn : clearToReturn s n = true) (hmn : m ≠ n) :
    clearToReturn (returnedOne n s) m = clearToReturn s m := by
  have hown : ownEntry m (returnedOne n s) = ownEntry m s := rfl
  have hperm : (returnedOne n s).dir.entries.Perm (ownEntry n s :: s.dir.entries) := insertByBase_perm _ _
  rw [clearToReturn, clearToReturn, statusOf_returnedOne n m hs, if_neg hmn, hown, hperm.all_eq, List.all_cons]
  by_cases he : statusOf m s = .eclipsed
  · have hn' : statusOf n s = .eclipsed := by
      simp only [clearToReturn, Bool.and_eq_true, decide_eq_true_eq] at hn
      exact hn.1
    simp [ownEntries_apart hj hmn (hen m he) (hen n hn')]
  · simp [he]

theorem foldl_returnRegion (l : List RegionIndex) (hl : l.Nodup) (ho : directoryOrdered s) (hs : s.dir.statuses.length = 4)
    (hj : judgeConfig s.ctl.config = .none)
    (hen : ∀ k, statusOf k s = .eclipsed → (regionOf s.ctl.config k).enable = true) :
    Returned s ((l.filter (clearToReturn s)).take (64 - s.dir.entries.length)) (l.foldl returnRegion s) := by
  induction l generalizing s with
  | nil => exact ⟨by simp, ho, by simp, hs, by simp⟩
  | cons n l ih =>
    obtain ⟨hnl, hl⟩ := List.nodup_cons.mp hl
    rw [List.foldl_cons]
    by_cases hn : clearToReturn s n = true ∧ s.dir.entries.length < 64
    · obtain ⟨hclear, hroom⟩ := hn
      have hclear' := hclear
      simp only [clearToReturn, Bool.and_eq_true, decide_eq_true_eq, List.all_eq_true, Bool.not_eq_true'] at hclear'
      obtain ⟨hstatus, hapart⟩ := hclear'
      have hlength : (returnedOne n s).dir.entries.length = s.dir.entries.length + 1 := (insertByBase_perm _ _).length_eq
      have hordered : directoryOrdered (returnedOne n s) :=
        directoryOrdered_insert ho (ownEntry_shape rfl hj (hen n hstatus)) hapart
      have hfilter : l.filter (clearToReturn (returnedOne n s)) = l.filter (clearToReturn s) :=
        List.filter_congr fun m hm => clearToReturn_returnedOne hj hs hen hclear fun hmn => hnl (hmn ▸ hm)
      have hrest := ih (s := returnedOne n s) hl hordered ((setStatus_statuses_length n .entered _).trans hs) hj fun k hk => by
        rw [statusOf_returnedOne n k hs] at hk
        split at hk
        · cases hk
        · exact hen k hk
      rw [returnRegion_of_clear hclear hroom, List.filter_cons_of_pos hclear]
      rw [hfilter, hlength] at hrest
      obtain ⟨k, hk⟩ : ∃ k, 64 - s.dir.entries.length = k + 1 := ⟨64 - (s.dir.entries.length + 1), by omega⟩
      rw [show 64 - (s.dir.entries.length + 1) = k by omega] at hrest
      rw [hk, List.take_succ_cons]
      refine ⟨?_, hrest.ordered, fun m => ?_, hrest.sized, ?_⟩
      · have hperm : (returnedOne n s).dir.entries.Perm (ownEntry n s :: s.dir.entries) := insertByBase_perm _ _
        refine hrest.entries.trans ((hperm.append_right _).trans ?_)
        exact List.perm_middle.symm
      · rw [hrest.statuses, statusOf_returnedOne n m hs]
        by_cases hmn : m = n
        · simp [hmn]
        · simp [hmn]
      · refine hrest.rest.trans ?_
        simp [returnedOne, raise, setFlag, setStatus, insertEntry, State.setEv, State.setDir]
    · rw [returnRegion_of_not hn]
      have hrest := ih hl ho hs hj hen
      have hback : ((n :: l).filter (clearToReturn s)).take (64 - s.dir.entries.length) =
          (l.filter (clearToReturn s)).take (64 - s.dir.entries.length) := by
        by_cases hclear : clearToReturn s n = true
        · have hfull : 64 - s.dir.entries.length = 0 := by
            have hno : ¬s.dir.entries.length < 64 := fun hroom => hn ⟨hclear, hroom⟩
            omega
          rw [hfull, List.take_zero, List.take_zero]
        · rw [List.filter_cons_of_neg hclear]
      rwa [hback]

/-- A region has returned exactly where the statuses have changed. -/
theorem Returned.moved {back : List RegionIndex} (h : Returned s back t) (hs : s.dir.statuses.length = 4)
    (hback : ∀ n ∈ back, statusOf n s = .eclipsed) : t.dir.statuses ≠ s.dir.statuses ↔ back ≠ [] := by
  refine not_congr ⟨fun hsame => ?_, fun hnil => ?_⟩
  · refine List.eq_nil_iff_forall_not_mem.mpr fun n hn => ?_
    have hstatus := h.statuses n
    rw [if_pos hn, statusOf_congr n hsame, hback n hn] at hstatus
    cases hstatus
  · rw [statuses_eq_map h.sized, statuses_eq_map hs]
    refine List.map_congr_left fun n _ => ?_
    rw [h.statuses n, hnil, if_neg List.not_mem_nil]

theorem returnRule_onSpan (hon : onSpan s.ctl.span = true) (hs : s.dir.statuses.length = 4) (ho : directoryOrdered s)
    (hj : judgeConfig s.ctl.config = .none) (hen : ∀ k, statusOf k s = .eclipsed → (regionOf s.ctl.config k).enable = true) :
    ∃ w, Returned s (returning s) w ∧
      returnRule s = if s.ctl.span = .online ∧ returning s ≠ [] then withAnnounceAsked w else w := by
  have hback : Returned s (returning s) (allRegionIndexes.foldl returnRegion s) := foldl_returnRegion allRegionIndexes (by decide) ho hs hj hen
  have heclipsed (n : RegionIndex) (hn : n ∈ returning s) : statusOf n s = .eclipsed := by
    have hclear := (List.mem_filter.mp (List.mem_of_mem_take hn)).2
    simp only [Bool.and_eq_true, decide_eq_true_eq] at hclear
    exact hclear.1
  have hspan : (allRegionIndexes.foldl returnRegion s).ctl.span = s.ctl.span := congrArg (fun u => u.ctl.span) hback.rest
  have hasked : (decide ((allRegionIndexes.foldl returnRegion s).ctl.span = .online) &&
      decide ((allRegionIndexes.foldl returnRegion s).dir.statuses ≠ s.dir.statuses)) = true ↔ s.ctl.span = .online ∧ returning s ≠ [] := by
    rw [Bool.and_eq_true, decide_eq_true_eq, decide_eq_true_eq, hspan, hback.moved hs heclipsed]
  refine ⟨_, hback, ?_⟩
  rw [returnRule, if_pos hon, requestIfReturned]
  simp only [hasked, requestAnnounce_eq]

/-- An eclipsed own region is an enabled one. -/
theorem enable_of_eclipsed (hown : ownRegionsRight s) {k : RegionIndex} (hk : statusOf k s = .eclipsed) :
    (regionOf s.ctl.config k).enable = true := by
  obtain ⟨-, hdisabled, -, -⟩ := hown
  by_contra hno
  have hdis := (hdisabled k).mpr (by simpa using hno)
  simp [hk] at hdis

theorem returnRule_enters_clear : Obligations.ReturnRule := by
  intro s hs ho hc hown
  split
  next hon =>
    have hj : judgeConfig s.ctl.config = .none := hc fun hoff => by simp [hoff, onSpan] at hon
    obtain ⟨w, hw, hrule⟩ := returnRule_onSpan hon hs.2.2.1 ho hj fun k hk => enable_of_eclipsed hown hk
    have hdir : (returnRule s).dir = w.dir := by
      rw [hrule]
      split <;> rfl
    refine ⟨_, rfl, ?_, ?_, fun n => ?_, ?_⟩
    · rw [hdir]
      exact hw.entries
    · unfold directoryOrdered
      rw [hdir]
      exact hw.ordered
    · rw [statusOf, hdir]
      exact hw.statuses n
    · rw [hdir, hrule]
      split
      · refine (congrArg withAnnounceAsked hw.rest).trans ?_
        rfl
      · exact hw.rest
  next hoff => exact if_neg hoff

end Sys2Proof.Machine

namespace Sys2Proof

/-- Settles O25. It stands outside the namespace of the model, whose function has this name. -/
theorem returnRule : Obligations.ReturnRule := Machine.returnRule_enters_clear

end Sys2Proof


/-! ## An ANNOUNCE is taken (R27)

The marks of the sender's record commute with all that the directory does, and the list is placed region by region. -/

namespace Sys2Proof.Machine

variable {s t u v : State} {e : DirEntry} {n : Station} {bytes : List Byte} {f : Frame}

/-! ### Operations that see no peer -/

/-- Such an operation leaves the peers, and commutes with every change of them and of PEER. -/
structure PeerBlind (g : State → State) : Prop where
  peers : ∀ v, (g v).peers = v.peers
  commutes : ∀ l b v, g (marked l b v) = marked l b (g v)

theorem PeerBlind.id : PeerBlind (fun v => v) := ⟨fun _ => rfl, fun _ _ _ => rfl⟩

theorem PeerBlind.comp {g h : State → State} (hg : PeerBlind g) (hh : PeerBlind h) : PeerBlind (fun v => h (g v)) where
  peers v := (hh.peers _).trans (hg.peers v)
  commutes l b v := by rw [hg.commutes, hh.commutes]

theorem PeerBlind.ite {p : State → Prop} [DecidablePred p] {g h : State → State} (hp : ∀ l b v, p (marked l b v) ↔ p v)
    (hg : PeerBlind g) (hh : PeerBlind h) : PeerBlind (fun v => if p v then g v else h v) where
  peers v := by split <;> [exact hg.peers v; exact hh.peers v]
  commutes l b v := by
    by_cases hv : p v
    · simp only [if_pos ((hp l b v).mpr hv), if_pos hv, hg.commutes]
    · simp only [if_neg (mt (hp l b v).mp hv), if_neg hv, hh.commutes]

theorem PeerBlind.foldl {α : Type} {g : State → α → State} (h : ∀ x, PeerBlind (fun v => g v x)) (l : List α) :
    PeerBlind (fun v => l.foldl g v) := by
  induction l with
  | nil => exact .id
  | cons x l ih => exact (h x).comp ih

theorem PeerBlind.withConflict : PeerBlind withConflict := ⟨fun _ => rfl, fun _ _ _ => rfl⟩

theorem PeerBlind.insertEntry (e : DirEntry) : PeerBlind (insertEntry e) := ⟨fun _ => rfl, fun _ _ _ => rfl⟩

theorem PeerBlind.eclipseEvicted (e : DirEntry) : PeerBlind (fun v => eclipseEvicted v e) := by
  unfold Machine.eclipseEvicted
  cases e.own with
  | none => exact .id
  | some n => exact ⟨fun _ => rfl, fun _ _ _ => rfl⟩

theorem PeerBlind.evictFor (e : DirEntry) : PeerBlind (evictFor e) where
  peers v := by
    rw [evictFor_eq]
  commutes l b v := (PeerBlind.foldl PeerBlind.eclipseEvicted (v.dir.entries.filter (dirOverlaps e))).commutes l b
    (raise .conflict (v.setDir { v.dir with entries := v.dir.entries.filter (fun g => !dirOverlaps e g) }))

theorem PeerBlind.place (e : DirEntry) : PeerBlind (place e) where
  peers v := by simp
  commutes l b v := by
    have hjudge : judgePlacing e (marked l b v).dir.entries = judgePlacing e v.dir.entries := rfl
    unfold Machine.place
    rw [hjudge]
    cases judgePlacing e v.dir.entries with
    | insert => exact (PeerBlind.insertEntry e).commutes l b v
    | evictAndInsert => exact ((PeerBlind.evictFor e).comp (.insertEntry e)).commutes l b v
    | conflict => rfl
    | capacity => rfl

theorem PeerBlind.returnRegion (k : RegionIndex) : PeerBlind (fun v => returnRegion v k) :=
  .ite (fun _ _ _ => Iff.rfl) ⟨fun _ => rfl, fun _ _ _ => rfl⟩ .id

theorem PeerBlind.withAnnounceAsked : PeerBlind withAnnounceAsked := ⟨fun _ => rfl, fun _ _ _ => rfl⟩

theorem PeerBlind.requestIfReturned (before : List OwnStatus) : PeerBlind (requestIfReturned before) := by
  unfold Machine.requestIfReturned
  have hsame : requestAnnounce = Machine.withAnnounceAsked := funext fun v => requestAnnounce_eq v
  rw [hsame]
  exact .ite (fun _ _ _ => Iff.rfl) .withAnnounceAsked .id

theorem PeerBlind.returnRule : PeerBlind returnRule where
  peers v := by simp
  commutes l b v := by
    unfold Machine.returnRule
    by_cases hon : onSpan v.ctl.span = true
    · rw [if_pos hon, if_pos (show onSpan (marked l b v).ctl.span = true from hon)]
      exact ((PeerBlind.foldl PeerBlind.returnRegion allRegionIndexes).comp (.requestIfReturned v.dir.statuses)).commutes l b v
    · rw [if_neg hon, if_neg (show ¬onSpan (marked l b v).ctl.span = true from hon)]

/-! ### The list (R25, R27) -/

/-- One region of the list, at its place. -/
def placeNext (new : List DirEntry) (v : State) (x : DirEntry × Nat) : State :=
  if meetsEarlier new x.2 x.1 = true then withConflict v else place x.1 v

theorem placeListed_eq (n : Station) (l : List RegionGroup) (earlier : List RegionGroup) (v : State) :
    placeListed n l (earlier.map (peerEntry n)).reverse v =
      ((l.map (peerEntry n)).zipIdx earlier.length).foldl (placeNext ((earlier ++ l).map (peerEntry n))) v := by
  induction l generalizing earlier v with
  | nil => rfl
  | cons g l ih =>
    have hmeets : meetsEarlier ((earlier ++ g :: l).map (peerEntry n)) earlier.length (peerEntry n g) =
        (earlier.map (peerEntry n)).reverse.any (dirOverlaps (peerEntry n g)) := by
      rw [meetsEarlier, List.map_append, List.take_left' (by simp), List.any_reverse]
    have hnext := ih (earlier ++ [g]) (if (earlier.map (peerEntry n)).reverse.any (dirOverlaps (peerEntry n g)) then refuseConflict v
      else place (peerEntry n g) v)
    rw [List.map_append, List.reverse_append, List.append_assoc, List.length_append] at hnext
    rw [placeListed]
    refine hnext.trans ?_
    rw [List.map_cons, List.zipIdx_cons, List.foldl_cons, placeNext]
    simp only [hmeets, refuseConflict_eq]
    rfl

theorem PeerBlind.placeNext (new : List DirEntry) (x : DirEntry × Nat) : PeerBlind (fun v => placeNext new v x) :=
  .ite (fun _ _ _ => Iff.rfl) .withConflict (.place x.1)

/-- What the directory and the selector do with the list `new` of a station whose entries have gone. -/
def announceTaken (fresh : Bool) (new : List DirEntry) (v : State) : State :=
  let placed := new.zipIdx.foldl (placeNext new) v
  if fresh = true ∧ v.ctl.span = .online then withAnnounceAsked (returnRule placed) else returnRule placed

theorem PeerBlind.announceTaken (fresh : Bool) (new : List DirEntry) : PeerBlind (announceTaken fresh new) :=
  .ite (fun _ _ _ => Iff.rfl) (((PeerBlind.foldl (PeerBlind.placeNext new) new.zipIdx).comp .returnRule).comp .withAnnounceAsked)
    ((PeerBlind.foldl (PeerBlind.placeNext new) new.zipIdx).comp .returnRule)

/-! ### The sender's record and entries (R122, R126, R27) -/

/-- The sender's record with its interval, and with no last applied sequence where the ANNOUNCE is fresh. -/
def announcedRecord (fresh : Bool) (interval : Byte) (r : PeerRecord) : PeerRecord :=
  { r with interval := some interval, lastApplied := if fresh = true then none else r.lastApplied }

/-- The record is written, and the sender's entries are gone. -/
def withSender (n : Station) (r : PeerRecord) (v : State) : State :=
  { v with
    peers := v.peers.set (n.toNat - 1) r
    dir := { v.dir with entries := v.dir.entries.filter (fun e => e.owner != n) } }

theorem takeSender_eq (hn : validStation n = true) (hs : v.peers.length = Config.peerRecords) (hx : hearing v.ctl.span = true) (fresh : Bool)
    (interval : Byte) :
    removeOwner n (if fresh = true then takeFresh n (takeInterval n interval v) else takeInterval n interval v) =
      withSender n (announcedRecord fresh interval (peerOf n v)) v := by
  have hinterval : takeInterval n interval v = v.setPeers (v.peers.set (n.toNat - 1) { peerOf n v with interval := some interval }) := by
    rw [takeInterval, if_pos hx, setPeer, if_pos hn]
  rw [hinterval]
  cases fresh with
  | false => rfl
  | true =>
    have hrecord := peerOf_set (t := v.setPeers (v.peers.set (n.toNat - 1) { peerOf n v with interval := some interval })) hn hs rfl
    have hx' : hearing (v.setPeers (v.peers.set (n.toNat - 1) { peerOf n v with interval := some interval })).ctl.span = true := hx
    rw [if_pos rfl, takeFresh, if_pos hx', setPeer, if_pos hn, hrecord, State.setPeers_peers, List.set_set]
    rfl

theorem takeAnnounce_eq (hn : validStation f.src = true) (hs : v.peers.length = Config.peerRecords) (hx : hearing v.ctl.span = true)
    (interval : Byte) (regions : List RegionGroup) :
    takeAnnounce f interval regions v =
      announceTaken f.fresh (regions.map (peerEntry f.src))
        (withSender f.src (announcedRecord f.fresh interval (peerOf f.src v)) v) := by
  have hctl : (if f.fresh = true then takeFresh f.src (takeInterval f.src interval v) else takeInterval f.src interval v).ctl = v.ctl := by
    split <;> simp
  have hx' : hearing (if f.fresh = true then takeFresh f.src (takeInterval f.src interval v) else takeInterval f.src interval v).ctl.span = true := by
    rw [hctl]
    exact hx
  have hplaced := placeListed_eq f.src regions [] (withSender f.src (announcedRecord f.fresh interval (peerOf f.src v)) v)
  simp only [List.map_nil, List.reverse_nil, List.length_nil, List.nil_append] at hplaced
  have hregions : takeRegions f.src regions
      (if f.fresh = true then takeFresh f.src (takeInterval f.src interval v) else takeInterval f.src interval v) =
      returnRule (((regions.map (peerEntry f.src)).zipIdx).foldl (placeNext (regions.map (peerEntry f.src)))
        (withSender f.src (announcedRecord f.fresh interval (peerOf f.src v)) v)) := by
    rw [takeRegions, if_pos hx', takeSender_eq hn hs hx, hplaced]
  have hspan := congrArg (fun u => u.ctl.span) hregions
  simp only [takeRegions_frame, hctl] at hspan
  rw [takeAnnounce]
  simp only [hregions, requestAnnounce_eq, ← hspan, Bool.and_eq_true, decide_eq_true_eq]
  rfl

/-! ### The event -/

theorem placeNext_frame (new : List DirEntry) (l : List (DirEntry × Nat)) (v : State) :
    (l.foldl (placeNext new) v).ctl = v.ctl ∧ (l.foldl (placeNext new) v).reads = v.reads ∧ (l.foldl (placeNext new) v).writes = v.writes ∧
      (l.foldl (placeNext new) v).sel = v.sel := by
  have h := foldl_keeps (placeNext new) (fun t => (t.ctl, t.reads, t.writes, t.sel))
    (fun v x => by
      unfold placeNext
      split
      · rfl
      · simp) l v
  simpa only [Prod.mk.injEq] using h

/-- Outside ONLINE nothing that a drain reads is touched. -/
theorem announceTaken_of_not_online (hx : v.ctl.span ≠ .online) (fresh : Bool) (new : List DirEntry) :
    (announceTaken fresh new v).ctl = v.ctl ∧ (announceTaken fresh new v).reads = v.reads ∧ (announceTaken fresh new v).writes = v.writes ∧
      (announceTaken fresh new v).sel = v.sel := by
  obtain ⟨hctl, hreads, hwrites, hsel⟩ := placeNext_frame new new.zipIdx v
  have hasked : ¬(fresh = true ∧ v.ctl.span = .online) := fun h => hx h.2
  have hrule := (returnRule_sel (new.zipIdx.foldl (placeNext new) v)).2 (by rwa [hctl])
  simp only [announceTaken, if_neg hasked, returnRule_frame, hctl, hreads, hwrites, hrule, hsel, and_self]

theorem announceTaken_span (fresh : Bool) (new : List DirEntry) : (announceTaken fresh new v).ctl = v.ctl := by
  have hctl := (placeNext_frame new new.zipIdx v).1
  unfold announceTaken
  split
  · show (returnRule _).ctl = _
    simp [hctl]
  · simp [hctl]

theorem drainSettled_withContentMarked (before : List DirEntry) (h : drainSettled v) : drainSettled (withContentMarked before v) := by
  unfold withContentMarked
  split <;> exact h

theorem WellKept.exec_announce {interval : Byte} {regions : List RegionGroup} (hk : WellKept s) (h : arrivesHere .announce bytes f s)
    (hbody : f.body = .announce interval regions) (hx : hearing s.ctl.span = true) :
    exec (.announce bytes) s = .next (withContentMarked s.dir.entries (announceTaken f.fresh (regions.map (peerEntry f.src))
      (withSender f.src (announcedRecord f.fresh interval (peerOf f.src (arrived bytes f s))) (arrived bytes f s)))) := by
  obtain ⟨hrec, hf, hstop, hsrc, hdest⟩ := id h
  have hn : validStation f.src = true := checkFrame_src (frameCommand_of_checkFrameOf hf).1
  have hs := hk.sized.1
  have hctl : (taken bytes f s).ctl = s.ctl := (taken_frame bytes f s).2.2.2.2.2.2.1
  have hheard := taken_of_hearing (bytes := bytes) hx hn
  have hlength : (taken bytes f s).peers.length = Config.peerRecords := (taken_peers_length bytes f s).trans hs
  have hrecord : peerOf f.src (taken bytes f s) = { peerOf f.src s with presence := .present, heardAgo := 0 } :=
    peerOf_set hn hs (by rw [hheard])
  have hrecord' : peerOf f.src (arrived bytes f s) = _ := peerOf_set hn hs (by rw [arrived_of_hearing hx])
  have hcontent : frameArrives bytes f s = announceTaken f.fresh (regions.map (peerEntry f.src))
      (withSender f.src (announcedRecord f.fresh interval (peerOf f.src (taken bytes f s))) (taken bytes f s)) := by
    rw [frameArrives_eq hstop hsrc, if_pos hdest]
    simp only [frameContent, hbody]
    exact takeAnnounce_eq hn hlength (by rw [hctl]; exact hx) interval regions
  have hpeers : (withSender f.src (announcedRecord f.fresh interval (peerOf f.src (taken bytes f s))) (taken bytes f s)).peers =
      s.peers.set (f.src.toNat - 1) (announcedRecord f.fresh interval { peerOf f.src s with presence := .present, heardAgo := 0 }) := by
    rw [withSender, hrecord, hheard, List.set_set]
  have hblind := PeerBlind.announceTaken f.fresh (regions.map (peerEntry f.src))
  have hmarked : peerEventEnd s.peers (frameArrives bytes f s) = announceTaken f.fresh (regions.map (peerEntry f.src))
      (withSender f.src (announcedRecord f.fresh interval (peerOf f.src (arrived bytes f s))) (arrived bytes f s)) := by
    have hmark := markChanged_eq (peerOf f.src s)
      (announcedRecord f.fresh interval { peerOf f.src s with presence := .present, heardAgo := 0 }) rfl
    rw [hcontent, peerEventEnd_of_set hn hs ((hblind.peers _).trans hpeers), hmark, ← hblind.commutes, hrecord, hrecord', hheard,
      arrived_of_hearing hx]
    simp only [withSender, marked, List.set_set]
    rfl
  refine (hk.exec_frame (k := .announce) hrec hf hsrc).trans (congrArg _ ?_)
  rw [event, eventEnd, hmarked, directoryEventEnd_eq]
  refine drainCheck_of_settled _ (drainSettled_withContentMarked s.dir.entries ?_)
  have hspan := announceTaken_span (v := withSender f.src (announcedRecord f.fresh interval (peerOf f.src (arrived bytes f s))) (arrived bytes f s))
    f.fresh (regions.map (peerEntry f.src))
  obtain ⟨hsel, -, hreads, hwrites, -, -, hctl'⟩ := arrived_frame bytes f s
  by_cases hleaving : s.ctl.span = .leaving
  · obtain ⟨hctl'', hreads', hwrites', hsel'⟩ := announceTaken_of_not_online
      (v := withSender f.src (announcedRecord f.fresh interval (peerOf f.src (arrived bytes f s))) (arrived bytes f s))
      (by simp [withSender, hctl', hleaving]) f.fresh (regions.map (peerEntry f.src))
    have hsettled := hk.drainSettled_arrived bytes f
    refine drainSettled_of_same hsettled (by rw [hctl'']; exact ⟨rfl, rfl⟩) (by rw [hsel']; rfl) fun _ hd => ?_
    simp only [drained, hreads', hwrites'] at hd
    exact hd
  · refine drainSettled_of_not_leaving ?_
    rw [hspan]
    simpa [withSender, hctl'] using hleaving

end Sys2Proof.Machine


/-! ## The list of an ANNOUNCE that finds its ranges clear -/

namespace Sys2Proof.Machine

variable {s t u v : State} {e : DirEntry} {n : Station} {bytes : List Byte} {f : Frame} {new others kept : List DirEntry}

/-! ### Counters -/

theorem satAdd_zero (c : Word) : satAdd c 0 = c := by
  have := c.isLt
  refine BitVec.eq_of_toNat_eq ?_
  simp only [satAdd, BitVec.toNat_ofNat]
  omega

theorem satAdd_satAdd (c : Word) (a b : Nat) : satAdd (satAdd c a) b = satAdd c (a + b) := by
  have := c.isLt
  refine BitVec.eq_of_toNat_eq ?_
  simp only [satAdd, BitVec.toNat_ofNat]
  omega

theorem addCounter_zero (c : Counters) (k : Counter) : addCounter c k 0 = c := by
  cases k <;> simp [addCounter, satAdd_zero]

theorem addCounter_addCounter (c : Counters) (k : Counter) (a b : Nat) : addCounter (addCounter c k a) k b = addCounter c k (a + b) := by
  cases k <;> simp [addCounter, satAdd_satAdd]

/-! ### Region after region -/

/-- The entries of the list that meet none before them. -/
def keptIn (new : List DirEntry) (l : List (DirEntry × Nat)) : List DirEntry := (l.filter (fun x => !meetsEarlier new x.2 x.1)).map (·.1)

theorem keptIn_append (new : List DirEntry) (l m : List (DirEntry × Nat)) : keptIn new (l ++ m) = keptIn new l ++ keptIn new m := by
  simp [keptIn]

/-- The base state with `kept` entered beside `others`, and `refused` regions refused for conflict. -/
structure ListPlaced (base : State) (others kept : List DirEntry) (refused : Nat) (t : State) : Prop where
  entries : t.dir.entries.Perm (others ++ kept)
  ordered : directoryOrdered t
  rest : t =
    { base with
      dir := { base.dir with entries := t.dir.entries }
      ev :=
        { base.ev with
          counters := addCounter base.ev.counters .refusedRegions refused
          flags := { base.ev.flags with conflict := base.ev.flags.conflict || decide (0 < refused) } } }

theorem ListPlaced.refuse {m : Nat} (h : ListPlaced s others kept m v) : ListPlaced s others kept (m + 1) (withConflict v) := by
  refine ⟨h.entries, h.ordered, ?_⟩
  refine (congrArg withConflict h.rest).trans ?_
  simp only [withConflict, withFlag, withCount, addCounter_addCounter, setFlag]
  simp

theorem ListPlaced.enter {m : Nat} (h : ListPlaced s others kept m v) (he : entryShape e) (hclear : ∀ g ∈ others ++ kept, dirOverlaps e g = false)
    (hroom : (others ++ kept).length < 64) : ListPlaced s others (kept ++ [e]) m (place e v) := by
  have hclear' (g : DirEntry) (hg : g ∈ v.dir.entries) : dirOverlaps e g = false := hclear g (h.entries.mem_iff.mp hg)
  rw [place_of_clear hclear' (by rwa [h.entries.length_eq])]
  refine ⟨?_, directoryOrdered_insert h.ordered he hclear', ?_⟩
  · refine (insertByBase_perm e _).trans ((h.entries.cons e).trans ?_)
    rw [← List.append_assoc]
    exact (List.perm_append_singleton e _).symm
  · exact (congrArg (fun u : State => { u with dir := { u.dir with entries := insertByBase e v.dir.entries } }) h.rest).trans rfl

theorem ListPlaced.foldl (hshape : ∀ g ∈ new, entryShape g) (hothers : ∀ e ∈ keptIn new new.zipIdx, ∀ g ∈ others, dirOverlaps e g = false)
    (hroom : others.length + (keptIn new new.zipIdx).length ≤ 64) (l : List DirEntry) :
    ∀ (pre : List DirEntry) (v : State), new = pre ++ l →
      ListPlaced s others (keptIn new pre.zipIdx) (pre.length - (keptIn new pre.zipIdx).length) v →
      ListPlaced s others (keptIn new new.zipIdx) (new.length - (keptIn new new.zipIdx).length)
        ((l.zipIdx pre.length).foldl (placeNext new) v) := by
  induction l with
  | nil =>
    intro pre v hnew h
    obtain rfl : new = pre := by simpa using hnew
    exact h
  | cons e l ih =>
    intro pre v hnew h
    have hnew' : new = (pre ++ [e]) ++ l := by simpa using hnew
    have hzip : (pre ++ [e]).zipIdx = pre.zipIdx ++ [(e, pre.length)] := by simp [List.zipIdx_append]
    have hearlier : meetsEarlier new pre.length e = pre.any (dirOverlaps e) := by
      rw [meetsEarlier, hnew, List.take_left]
    have hfew : (keptIn new pre.zipIdx).length ≤ pre.length := by
      simpa [keptIn] using List.length_filter_le _ pre.zipIdx
    rw [List.zipIdx_cons, List.foldl_cons]
    have hnext := ih (pre ++ [e]) (placeNext new v (e, pre.length)) hnew'
    rw [List.length_append, List.length_singleton, hzip, keptIn_append] at hnext
    refine hnext ?_
    by_cases hmeets : pre.any (dirOverlaps e) = true
    · have hnone : keptIn new [(e, pre.length)] = [] := by simp [keptIn, hearlier, hmeets]
      rw [placeNext, if_pos (hearlier.trans hmeets), hnone, List.append_nil, Nat.sub_add_comm hfew]
      exact h.refuse
    · have hone : keptIn new [(e, pre.length)] = [e] := by simp [keptIn, hearlier, hmeets]
      have hall : keptIn new new.zipIdx = keptIn new pre.zipIdx ++ ([e] ++ keptIn new (l.zipIdx (pre.length + 1))) := by
        conv_lhs => rw [hnew', List.zipIdx_append, hzip, ← hnew', keptIn_append, keptIn_append, hone]
        simp
      rw [placeNext, if_neg (by rw [hearlier]; exact hmeets), hone, List.length_append, List.length_singleton, Nat.add_sub_add_right]
      refine h.enter (hshape e (by simp [hnew])) (fun g hg => ?_) ?_
      · obtain hg | hg := List.mem_append.mp hg
        · exact hothers e (by simp [hall]) g hg
        · have hpre : g ∈ pre := by
            obtain ⟨x, hx, rfl⟩ := List.mem_map.mp hg
            exact List.fst_mem_of_mem_zipIdx (List.mem_of_mem_filter hx)
          simpa using List.any_eq_false.mp (Bool.eq_false_iff.mpr hmeets) g hpre
      · rw [hall] at hroom
        simp only [List.length_append, List.length_singleton] at hroom ⊢
        omega

/-- Settles O24. -/
theorem announceReplacesTheSendersRegions : Obligations.AnnounceReplacesTheSendersRegions := by
  intro s bytes f interval regions hk h hbody hx u others new kept taken placed asked
  have hctl : u.ctl = s.ctl := (arrived_frame bytes f s).2.2.2.2.2.2
  have hdir : u.dir = s.dir := (arrived_frame bytes f s).2.1
  have hn : validStation f.src = true := checkFrame_src (frameCommand_of_checkFrameOf h.2.1).1
  have hbase : withSender f.src (announcedRecord f.fresh interval (peerOf f.src u)) u = taken := by
    rw [withSender, hdir]
    rfl
  have hasked : announceTaken f.fresh new taken = asked := by
    have hspan : taken.ctl.span = s.ctl.span := by rw [← hctl]
    simp only [announceTaken, hspan]
    rfl
  refine ⟨?_, fun hclear hroom => ?_⟩
  · rw [hk.exec_announce h hbody hx, hbase, hasked]
  · have hshape (g : DirEntry) (hg : g ∈ new) : entryShape g := by
      obtain ⟨r, hr, rfl⟩ := List.mem_map.mp hg
      exact peerEntry_shape hn (checkFrame_regions (frameCommand_of_checkFrameOf h.2.1).1 hbody r hr)
    have hstart : ListPlaced taken others (keptIn new ([] : List DirEntry).zipIdx)
        (([] : List DirEntry).length - (keptIn new ([] : List DirEntry).zipIdx).length) taken := by
      refine ⟨by simp [keptIn, taken], directoryOrdered_filter hk.directory rfl, ?_⟩
      simp [addCounter_zero, keptIn]
    have hplaced := ListPlaced.foldl hshape hclear hroom new [] taken (by simp) hstart
    refine ⟨hplaced.entries, hplaced.ordered, hplaced.rest.trans ?_⟩
    have hfew : 0 < new.length - kept.length ↔ kept.length < new.length := Nat.sub_pos_iff_lt
    show _ = ({ taken with dir := _, ev := _ } : State)
    simp only [← hfew]
    rfl

end Sys2Proof.Machine


/-! ## The listen period ends (R24, R138)

The enabled regions are placed one after the other. `Published` says what stands after some of them; each of the four outcomes of the
placing tests keeps it. -/

namespace Sys2Proof.Machine

variable {s t u v base : State} {e : DirEntry} {n : RegionIndex} {done : List RegionIndex}

/-! ### One region -/

theorem mem_place_of_enters (h : entersDirectory (judgePlacing e s.dir.entries) = true) : e ∈ (place e s).dir.entries := by
  unfold place
  cases hj : judgePlacing e s.dir.entries with
  | insert => exact (insertByBase_perm e _).mem_iff.mpr List.mem_cons_self
  | evictAndInsert => exact (insertByBase_perm e _).mem_iff.mpr List.mem_cons_self
  | _ => simp [hj, entersDirectory] at h

theorem place_entries_of_refused (h : ¬entersDirectory (judgePlacing e s.dir.entries) = true) : (place e s).dir.entries = s.dir.entries := by
  unfold place
  cases hj : judgePlacing e s.dir.entries with
  | conflict => rfl
  | capacity => rfl
  | _ => simp [hj, entersDirectory] at h

theorem placeOwn_eq_withPublished (hstatus : statusOf n s = .notPublished) (hno : ownEntry n s ∉ s.dir.entries) :
    placeOwn s n = withPublished s n := by
  rw [placeOwn, if_pos hstatus]
  by_cases h : entersDirectory (judgePlacing (ownEntry n s) s.dir.entries) = true
  · rw [if_pos h]
    exact (if_pos (mem_place_of_enters h)).symm
  · rw [if_neg h]
    exact (if_neg (by rwa [place_entries_of_refused h])).symm

theorem withPublished_of_mem (h : ownEntry n s ∈ (place (ownEntry n s) s).dir.entries) :
    withPublished s n = setStatus n .entered (place (ownEntry n s) s) := if_pos h

theorem withPublished_of_not_mem (h : ownEntry n s ∉ (place (ownEntry n s) s).dir.entries) :
    withPublished s n = eclipse n (place (ownEntry n s) s) := if_neg h

/-! ### What stands after some regions -/

/-- The directory of a station that has not yet published its regions: every entry is another station's. -/
structure Unpublished (s : State) : Prop where
  judged : judgeConfig s.ctl.config = .none
  ordered : directoryOrdered s
  sized : s.dir.statuses.length = 4
  foreign : ∀ e ∈ s.dir.entries, e.own = none
  enabled : ∀ n, (regionOf s.ctl.config n).enable = true → statusOf n s = .notPublished
  disabled : ∀ n, (regionOf s.ctl.config n).enable = false → statusOf n s = .disabled

/-- Some entry meets region `n`. -/
def regionMeets (s : State) (n : RegionIndex) : Bool := s.dir.entries.any (dirOverlaps (ownEntry n s))

/-- The regions `done` of the station `base` have been placed. -/
structure Published (base : State) (done : List RegionIndex) (v : State) : Prop where
  ordered : directoryOrdered v
  sized : v.dir.statuses.length = 4
  placed : ∀ n ∈ done, statusOf n v = .entered ∧ ownEntry n base ∈ v.dir.entries ∨ statusOf n v = .eclipsed
  others : ∀ n, n ∉ done → statusOf n v = statusOf n base
  entries : ∀ e ∈ v.dir.entries, e ∈ base.dir.entries ∨ ∃ n ∈ done, e = ownEntry n base
  stays : ∀ e ∈ base.dir.entries,
    (e.owner.toNat ≤ (ownStation base).toNat ∨ ∀ n ∈ done, dirOverlaps (ownEntry n base) e = false) → e ∈ v.dir.entries
  few : v.dir.entries.length ≤ base.dir.entries.length + done.length
  enters : ∀ n ∈ done, base.dir.entries.length < 61 →
    (∀ e ∈ base.dir.entries, dirOverlaps (ownEntry n base) e = true → (ownStation base).toNat < e.owner.toNat) → statusOf n v = .entered
  rest : v = { base with dir := { v.dir with generation := base.dir.generation }, ev := v.ev }
  events : v.ev =
    { base.ev with
      counters := addCounter base.ev.counters .refusedRegions (done.filter (fun n => decide (statusOf n v = .eclipsed))).length
      flags :=
        { base.ev.flags with
          directory := v.ev.flags.directory
          conflict := base.ev.flags.conflict || done.any (regionMeets base)
          eclipse := base.ev.flags.eclipse || done.any (fun n => decide (statusOf n v = .eclipsed)) } }

theorem Published.nil (h : Unpublished base) : Published base [] base where
  ordered := h.ordered
  sized := h.sized
  placed := by simp
  others _ _ := rfl
  entries _ he := .inl he
  stays _ he _ := he
  few := by simp
  enters := by simp
  rest := rfl
  events := by simp [addCounter_zero]

/-- What the next region changes in the record of what stands. -/
theorem Published.next (h : Published base done v) (hn : n ∉ done)
    (hapart : ∀ m ∈ done, dirOverlaps (ownEntry n base) (ownEntry m base) = false) {status : OwnStatus} {refused : Nat}
    (hstatus : status = .entered ∧ ownEntry n base ∈ t.dir.entries ∧ refused = 0 ∨ status = .eclipsed ∧ refused = 1)
    (hordered : directoryOrdered t) (hstatuses : t.dir.statuses = v.dir.statuses.set n.toNat status)
    (hentries : ∀ e ∈ t.dir.entries, e ∈ v.dir.entries ∨ e = ownEntry n base)
    (hstays : ∀ e ∈ v.dir.entries, e.owner.toNat ≤ (ownStation base).toNat ∨ dirOverlaps (ownEntry n base) e = false → e ∈ t.dir.entries)
    (hfew : t.dir.entries.length ≤ v.dir.entries.length + 1)
    (henters : base.dir.entries.length < 61 →
      (∀ e ∈ base.dir.entries, dirOverlaps (ownEntry n base) e = true → (ownStation base).toNat < e.owner.toNat) → status = .entered)
    (hrest : t = { v with dir := { t.dir with generation := v.dir.generation }, ev := t.ev })
    (hevents : t.ev =
      { v.ev with
        counters := addCounter v.ev.counters .refusedRegions refused
        flags :=
          { v.ev.flags with
            directory := t.ev.flags.directory
            conflict := v.ev.flags.conflict || regionMeets base n
            eclipse := v.ev.flags.eclipse || decide (status = .eclipsed) } }) :
    Published base (done ++ [n]) t := by
  have hat (m : RegionIndex) : statusOf m t = if m = n then status else statusOf m v := by
    rw [← statusOf_setStatus m n status h.sized]
    exact statusOf_congr m hstatuses
  have hself : statusOf n t = status := by rw [hat, if_pos rfl]
  have hother {m : RegionIndex} (hm : m ∈ done) : statusOf m t = statusOf m v := by
    rw [hat, if_neg]
    rintro rfl
    exact hn hm
  refine ⟨hordered, by rw [hstatuses, List.length_set, h.sized], ?_, ?_, ?_, ?_, ?_, ?_, ?_, ?_⟩
  · intro m hm
    obtain hm | hm := List.mem_append.mp hm
    · rw [hother hm]
      exact (h.placed m hm).imp_left fun ⟨hs, he⟩ => ⟨hs, hstays _ he (.inr (hapart m hm))⟩
    · obtain rfl := List.mem_singleton.mp hm
      rw [hself]
      exact hstatus.imp (fun ⟨hs, he, _⟩ => ⟨hs, he⟩) (·.1)
  · intro m hm
    rw [List.mem_append, not_or, List.mem_singleton] at hm
    rw [hat, if_neg hm.2, h.others m hm.1]
  · intro e he
    obtain he | rfl := hentries e he
    · exact (h.entries e he).imp_right fun ⟨m, hm, hme⟩ => ⟨m, List.mem_append_left _ hm, hme⟩
    · exact .inr ⟨n, by simp, rfl⟩
  · intro e he hkept
    refine hstays e (h.stays e he ?_) ?_
    · exact hkept.imp_right fun hall m hm => hall m (List.mem_append_left _ hm)
    · exact hkept.imp_right fun hall => hall n (by simp)
  · rw [List.length_append, List.length_singleton]
    have := h.few
    omega
  · intro m hm hlen habove
    obtain hm | hm := List.mem_append.mp hm
    · rw [hother hm]
      exact h.enters m hm hlen habove
    · obtain rfl := List.mem_singleton.mp hm
      rw [hself]
      exact henters hlen habove
  · refine hrest.trans ?_
    rw [h.rest]
  · have hcount : ((done ++ [n]).filter (fun m => decide (statusOf m t = .eclipsed))).length =
        (done.filter (fun m => decide (statusOf m v = .eclipsed))).length + refused := by
      rw [List.filter_append, List.length_append, List.filter_congr fun m hm => by rw [hother hm]]
      rcases hstatus with ⟨hs, -, hr⟩ | ⟨hs, hr⟩ <;> simp [hself, hs, hr]
    have heclipse : (done ++ [n]).any (fun m => decide (statusOf m t = .eclipsed)) =
        (done.any (fun m => decide (statusOf m v = .eclipsed)) || decide (status = .eclipsed)) := by
      rw [List.any_append, ← hself]
      congr 1
      · rw [Bool.eq_iff_iff, List.any_eq_true, List.any_eq_true]
        exact exists_congr fun m => and_congr_right fun hm => by rw [hother hm]
      · simp
    rw [hevents, hcount, heclipse, h.events]
    simp [addCounter_addCounter, Bool.or_assoc]

/-! ### The next region, by the placing tests -/

theorem Published.ownEntry_eq (h : Published base done v) (m : RegionIndex) : ownEntry m v = ownEntry m base :=
  ownEntry_congr m (congrArg (fun u => u.ctl.config) h.rest)

/-- What the region meets is another station's, and stood there before. -/
theorem Published.met (h : Published base done v) (hapart : ∀ m ∈ done, dirOverlaps (ownEntry n base) (ownEntry m base) = false)
    (he : e ∈ v.dir.entries) (hover : dirOverlaps (ownEntry n base) e = true) : e ∈ base.dir.entries := by
  refine (h.entries e he).resolve_right ?_
  rintro ⟨m, hm, rfl⟩
  simp [hapart m hm] at hover

theorem Published.notEntered (h : Published base done v) (hb : Unpublished base) (hn : n ∉ done) : ownEntry n base ∉ v.dir.entries := by
  intro he
  obtain he | ⟨m, hm, he⟩ := h.entries _ he
  · cases hb.foreign _ he
  · have hmn : n = m := Option.some.inj (congrArg DirEntry.own he)
    exact hn (hmn ▸ hm)

/-- Where an entry that the region would have met is gone, a region before it has met it. -/
theorem Published.conflict_of_clear (h : Published base done v) (hclear : ∀ g ∈ v.dir.entries, dirOverlaps (ownEntry n base) g = false)
    (hmeets : regionMeets base n = true) : v.ev.flags.conflict = true := by
  obtain ⟨g, hg, hover⟩ := List.any_eq_true.mp hmeets
  have hgone : ¬∀ m ∈ done, dirOverlaps (ownEntry m base) g = false := fun hall => by
    simp [hclear g (h.stays g hg (.inr hall))] at hover
  obtain ⟨m, hm⟩ := not_forall.mp hgone
  obtain ⟨hm, hmet⟩ := Classical.not_imp.mp hm
  have hany : done.any (regionMeets base) = true := List.any_eq_true.mpr ⟨m, hm, List.any_eq_true.mpr ⟨g, hg, by simpa using hmet⟩⟩
  rw [h.events]
  simp [hany]

theorem conflict_or_of_imp {b c : Bool} (h : c = true → b = true) : (b || c) = b := by cases b <;> cases c <;> simp_all

theorem evictions_of_foreign {l : List DirEntry} (h : ∀ g ∈ l, g.own = none) (s : State) : l.foldl eclipseEvicted s = s := by
  induction l with
  | nil => rfl
  | cons g l ih =>
    have hg : eclipseEvicted s g = s := by simp [eclipseEvicted, h g List.mem_cons_self]
    rw [List.foldl_cons, hg, ih fun x hx => h x (List.mem_cons_of_mem g hx)]

section Step

variable (h : Published base done v) (hb : Unpublished base) (hn : n ∉ done)
  (hapart : ∀ m ∈ done, dirOverlaps (ownEntry n base) (ownEntry m base) = false)

include h hb hn hapart

theorem Published.step_of_clear (hen : (regionOf base.ctl.config n).enable = true) (hdone : done.length ≤ 3)
    (hclear : ∀ g ∈ v.dir.entries, dirOverlaps (ownEntry n base) g = false) : Published base (done ++ [n]) (withPublished v n) := by
  have hown := h.ownEntry_eq n
  have hnot := h.notEntered hb hn
  have hshape : entryShape (ownEntry n base) := ownEntry_shape rfl hb.judged hen
  have hconflict := conflict_or_of_imp (h.conflict_of_clear hclear)
  by_cases hroom : v.dir.entries.length < 64
  · have hplace := place_of_clear hclear hroom
    have hperm : (insertEntry (ownEntry n base) v).dir.entries.Perm (ownEntry n base :: v.dir.entries) := insertByBase_perm _ _
    have hin : ownEntry n base ∈ (place (ownEntry n base) v).dir.entries := by
      rw [hplace]
      exact hperm.mem_iff.mpr List.mem_cons_self
    rw [withPublished_of_mem (by rwa [hown]), hown]
    rw [hplace] at hin ⊢
    refine h.next hn hapart (status := .entered) (refused := 0) (.inl ⟨rfl, hin, rfl⟩) (directoryOrdered_insert h.ordered hshape hclear) rfl
      (fun e he => ?_) (fun e he _ => hperm.mem_iff.mpr (List.mem_cons_of_mem _ he)) hperm.length_eq.le (fun _ _ => rfl) rfl ?_
    · exact (List.mem_cons.mp (hperm.mem_iff.mp he)).symm
    · show v.ev = _
      simp [addCounter_zero, hconflict, setStatus, insertEntry]
  · have hplace := place_of_full hclear (by omega : 64 ≤ v.dir.entries.length)
    rw [withPublished_of_not_mem (by rw [hown, hplace]; exact hnot), hown, hplace]
    refine h.next hn hapart (status := .eclipsed) (refused := 1) (.inr ⟨rfl, rfl⟩) h.ordered rfl (fun e he => .inl he) (fun e he _ => he)
      (Nat.le_succ _) (fun hlen _ => ?_) rfl ?_
    · have := h.few
      omega
    · simp only [hconflict]
      simp [eclipse, raise, setFlag, withFlag, withCount, setStatus]

theorem Published.step_of_conflict
    (hbelow : ∃ g ∈ v.dir.entries, dirOverlaps (ownEntry n base) g = true ∧ g.owner.toNat ≤ (ownEntry n base).owner.toNat) :
    Published base (done ++ [n]) (withPublished v n) := by
  have hown := h.ownEntry_eq n
  have hnot := h.notEntered hb hn
  have hplace := place_of_conflict hbelow
  obtain ⟨g, hg, hover, hle⟩ := hbelow
  have hin := h.met hapart hg hover
  have hmeets : regionMeets base n = true := List.any_eq_true.mpr ⟨g, hin, hover⟩
  rw [withPublished_of_not_mem (by rw [hown, hplace]; exact hnot), hown, hplace]
  refine h.next hn hapart (status := .eclipsed) (refused := 1) (.inr ⟨rfl, rfl⟩) h.ordered rfl (fun e he => .inl he) (fun e he _ => he)
    (Nat.le_succ _) (fun _ habove => ?_) rfl ?_
  · have hlt : (ownEntry n base).owner.toNat < g.owner.toNat := habove g hin hover
    omega
  · simp [hmeets, eclipse, raise, setFlag, withConflict, withFlag, withCount, setStatus]

theorem Published.step_of_eviction (hen : (regionOf base.ctl.config n).enable = true)
    (hmet : ∃ g ∈ v.dir.entries, dirOverlaps (ownEntry n base) g = true)
    (habove : ∀ g ∈ v.dir.entries, dirOverlaps (ownEntry n base) g = true → (ownEntry n base).owner.toNat < g.owner.toNat) :
    Published base (done ++ [n]) (withPublished v n) := by
  have hown := h.ownEntry_eq n
  have hshape : entryShape (ownEntry n base) := ownEntry_shape rfl hb.judged hen
  have hmeets : regionMeets base n = true := by
    obtain ⟨g, hg, hover⟩ := hmet
    exact List.any_eq_true.mpr ⟨g, h.met hapart hg hover, hover⟩
  have hevicted : evictFor (ownEntry n base) v =
      raise .conflict (v.setDir { v.dir with entries := v.dir.entries.filter (fun g => !dirOverlaps (ownEntry n base) g) }) := by
    refine evictions_of_foreign (fun g hg => ?_) _
    obtain ⟨hin, hover⟩ := List.mem_filter.mp hg
    exact hb.foreign g (h.met hapart hin hover)
  have hplace := place_of_eviction hmet habove
  have hperm : (insertEntry (ownEntry n base) (evictFor (ownEntry n base) v)).dir.entries.Perm
      (ownEntry n base :: v.dir.entries.filter (fun g => !dirOverlaps (ownEntry n base) g)) := by
    rw [← evictFor_entries (ownEntry n base) v]
    exact insertByBase_perm _ _
  have hin : ownEntry n base ∈ (place (ownEntry n base) v).dir.entries := by
    rw [hplace]
    exact hperm.mem_iff.mpr List.mem_cons_self
  have hkept : directoryOrdered (evictFor (ownEntry n base) v) := directoryOrdered_filter h.ordered (evictFor_entries _ v)
  rw [withPublished_of_mem (by rwa [hown]), hown]
  rw [hplace] at hin ⊢
  refine h.next hn hapart (status := .entered) (refused := 0) (.inl ⟨rfl, hin, rfl⟩)
    (directoryOrdered_insert hkept hshape (evictFor_clear _ v)) ?_
    (fun e he => ?_) (fun e he hsafe => ?_) ?_ (fun _ _ => rfl) ?_ ?_
  · rw [hevicted]
    rfl
  · obtain rfl | he := List.mem_cons.mp (hperm.mem_iff.mp he)
    · exact .inr rfl
    · exact .inl (List.mem_of_mem_filter he)
  · refine hperm.mem_iff.mpr (List.mem_cons_of_mem _ (List.mem_filter.mpr ⟨he, ?_⟩))
    obtain hle | hsafe := hsafe
    · rw [Bool.not_eq_true', ← Bool.not_eq_true]
      intro hover
      have hlt : (ownStation base).toNat < e.owner.toNat := habove e he hover
      omega
    · simp [hsafe]
  · refine hperm.length_eq.le.trans ?_
    exact Nat.succ_le_succ (List.length_filter_le _ _)
  · rw [hevicted]
    rfl
  · rw [hevicted, hmeets]
    simp [addCounter_zero, raise, setFlag, setStatus, insertEntry]

theorem Published.step (hen : (regionOf base.ctl.config n).enable = true) (hdone : done.length ≤ 3) :
    placeOwn v n = withPublished v n ∧ Published base (done ++ [n]) (withPublished v n) := by
  refine ⟨placeOwn_eq_withPublished (by rw [h.others n hn, hb.enabled n hen]) (by rw [h.ownEntry_eq n]; exact h.notEntered hb hn), ?_⟩
  by_cases hclear : ∀ g ∈ v.dir.entries, dirOverlaps (ownEntry n base) g = false
  · exact h.step_of_clear hb hn hapart hen hdone hclear
  by_cases hbelow : ∃ g ∈ v.dir.entries, dirOverlaps (ownEntry n base) g = true ∧ g.owner.toNat ≤ (ownEntry n base).owner.toNat
  · exact h.step_of_conflict hb hn hapart hbelow
  · refine h.step_of_eviction hb hn hapart hen ?_ fun g hg hover => ?_
    · simpa using hclear
    · by_contra hle
      exact hbelow ⟨g, hg, hover, by omega⟩

end Step

/-! ### All of them -/

theorem Published.all (hb : Unpublished base) (l : List RegionIndex) :
    ∀ (done : List RegionIndex) (v : State), (done ++ l).Nodup → (done ++ l).length ≤ 4 →
      (∀ m ∈ done, (regionOf base.ctl.config m).enable = true) → Published base done v →
      l.foldl placeOwn v = (l.filter (fun n => (regionOf base.ctl.config n).enable)).foldl withPublished v ∧
        Published base (done ++ l.filter (fun n => (regionOf base.ctl.config n).enable)) (l.foldl placeOwn v) := by
  induction l with
  | nil => exact fun done v _ _ _ h => ⟨rfl, by simpa using h⟩
  | cons n l ih =>
    intro done v hnodup hlen hen h
    have hn : n ∉ done := fun hmem => (List.disjoint_of_nodup_append hnodup) hmem List.mem_cons_self
    by_cases he : (regionOf base.ctl.config n).enable = true
    · have hapart (m : RegionIndex) (hm : m ∈ done) : dirOverlaps (ownEntry n base) (ownEntry m base) = false :=
        ownEntries_apart hb.judged (fun hnm => hn (hnm ▸ hm)) he (hen m hm)
      obtain ⟨hplace, hnext⟩ := h.step hb hn hapart he (by simp at hlen; omega)
      have hrest := ih (done ++ [n]) (placeOwn v n) (by simpa using hnodup) (by simpa using hlen)
        (fun m hm => by
          obtain hm | hm := List.mem_append.mp hm
          · exact hen m hm
          · rwa [List.mem_singleton.mp hm]) (hplace ▸ hnext)
      rw [List.filter_cons_of_pos (p := fun n => (regionOf base.ctl.config n).enable) he, List.foldl_cons, List.foldl_cons, ← hplace]
      simpa using hrest
    · have hstatus : statusOf n v = .disabled := by rw [h.others n hn, hb.disabled n (by simpa using he)]
      have hplace : placeOwn v n = v := if_neg (by simp [hstatus])
      have hrest := ih done v (hnodup.sublist (List.Sublist.append_left (List.sublist_cons_self n l) done))
        (by simp at hlen ⊢; omega) hen h
      rw [List.filter_cons_of_neg (by simpa using he), List.foldl_cons, hplace]
      exact hrest

/-! ### The event -/

theorem evictions_setSel (l : List DirEntry) (x : Selector) (v : State) :
    l.foldl eclipseEvicted (v.setSel x) = (l.foldl eclipseEvicted v).setSel x := by
  induction l generalizing v with
  | nil => rfl
  | cons g l ih =>
    have hg : eclipseEvicted (v.setSel x) g = (eclipseEvicted v g).setSel x := by
      unfold eclipseEvicted
      cases g.own <;> rfl
    rw [List.foldl_cons, hg, ih, List.foldl_cons]

theorem place_setSel (e : DirEntry) (x : Selector) (v : State) : place e (v.setSel x) = (place e v).setSel x := by
  unfold place
  rw [show (v.setSel x).dir.entries = v.dir.entries from rfl]
  cases judgePlacing e v.dir.entries with
  | evictAndInsert =>
    have hevict : evictFor e (v.setSel x) = (evictFor e v).setSel x :=
      evictions_setSel (v.dir.entries.filter (dirOverlaps e)) x
        (raise .conflict (v.setDir { v.dir with entries := v.dir.entries.filter (fun g => !dirOverlaps e g) }))
    exact congrArg (insertEntry e) hevict
  | _ => rfl

theorem placeOwn_setSel (n : RegionIndex) (x : Selector) (v : State) : placeOwn (v.setSel x) n = (placeOwn v n).setSel x := by
  have hplace : place (ownEntry n (v.setSel x)) (v.setSel x) = (place (ownEntry n v) v).setSel x := place_setSel (ownEntry n v) x v
  unfold placeOwn
  by_cases hs : statusOf n v = .notPublished
  · rw [if_pos hs, if_pos (show statusOf n (v.setSel x) = .notPublished from hs), hplace]
    by_cases he : entersDirectory (judgePlacing (ownEntry n v) v.dir.entries) = true
    · rw [if_pos he, if_pos (show entersDirectory (judgePlacing (ownEntry n (v.setSel x)) (v.setSel x).dir.entries) = true from he)]
      rfl
    · rw [if_neg he, if_neg (show ¬entersDirectory (judgePlacing (ownEntry n (v.setSel x)) (v.setSel x).dir.entries) = true from he)]
      rfl
  · rw [if_neg hs, if_neg (show ¬statusOf n (v.setSel x) = .notPublished from hs)]

theorem placeOwns_setSel (l : List RegionIndex) (x : Selector) (v : State) : l.foldl placeOwn (v.setSel x) = (l.foldl placeOwn v).setSel x := by
  induction l generalizing v with
  | nil => rfl
  | cons n l ih => rw [List.foldl_cons, placeOwn_setSel, ih, List.foldl_cons]

/-- The station as the listen period ends, before its regions are placed. -/
def opened (s : State) : State :=
  withFlag .span
    { s with
      ctl := { s.ctl with span := .announcing, listenTimer := none }
      sel := { s.sel with announceMark := .pendingFresh } }

theorem listenEnds_eq (hx : s.ctl.span = .listening) : listenEnds s = allRegionIndexes.foldl placeOwn (opened s) := by
  have hspan : (s.setCtl { s.ctl with listenTimer := none }).ctl.span ≠ .announcing := by simp [hx]
  have hopen : opened s =
      (setSpan .announcing (s.setCtl { s.ctl with listenTimer := none })).setSel { s.sel with announceMark := .pendingFresh } := by
    rw [setSpan, if_neg hspan]
    rfl
  have hsel : (placeOwnRegions (setSpan .announcing (s.setCtl { s.ctl with listenTimer := none }))).sel = s.sel := by simp
  rw [hopen, placeOwns_setSel, listenEnds]
  simp only [hsel]
  rfl

theorem WellKept.unpublished_opened (hk : WellKept s) (hx : s.ctl.span = .listening) : Unpublished (opened s) := by
  obtain ⟨hown, hdisabled, hentered, hpublished⟩ := hk.ownRegions
  have hoff (n : RegionIndex) : ¬(statusOf n s = .entered ∨ statusOf n s = .eclipsed) := fun h => by
    have hon := hpublished n h
    simp [hx, onSpan] at hon
  refine ⟨hk.config (by simp [hx]), hk.directory, hk.sized.2.2.1, fun e he => ?_, fun n hen => ?_, fun n hen => (hdisabled n).mpr hen⟩
  · cases ho : e.own with
    | none => rfl
    | some n => exact absurd (.inl ((hentered n).mpr ⟨e, he, ho⟩)) (hoff n)
  · have hno : statusOf n s ≠ .disabled := fun hd => by
      have hen' : (regionOf s.ctl.config n).enable = true := hen
      simp [(hdisabled n).mp hd] at hen'
    have hoff' := hoff n
    show statusOf n s = .notPublished
    cases hs : statusOf n s <;> simp_all

theorem withContentMarked_eq (before : List DirEntry) (v : State) :
    withContentMarked before v =
      { v with
        dir := { v.dir with generation := (withContentMarked before v).dir.generation }
        ev := { v.ev with flags := { v.ev.flags with directory := (withContentMarked before v).ev.flags.directory } } } := by
  unfold withContentMarked
  split <;> rfl

theorem withContentMarked_rest (before : List DirEntry) (v : State) :
    withContentMarked before v = { v with dir := (withContentMarked before v).dir, ev := (withContentMarked before v).ev } := by
  unfold withContentMarked
  split <;> rfl

/-- Two changes of the directory and of the events, one after the other. -/
theorem rest_trans {x y z : State} (h : y = { x with dir := { y.dir with generation := x.dir.generation }, ev := y.ev })
    (h' : z = { y with dir := z.dir, ev := z.ev }) : z = { x with dir := z.dir, ev := z.ev } :=
  h'.trans (by rw [h])

/-- The regions that have stayed eclipsed are enabled ones. -/
theorem Published.eclipsed (h : Published base (allRegionIndexes.filter (fun n => (regionOf base.ctl.config n).enable)) v) (hb : Unpublished base) :
    (allRegionIndexes.filter (fun n => (regionOf base.ctl.config n).enable)).filter (fun n => decide (statusOf n v = .eclipsed)) =
      allRegionIndexes.filter (fun n => decide (statusOf n v = .eclipsed)) := by
  rw [List.filter_filter]
  refine List.filter_congr fun n _ => ?_
  by_cases hn : (regionOf base.ctl.config n).enable = true
  · simp [hn]
  · have hstatus : statusOf n v = .disabled := by
      rw [h.others n (by simp [hn]), hb.disabled n (Bool.eq_false_iff.mpr hn)]
    simp [hstatus]

/-- Settles O32. -/
theorem listenPeriodEnds : Obligations.ListenPeriodEnds := by
  intro s hk hlow hx ht opened' enabled
  have hb := hk.unpublished_opened hx
  obtain ⟨hfold, hall⟩ := Published.all hb allRegionIndexes [] (opened s) (by decide) (by decide) (by simp) (.nil hb)
  rw [List.nil_append, hfold] at hall
  let w := enabled.foldl withPublished (opened s)
  have hw : Published (opened s) enabled w := hall
  have hends : listenEnds s = w := (listenEnds_eq hx).trans hfold
  have hmarked := withContentMarked_eq s.dir.entries w
  have hctl : w.ctl = { s.ctl with span := .announcing, listenTimer := none } := (congrArg State.ctl hw.rest).trans rfl
  have hevent : exec .listenTimerExpiry s = .next (withContentMarked s.dir.entries w) := by
    have hdue : listenDue s = true := by simp [listenDue, hx, expired_iff, ht]
    have hpeers : w.peers = s.peers := (congrArg State.peers hw.rest).trans rfl
    refine (stationEvent_eq (s := s) listenDue listenEnds).trans ?_
    rw [if_pos ⟨hlow, hdue⟩, event, hends, eventEnd, peerEventEnd_of_same _ _ (by rw [hpeers]), directoryEventEnd_eq, drainCheck_of_not_leaving]
    rw [hmarked]
    show w.ctl.span ≠ .leaving
    simp [hctl]
  have hstatus (n : RegionIndex) : statusOf n (withContentMarked s.dir.entries w) = statusOf n w := by
    rw [hmarked]
    rfl
  have hentries : (withContentMarked s.dir.entries w).dir.entries = w.dir.entries := by rw [hmarked]
  have hmem (n : RegionIndex) : n ∈ enabled ↔ (regionOf s.ctl.config n).enable = true :=
    List.mem_filter.trans (and_iff_right (mem_allRegionIndexes n))
  refine ⟨_, hevent, rfl, ?_, ?_, ?_, fun n => ?_, fun e he hsafe => ?_, fun e he => ?_, fun n hn hlen habove => ?_, ?_, ?_, ?_, ?_, ?_⟩
  · rw [hmarked]
    exact hctl
  · rw [hmarked]
    show w.ev.flags.span = true
    rw [hw.events]
    rfl
  · rw [hmarked]
    exact (congrArg State.sel hw.rest).trans rfl
  · rw [hstatus, hentries]
    split
    next hn =>
      have hin := (hmem n).mpr hn
      refine (hw.placed n hin).imp_right fun heclipsed => ⟨heclipsed, ?_⟩
      have hany : enabled.any (fun m => decide (statusOf m w = .eclipsed)) = true :=
        List.any_eq_true.mpr ⟨n, hin, decide_eq_true heclipsed⟩
      rw [hmarked]
      show w.ev.flags.eclipse = true
      rw [hw.events]
      show (_ || enabled.any (fun m => decide (statusOf m w = .eclipsed))) = true
      rw [hany, Bool.or_true]
    next hn =>
      rw [hw.others n (mt (hmem n).mp hn)]
      exact hb.disabled n (Bool.eq_false_iff.mpr hn)
  · rw [hentries]
    exact hw.stays e he (hsafe.imp_right fun hall n hn => hall n ((hmem n).mp hn))
  · rw [hentries] at he
    exact (hw.entries e he).imp_right fun ⟨n, _, hen⟩ => ⟨n, hen⟩
  · rw [hstatus]
    exact hw.enters n ((hmem n).mpr hn) hlen habove
  · exact (rest_trans hw.rest (withContentMarked_rest s.dir.entries w)).trans (by rw [hmarked, hw.rest]; rfl)
  · rw [hmarked]
    show w.ev.fault = _
    rw [hw.events]
    rfl
  · rw [hmarked]
    show w.ev.enables = _
    rw [hw.events]
    rfl
  · simp only [hstatus]
    rw [hmarked]
    show w.ev.counters = _
    rw [hw.events]
    exact congrArg (fun l => addCounter s.ev.counters .refusedRegions (List.length l)) (Published.eclipsed (base := opened s) hw hb)
  · simp only [hstatus]
    have hflags : (withContentMarked s.dir.entries w).ev.flags =
        { (opened s).ev.flags with
          directory := (withContentMarked s.dir.entries w).ev.flags.directory
          conflict := s.ev.flags.conflict || enabled.any (fun n => s.dir.entries.any (dirOverlaps (ownEntry n s)))
          eclipse := s.ev.flags.eclipse || enabled.any (fun n => decide (statusOf n w = .eclipsed)) } := by
      have hchanged := congrArg (fun u => u.ev.flags) hmarked
      refine hchanged.trans ?_
      show ({ w.ev.flags with directory := _ } : EventFlags) = _
      rw [hw.events]
      rfl
    rw [hflags]
    rfl

end Sys2Proof.Machine


/-! ## Purges of the two agents (R61 to R63, R81, R82)

What the read agent's part and the write agent's part of a purge leave, each as one update of the state. -/

namespace Sys2Proof.Machine

variable {s t u v : State} {r : FaultReason} {gone : PostedWrite → Bool}

/-! ### Several faults handed on (R168) -/

/-- The fault record after these faults, one after the other. -/
def handOns (l : List FaultReport) (x : Option FaultRecord) : Option FaultRecord := l.foldl (fun x r => recordFault r x) x

theorem handOns_append (l m : List FaultReport) (x : Option FaultRecord) : handOns (l ++ m) x = handOns m (handOns l x) := List.foldl_append

theorem handOns_some (l : List FaultReport) (x : FaultRecord) :
    handOns l (some x) = some { x with overflow := x.overflow || decide (0 < l.length) } := by
  induction l generalizing x with
  | nil => simp [handOns]
  | cons r l ih => exact (ih { x with overflow := true }).trans (by simp)

theorem handOns_none (l : List FaultReport) :
    handOns l none = l.head?.map (fun r => { report := r, overflow := decide (1 < l.length) }) := by
  cases l with
  | nil => rfl
  | cons r l => exact (handOns_some l { report := r, overflow := false }).trans (by simp)

/-! ### Reads that end with a fault -/

/-- An entry whose fetch ends with a fault (R60 to R62). -/
def failedEntry (r : FaultReason) (c : ConfigRecord) (e : ReadEntry) : ReadEntry :=
  if e.overtaken = true then ReadEntry.free e.incarnation
  else
    { e with
      state := .complete, outcome := some (.fault r), data := [], responseTimer := none
      discardTimer := some (c.discardTime.toNat * 1000) }

/-- The item is one of these reads. -/
def itemOf (l : List ReadIndex) : ReadyItem → Bool
  | .read i _ => decide (i ∈ l)
  | .write _ => false

/-- The faults of the reads that are not overtaken. -/
def readReports (r : FaultReason) (l : List ReadIndex) (s : State) : List FaultReport :=
  (l.filter (fun i => !(readAt i s).overtaken)).map (fun i => readFault (readAt i s) r)

/-- The state in which these fetches have ended with a fault. -/
def failedReads (r : FaultReason) (l : List ReadIndex) (s : State) : State :=
  { s with
    reads :=
      { entries := allReadIndexes.map (fun i => if i ∈ l then failedEntry r s.ctl.config (readAt i s) else readAt i s)
        order := s.reads.order.filter (fun i => !(decide (i ∈ l) && (readAt i s).overtaken)) }
    sel := { s.sel with ready := s.sel.ready.filter (fun x => !itemOf l x) }
    ev := { s.ev with fault := handOns (readReports r l s) s.ev.fault } }

theorem readAt_failRead_self (r : FaultReason) (i : ReadIndex) (h : s.reads.entries.length = Config.readEntries) :
    readAt i (failRead r s i) = failedEntry r s.ctl.config (readAt i s) := by
  rw [failRead_eq]
  unfold failedEntry
  split
  · exact readAt_freeRead_self i h
  · exact readAt_setRead_self s i _ h

/-- One read, and what the lists and the fault record take from it. -/
theorem failRead_lists (r : FaultReason) (i : ReadIndex) (s : State) :
    (failRead r s i).reads.order = s.reads.order.filter (fun j => !(decide (j = i) && (readAt j s).overtaken)) ∧
      (failRead r s i).sel = { s.sel with ready := s.sel.ready.filter (fun x => !isReadItem i x) } ∧
      (failRead r s i).ev = { s.ev with fault := handOns (readReports r [i] s) s.ev.fault } ∧
      failRead r s i = { s with reads := (failRead r s i).reads, sel := (failRead r s i).sel, ev := (failRead r s i).ev } := by
  rw [failRead_eq]
  by_cases ho : (readAt i s).overtaken = true
  · rw [if_pos ho]
    refine ⟨List.filter_congr fun j _ => ?_, rfl, ?_, rfl⟩
    · by_cases hj : j = i
      · subst hj
        simp [ho]
      · simp [hj]
    · simp [readReports, ho, handOns, withFree]
  · rw [if_neg ho]
    refine ⟨(List.filter_eq_self.mpr fun j _ => ?_).symm, rfl, ?_, rfl⟩
    · by_cases hj : j = i
      · subst hj
        simp [ho]
      · simp [hj]
    · simp [readReports, ho, handOns, withFault, withComplete, readFault]

theorem failedReads_nil (hs : s.reads.entries.length = Config.readEntries) : failedReads r [] s = s := by
  have hentries := entries_eq_map hs
  simp only [failedReads, List.not_mem_nil, if_false, ← hentries, decide_false, Bool.false_and, Bool.not_false, List.filter_true]
  have hready : s.sel.ready.filter (fun x => !itemOf [] x) = s.sel.ready :=
    List.filter_eq_self.mpr fun x _ => by cases x <;> simp [itemOf]
  rw [hready]
  rfl

theorem failedReads_cons {i : ReadIndex} {l : List ReadIndex} (hi : i ∉ l) (hs : s.reads.entries.length = Config.readEntries) :
    failedReads r l (failRead r s i) = failedReads r (i :: l) s := by
  obtain ⟨horder, hsel, hev, hrest⟩ := failRead_lists r i s
  have hself := readAt_failRead_self r i hs
  have hother (j : ReadIndex) (hj : j ≠ i) : readAt j (failRead r s i) = readAt j s := readAt_failRead_other r i j s hj
  have hentries (j : ReadIndex) : (if j ∈ l then failedEntry r s.ctl.config (readAt j (failRead r s i)) else readAt j (failRead r s i)) =
      if j ∈ i :: l then failedEntry r s.ctl.config (readAt j s) else readAt j s := by
    by_cases hj : j = i
    · subst hj
      simp [hi, hself]
    · simp [hj, hother j hj]
  have horders : ((failRead r s i).reads.order.filter fun j => !(decide (j ∈ l) && (readAt j (failRead r s i)).overtaken)) =
      s.reads.order.filter fun j => !(decide (j ∈ i :: l) && (readAt j s).overtaken) := by
    rw [horder, List.filter_filter]
    refine List.filter_congr fun j _ => ?_
    by_cases hj : j = i
    · subst hj
      simp [hi]
    · simp [hj, hother j hj]
  have hready : ((s.sel.ready.filter fun x => !isReadItem i x).filter fun x => !itemOf l x) = s.sel.ready.filter fun x => !itemOf (i :: l) x := by
    rw [List.filter_filter]
    refine List.filter_congr fun x _ => ?_
    cases x with
    | read j inc => by_cases hj : j = i <;> simp [itemOf, isReadItem, hj]
    | write a => rfl
  have hreports : readReports r [i] s ++ readReports r l (failRead r s i) = readReports r (i :: l) s := by
    have hfilter : l.filter (fun j => !(readAt j (failRead r s i)).overtaken) = l.filter (fun j => !(readAt j s).overtaken) :=
      List.filter_congr fun j hj => by rw [hother j fun h => hi (h ▸ hj)]
    have hmap : (l.filter (fun j => !(readAt j s).overtaken)).map (fun j => readFault (readAt j (failRead r s i)) r) =
        (l.filter (fun j => !(readAt j s).overtaken)).map (fun j => readFault (readAt j s) r) :=
      List.map_congr_left fun j hj => by rw [hother j fun h => hi (h ▸ List.mem_of_mem_filter hj)]
    rw [readReports, readReports, hfilter, hmap, ← List.map_append, ← List.filter_append]
    rfl
  simp only [failedReads, failRead_frame, funext hentries, horders, hev, ← handOns_append, hreports, hsel, hready]

theorem failRead_sized (i : ReadIndex) (hs : s.reads.entries.length = Config.readEntries) :
    (failRead r s i).reads.entries.length = Config.readEntries := by
  rw [failRead_eq]
  split <;> simpa [withFree, withFault, withComplete] using hs

theorem foldl_failRead (l : List ReadIndex) (hl : l.Nodup) (hs : s.reads.entries.length = Config.readEntries) :
    l.foldl (failRead r) s = failedReads r l s := by
  induction l generalizing s with
  | nil => exact (failedReads_nil hs).symm
  | cons i l ih =>
    obtain ⟨hi, hl⟩ := List.nodup_cons.mp hl
    rw [List.foldl_cons, ih hl (failRead_sized i hs), failedReads_cons hi hs]

/-! ### Writes that leave the queue -/

theorem drops_ev (r : FaultReason) (l : List PostedWrite) (s : State) :
    (l.foldl (withDrop r) s).ev =
      { s.ev with
        counters := addCounter s.ev.counters .writeLoss l.length
        fault := handOns (l.map (fun w => writeFault w r)) s.ev.fault } := by
  induction l generalizing s with
  | nil => simp [addCounter_zero, handOns]
  | cons w l ih =>
    rw [List.foldl_cons, ih]
    simp [withDrop, withFault, withCount, addCounter_addCounter, Nat.add_comm 1, handOns, writeFault]

/-- The head is among the entries that go. -/
def headGoes (gone : PostedWrite → Bool) (s : State) : Bool := s.writes.queue.head?.any gone

def keptWrites (gone : PostedWrite → Bool) (s : State) : List PostedWrite := s.writes.queue.filter (fun w => !gone w)

/-- The entries that are dropped with the head, one after the other (R73). -/
def droppedWrites (gone : PostedWrite → Bool) (s : State) : List PostedWrite :=
  if headGoes gone s = true then (keptWrites gone s).takeWhile (unreachableNow s) else []

def queueLeft (gone : PostedWrite → Bool) (s : State) : List PostedWrite :=
  if headGoes gone s = true then (keptWrites gone s).dropWhile (unreachableNow s) else keptWrites gone s

/-- How many of the first `k` entries still stand. -/
def aheadLeft (gone : PostedWrite → Bool) (s : State) (k : Nat) : Nat :=
  ((s.writes.queue.take k).filter (fun w => !gone w)).length - (droppedWrites gone s).length

/-- A WAITING read with nothing left ahead of it. -/
def readReleased (gone : PostedWrite → Bool) (s : State) (i : ReadIndex) : Bool :=
  (readAt i s).state == .waiting && aheadLeft gone s (readAt i s).ahead == 0

/-- The faults of the write agent's part. -/
def writeReports (gone : PostedWrite → Bool) (r : FaultReason) (s : State) : List FaultReport :=
  (s.writes.queue.filter gone).head?.toList.map (fun w => writeFault w r) ++
    (droppedWrites gone s).map (fun w => writeFault w .unreachable)

/-- What the write agent's part of a purge leaves. -/
structure WritesPurged (gone : PostedWrite → Bool) (r : FaultReason) (s t : State) : Prop where
  sized : t.reads.entries.length = Config.readEntries
  order : t.reads.order = s.reads.order
  released : ∀ i, readReleased gone s i = true → readAt i t = { readAt i s with state := .ready, ahead := 0 }
  still : ∀ i, readReleased gone s i = false → readAt i t = { readAt i s with ahead := (readAt i t).ahead } ∧
    ((readAt i s).state = .waiting → (readAt i t).ahead = aheadLeft gone s (readAt i s).ahead)
  rest : t =
    { s with
      writes := { s.writes with queue := queueLeft gone s }
      reads := t.reads
      sel :=
        { s.sel with
          ready :=
            s.sel.ready.filter (fun x => !(headGoes gone s && isWriteItem x)) ++
              (if headGoes gone s = true then headItem (queueLeft gone s) else []) ++
              (s.reads.order.filter (readReleased gone s)).map (readItem s) }
      ev :=
        { s.ev with
          counters := addCounter s.ev.counters .writeLoss ((s.writes.queue.filter gone).length + (droppedWrites gone s).length)
          fault := handOns (writeReports gone r s) s.ev.fault } }

/-- With nothing to purge, nothing is released either. -/
theorem WritesPurged.of_none (h : RequestsKept s) (hnone : s.writes.queue.filter gone = []) : WritesPurged gone r s s := by
  have hall : keptWrites gone s = s.writes.queue :=
    List.filter_eq_self.mpr fun w hw => by simpa using List.filter_eq_nil_iff.mp hnone w hw
  have hhead : headGoes gone s = false := by
    cases hq : s.writes.queue with
    | nil => simp [headGoes, hq]
    | cons w rest => simpa [headGoes, hq] using List.filter_eq_nil_iff.mp hnone w (by simp [hq])
  have hdropped : droppedWrites gone s = [] := by simp [droppedWrites, hhead]
  have hleft (i : ReadIndex) (hi : (readAt i s).state = .waiting) : aheadLeft gone s (readAt i s).ahead = (readAt i s).ahead := by
    obtain ⟨-, hle, -⟩ := (h.reads i).waiting hi
    have hself : (s.writes.queue.take (readAt i s).ahead).filter (fun w => !gone w) = s.writes.queue.take (readAt i s).ahead :=
      List.filter_eq_self.mpr fun w hw => by simpa using List.filter_eq_nil_iff.mp hnone w (List.mem_of_mem_take hw)
    rw [aheadLeft, hself, hdropped, List.length_nil, Nat.sub_zero, List.length_take, Nat.min_eq_left hle]
  have hno (i : ReadIndex) : readReleased gone s i = false := by
    by_cases hi : (readAt i s).state = .waiting
    · obtain ⟨hpos, -, -⟩ := (h.reads i).waiting hi
      simp only [readReleased, hleft i hi, Bool.and_eq_false_iff, beq_eq_false_iff_ne]
      exact .inr (by omega)
    · simp [readReleased, hi]
  refine ⟨h.sized, rfl, fun i hi => by simp [hno i] at hi, fun i _ => ⟨rfl, fun hi => (hleft i hi).symm⟩, ?_⟩
  have hempty : s.reads.order.filter (readReleased gone s) = [] := List.filter_eq_nil_iff.mpr fun i _ => by simp [hno i]
  simp [queueLeft, hhead, hall, hdropped, hempty, hnone, writeReports, handOns, addCounter_zero]

/-- The station before the barriers are released: the entries are gone, and the new head is judged. -/
def purgeJudged (gone : PostedWrite → Bool) (r : FaultReason) (s : State) : State :=
  { s with
    writes := { s.writes with queue := queueLeft gone s }
    reads := { s.reads with entries := s.reads.entries.map (fun e => { e with ahead := aheadLeft gone s e.ahead }) }
    sel :=
      { s.sel with
        ready := s.sel.ready.filter (fun x => !(headGoes gone s && isWriteItem x)) ++
          if headGoes gone s = true then headItem (queueLeft gone s) else [] }
    ev :=
      { s.ev with
        counters := addCounter s.ev.counters .writeLoss ((s.writes.queue.filter gone).length + (droppedWrites gone s).length)
        fault := handOns (writeReports gone r s) s.ev.fault } }

theorem WritesPurged.of_judged {k : Option Word} (h : RequestsRight k 0 (purgeJudged gone r s)) (hs : s.reads.entries.length = Config.readEntries) :
    WritesPurged gone r s (releaseBarriers (purgeJudged gone r s)) := by
  have hat (i : ReadIndex) : readAt i (purgeJudged gone r s) = { readAt i s with ahead := aheadLeft gone s (readAt i s).ahead } :=
    readAt_map (fun e => { e with ahead := aheadLeft gone s e.ahead }) i hs rfl
  have hdue (i : ReadIndex) : due (purgeJudged gone r s) i = readReleased gone s i := by
    rw [due, hat, readReleased]
    cases (readAt i s).state <;> rfl
  have hitem (i : ReadIndex) : readItem (purgeJudged gone r s) i = readItem s i := by rw [readItem, hat, readItem]
  have hreleased := releaseBarriers_of_right h
  have hread (i : ReadIndex) : readAt i (releaseBarriers (purgeJudged gone r s)) = Machine.released 0 (readAt i (purgeJudged gone r s)) :=
    readAt_map (Machine.released 0) i h.sized (by rw [hreleased])
  refine ⟨?_, by rw [hreleased]; rfl, fun i hi => ?_, fun i hi => ?_, ?_⟩
  · rw [hreleased]
    simpa [purgeJudged] using hs
  · simp only [readReleased, Bool.and_eq_true, beq_iff_eq] at hi
    rw [hread, hat]
    simp [Machine.released, hi.1, hi.2]
  · rw [hread, released_of_not_due (by rw [hdue, hi]; simp), hat]
    exact ⟨rfl, fun _ => rfl⟩
  · rw [hreleased, funext hdue, funext hitem]
    rfl

theorem keptWrites_removeWrites (gone : PostedWrite → Bool) (s : State) : (removeWrites gone s).writes.queue = keptWrites gone s := by
  simp [removeWrites, setQueue, keptWrites]

/-- The purge without its releases, where the head stays. -/
theorem purgeJudged_of_stays {w : PostedWrite} {rest : List PostedWrite} (hgone : s.writes.queue.filter gone = w :: rest)
    (hhead : ¬headGoes gone s = true) :
    handOn (writeFault w r) (count .writeLoss (rest.length + 1) (removeWrites gone s)) = purgeJudged gone r s := by
  have hno : headGoes gone s = false := Bool.eq_false_iff.mpr hhead
  have hremoved : removeWrites gone s =
      recountAhead (fun n => ((s.writes.queue.take n).filter (fun w => !gone w)).length) (setQueue (keptWrites gone s) s) := by
    rw [removeWrites, show s.writes.queue.head?.any gone = false from hno]
    rfl
  have hdropped : droppedWrites gone s = [] := if_neg hhead
  have hqueue : queueLeft gone s = keptWrites gone s := if_neg hhead
  rw [hremoved]
  simp [purgeJudged, aheadLeft, hdropped, hqueue, hno, writeReports, hgone, handOns, handOn, count, recountAhead, setQueue, State.setEv,
    State.setReads, State.setWrites]

/-- The same where it goes: the new heads are judged. -/
theorem purgeJudged_of_goes {w : PostedWrite} {rest : List PostedWrite} (hgone : s.writes.queue.filter gone = w :: rest)
    (hhead : headGoes gone s = true) :
    judgeHeads (keptWrites gone s) (handOn (writeFault w r) (count .writeLoss (rest.length + 1) (removeWrites gone s))) =
      purgeJudged gone r s := by
  have hremoved : removeWrites gone s =
      recountAhead (fun n => ((s.writes.queue.take n).filter (fun w => !gone w)).length) (setQueue (keptWrites gone s) (unreadyWrite s)) := by
    rw [removeWrites, show s.writes.queue.head?.any gone = true from hhead]
    rfl
  have hdropped : droppedWrites gone s = (keptWrites gone s).takeWhile (unreachableNow s) := if_pos hhead
  have hqueue : queueLeft gone s = (keptWrites gone s).dropWhile (unreachableNow s) := if_pos hhead
  have hunreachable : unreachableNow (handOn (writeFault w r) (count .writeLoss (rest.length + 1) (removeWrites gone s))) = unreachableNow s := by
    rw [hremoved]
    rfl
  have htwice : unreadyWrite (handOn (writeFault w r) (count .writeLoss (rest.length + 1) (removeWrites gone s))) =
      handOn (writeFault w r) (count .writeLoss (rest.length + 1) (removeWrites gone s)) := by
    simp [hremoved, unreadyWrite, handOn, count, recountAhead, setQueue, State.setSel, State.setEv, State.setReads, State.setWrites]
  have hqueue' : (handOn (writeFault w r) (count .writeLoss (rest.length + 1) (removeWrites gone s))).writes.queue = keptWrites gone s :=
    keptWrites_removeWrites gone s
  rw [judgeHeads_eq _ hqueue' htwice, hunreachable, ← hdropped, ← hqueue, drops_eq, drops_ev, hremoved]
  simp [purgeJudged, withReady, behind, aheadLeft, hhead, writeReports, hgone, handOns, handOn, count, recountAhead, setQueue, unreadyWrite,
    addCounter_addCounter, State.setEv, State.setReads, State.setWrites, State.setSel, Function.comp_def]

theorem purgeWrites_of_cons {w : PostedWrite} {rest : List PostedWrite} (hgone : s.writes.queue.filter gone = w :: rest) :
    purgeWrites gone r s = releaseBarriers (purgeJudged gone r s) := by
  have hunroll : purgeWrites gone r s =
      if headGoes gone s = true then headGone (handOn (writeFault w r) (count .writeLoss (rest.length + 1) (removeWrites gone s)))
      else releaseBarriers (handOn (writeFault w r) (count .writeLoss (rest.length + 1) (removeWrites gone s))) := by
    simp only [purgeWrites, hgone]
    rfl
  rw [hunroll]
  by_cases hhead : headGoes gone s = true
  · have hqueue : (handOn (writeFault w r) (count .writeLoss (rest.length + 1) (removeWrites gone s))).writes.queue = keptWrites gone s :=
      keptWrites_removeWrites gone s
    rw [if_pos hhead, headGone, hqueue, purgeJudged_of_goes hgone hhead]
  · rw [if_neg hhead, purgeJudged_of_stays hgone hhead]

theorem writesPurged_purgeWrites (h : RequestsKept s) (gone : PostedWrite → Bool) (r : FaultReason) :
    WritesPurged gone r s (purgeWrites gone r s) := by
  cases hgone : s.writes.queue.filter gone with
  | nil =>
    have hsame : purgeWrites gone r s = s := by simp only [purgeWrites, hgone]
    rw [hsame]
    exact .of_none h hgone
  | cons w rest =>
    have hremoved := h.removeWrites gone
    have hcounted {k : Option Word} (hr : RequestsRight k 0 (removeWrites gone s)) :
        RequestsRight k 0 (handOn (writeFault w r) (count .writeLoss (rest.length + 1) (removeWrites gone s))) := hr.of_same (by simp)
    rw [purgeWrites_of_cons hgone]
    by_cases hhead : headGoes gone s = true
    · rw [if_pos (show s.writes.queue.head?.any gone = true from hhead)] at hremoved
      have hqueue : (handOn (writeFault w r) (count .writeLoss (rest.length + 1) (removeWrites gone s))).writes.queue = keptWrites gone s :=
        keptWrites_removeWrites gone s
      have hjudged := (hcounted hremoved).judgeHeads (keptWrites gone s) hqueue fun y hy => ?_
      · rw [purgeJudged_of_goes hgone hhead] at hjudged
        exact .of_judged hjudged h.sized
      · cases hq : s.writes.queue with
        | nil => simp [hq] at hgone
        | cons x l =>
          have hx : gone x = true := by simpa [headGoes, hq] using hhead
          have hyl : y ∈ l.filter (fun w => !gone w) := by simpa [keptWrites, hq, hx] using hy
          exact RequestsRight.atRest_tail h hq y (List.mem_of_mem_filter hyl)
    · have hjudged := hcounted hremoved
      rw [purgeJudged_of_stays hgone hhead] at hjudged
      exact .of_judged hjudged h.sized

end Sys2Proof.Machine


/-! ## Both agents' parts of a purge, in either order (R82, R128, log entry 1) -/

namespace Sys2Proof.Machine

variable {s t u v : State} {r : FaultReason} {gone : PostedWrite → Bool} {p : ReadEntry → Bool} {lead : List ReadIndex → List ReadIndex}

/-- The read's fetch is ended by the purge. -/
def readGoes (p : ReadEntry → Bool) (s : State) (i : ReadIndex) : Bool := fetching (readAt i s).state && p (readAt i s)

theorem fetchingReads_eq (p : ReadEntry → Bool) (s : State) : fetchingReads p s = s.reads.order.filter (readGoes p s) := rfl

/-- The read agent's part, with the reads in the order that `lead` gives them. -/
def readsPart (lead : List ReadIndex → List ReadIndex) (p : ReadEntry → Bool) (r : FaultReason) (s : State) : State :=
  (lead (fetchingReads p s)).foldl (failRead r) s

/-- An item of a read that the purge ends. -/
def itemGoes (p : ReadEntry → Bool) (s : State) : ReadyItem → Bool
  | .read i _ => readGoes p s i
  | .write _ => false

/-- The ready list after both parts. -/
def readyLeft (p : ReadEntry → Bool) (gone : PostedWrite → Bool) (s : State) : List ReadyItem :=
  s.sel.ready.filter (fun x => !itemGoes p s x && !(headGoes gone s && isWriteItem x)) ++
    (if headGoes gone s = true then headItem (queueLeft gone s) else []) ++
    (s.reads.order.filter (fun i => !readGoes p s i && readReleased gone s i)).map (readItem s)

/-- What both parts leave. -/
structure AgentsPurged (lead : List ReadIndex → List ReadIndex) (p : ReadEntry → Bool) (gone : PostedWrite → Bool) (r : FaultReason)
    (s t : State) : Prop where
  sized : t.reads.entries.length = Config.readEntries
  order : t.reads.order = s.reads.order.filter (fun i => !(readGoes p s i && (readAt i s).overtaken))
  freed : ∀ i, readGoes p s i = true → (readAt i s).overtaken = true → readAt i t = ReadEntry.free (readAt i s).incarnation
  failed : ∀ i, readGoes p s i = true → (readAt i s).overtaken = false →
    readAt i t =
      { readAt i s with
        state := .complete, outcome := some (.fault r), data := [], responseTimer := none
        discardTimer := some (s.ctl.config.discardTime.toNat * 1000), ahead := (readAt i t).ahead }
  released : ∀ i, readGoes p s i = false → readReleased gone s i = true → readAt i t = { readAt i s with state := .ready, ahead := 0 }
  still : ∀ i, readGoes p s i = false → readReleased gone s i = false →
    readAt i t = { readAt i s with ahead := (readAt i t).ahead } ∧
      ((readAt i s).state = .waiting → (readAt i t).ahead = aheadLeft gone s (readAt i s).ahead)
  fault : t.ev.fault = handOns (readReports r (lead (fetchingReads p s)) s ++ writeReports gone r s) s.ev.fault ∨
    t.ev.fault = handOns (writeReports gone r s ++ readReports r (lead (fetchingReads p s)) s) s.ev.fault
  rest : t =
    { s with
      writes := { s.writes with queue := queueLeft gone s }
      reads := t.reads
      sel := { s.sel with ready := readyLeft p gone s }
      ev :=
        { s.ev with
          counters := addCounter s.ev.counters .writeLoss ((s.writes.queue.filter gone).length + (droppedWrites gone s).length)
          fault := t.ev.fault } }

/-- The write agent's part sees the queue and the peers alone. -/
theorem write_part_congr (hq : t.writes.queue = s.writes.queue) (hp : t.peers = s.peers) :
    headGoes gone t = headGoes gone s ∧ droppedWrites gone t = droppedWrites gone s ∧ queueLeft gone t = queueLeft gone s ∧
      aheadLeft gone t = aheadLeft gone s ∧ writeReports gone r t = writeReports gone r s := by
  have hunreachable : unreachableNow t = unreachableNow s := funext fun w => by rw [unreachableNow, peerOf, hp, unreachableNow, peerOf]
  have hhead : headGoes gone t = headGoes gone s := by rw [headGoes, hq, headGoes]
  have hkept : keptWrites gone t = keptWrites gone s := by rw [keptWrites, hq, keptWrites]
  have hdropped : droppedWrites gone t = droppedWrites gone s := by rw [droppedWrites, hhead, hkept, hunreachable, droppedWrites]
  refine ⟨hhead, hdropped, ?_, ?_, ?_⟩
  · rw [queueLeft, hhead, hkept, hunreachable, queueLeft]
  · funext k
    rw [aheadLeft, hq, hdropped, aheadLeft]
  · rw [writeReports, hq, hdropped, writeReports]

theorem readsPart_eq (hlead : ∀ l, (lead l).Perm l) (h : RequestsKept s) : readsPart lead p r s = failedReads r (lead (fetchingReads p s)) s :=
  foldl_failRead _ ((hlead _).nodup_iff.mpr (h.ranks.1.filter _)) h.sized

theorem mem_lead_iff (hlead : ∀ l, (lead l).Perm l) (h : RequestsKept s) (i : ReadIndex) :
    i ∈ lead (fetchingReads p s) ↔ readGoes p s i = true := by
  rw [(hlead _).mem_iff, fetchingReads_eq, List.mem_filter, and_iff_right_iff_imp]
  intro hi
  refine (h.ranks.2 i).mpr fun hfree => ?_
  simp [readGoes, hfree, fetching] at hi

theorem readAt_of_map {g : ReadIndex → ReadEntry} (h : t.reads.entries = allReadIndexes.map g) (i : ReadIndex) : readAt i t = g i := by
  have hindex : ∀ i : ReadIndex, allReadIndexes[i.toNat]? = some i := by decide
  simp [readAt, h, hindex]

theorem readAt_failedReads (r : FaultReason) (l : List ReadIndex) (i : ReadIndex) (s : State) :
    readAt i (failedReads r l s) = if i ∈ l then failedEntry r s.ctl.config (readAt i s) else readAt i s :=
  readAt_of_map (g := fun i => if i ∈ l then failedEntry r s.ctl.config (readAt i s) else readAt i s) rfl i

theorem failedEntry_state (r : FaultReason) (c : ConfigRecord) (e : ReadEntry) : (failedEntry r c e).state ≠ .waiting := by
  unfold failedEntry
  split <;> simp [ReadEntry.free]

/-- Reads first, and then the writes. -/
theorem AgentsPurged.of_reads_first (hlead : ∀ l, (lead l).Perm l) (h : RequestsKept s) (h' : RequestsKept (readsPart lead p r s)) :
    AgentsPurged lead p gone r s (purgeWrites gone r (readsPart lead p r s)) := by
  have hw := writesPurged_purgeWrites h' gone r
  have ht := h'.purgeWrites gone r
  have hmem := mem_lead_iff (p := p) hlead h
  rw [readsPart_eq hlead h] at hw ht ⊢
  obtain ⟨hhead, hdropped, hqueue, hahead, hreports⟩ :=
    write_part_congr (gone := gone) (r := r) (s := s) (t := failedReads r (lead (fetchingReads p s)) s) rfl rfl
  have hlost (i : ReadIndex) (hi : readGoes p s i = true) :
      readAt i (failedReads r (lead (fetchingReads p s)) s) = failedEntry r s.ctl.config (readAt i s) := by
    rw [readAt_failedReads, if_pos ((hmem i).mpr hi)]
  have hkept (i : ReadIndex) (hi : readGoes p s i = false) : readAt i (failedReads r (lead (fetchingReads p s)) s) = readAt i s := by
    rw [readAt_failedReads, if_neg (by rw [hmem, hi]; simp)]
  have hreleasedLost (i : ReadIndex) (hi : readGoes p s i = true) :
      readReleased gone (failedReads r (lead (fetchingReads p s)) s) i = false := by
    simp [readReleased, hlost i hi, failedEntry_state]
  have hreleasedKept (i : ReadIndex) (hi : readGoes p s i = false) :
      readReleased gone (failedReads r (lead (fetchingReads p s)) s) i = readReleased gone s i := by
    rw [readReleased, hkept i hi, hahead, readReleased]
  have hdecide (i : ReadIndex) : decide (i ∈ lead (fetchingReads p s)) = readGoes p s i := by
    rw [Bool.eq_iff_iff, decide_eq_true_eq, hmem]
  refine ⟨hw.sized, ?_, fun i hi ho => ?_, fun i hi ho => ?_, fun i hi hr => ?_, fun i hi hr => ?_, .inl ?_, ?_⟩
  · rw [hw.order]
    simp only [failedReads, hdecide]
  · obtain ⟨hat, -⟩ := hw.still i (hreleasedLost i hi)
    rw [hlost i hi, failedEntry, if_pos ho] at hat
    have hfree := (ht.reads i).free (by rw [hat]; rfl)
    rw [hfree, hat]
    rfl
  · obtain ⟨hat, -⟩ := hw.still i (hreleasedLost i hi)
    rwa [hlost i hi, failedEntry, if_neg (by simp [ho])] at hat
  · have hat := hw.released i ((hreleasedKept i hi).trans hr)
    rwa [hkept i hi] at hat
  · have hat := hw.still i ((hreleasedKept i hi).trans hr)
    rwa [hkept i hi, hahead] at hat
  · have hfault := congrArg (fun u => u.ev.fault) hw.rest
    rw [hreports] at hfault
    rw [handOns_append]
    exact hfault
  · have hitems : ((s.reads.order.filter fun i => !(decide (i ∈ lead (fetchingReads p s)) && (readAt i s).overtaken)).filter
        (readReleased gone (failedReads r (lead (fetchingReads p s)) s))).map (readItem (failedReads r (lead (fetchingReads p s)) s)) =
        (s.reads.order.filter (fun i => !readGoes p s i && readReleased gone s i)).map (readItem s) := by
      have hfilter : (s.reads.order.filter fun i => !(decide (i ∈ lead (fetchingReads p s)) && (readAt i s).overtaken)).filter
          (readReleased gone (failedReads r (lead (fetchingReads p s)) s)) =
          s.reads.order.filter (fun i => !readGoes p s i && readReleased gone s i) := by
        rw [List.filter_filter]
        refine List.filter_congr fun i _ => ?_
        cases hi : readGoes p s i with
        | true => simp [hreleasedLost i hi]
        | false => simp [hreleasedKept i hi, hdecide, hi]
      rw [hfilter]
      refine List.map_congr_left fun i hi => ?_
      have hi' : readGoes p s i = false := by simpa using (Bool.and_eq_true_iff.mp (List.mem_filter.mp hi).2).1
      rw [readItem, hkept i hi', readItem]
    have hready : (s.sel.ready.filter (fun x => !itemOf (lead (fetchingReads p s)) x)).filter (fun x => !(headGoes gone s && isWriteItem x)) =
        s.sel.ready.filter (fun x => !itemGoes p s x && !(headGoes gone s && isWriteItem x)) := by
      rw [List.filter_filter]
      refine List.filter_congr fun x _ => ?_
      rw [Bool.and_comm]
      cases x with
      | read i inc => simp only [itemOf, itemGoes, hdecide]
      | write a => rfl
    refine hw.rest.trans ?_
    rw [hhead, hdropped, hqueue, readyLeft, ← hready, ← hitems]
    have hfault := congrArg (fun u => u.ev.fault) hw.rest
    simp only [hfault]
    rfl

/-- The writes' part changes of a read its state between WAITING and READY, and the count ahead. -/
theorem WritesPurged.readAt (h : WritesPurged gone r s t) (i : ReadIndex) :
    readAt i t = { Machine.readAt i s with state := (Machine.readAt i t).state, ahead := (Machine.readAt i t).ahead } ∧
      fetching (Machine.readAt i t).state = fetching (Machine.readAt i s).state := by
  cases hi : readReleased gone s i with
  | true =>
    have hat := h.released i hi
    simp only [readReleased, Bool.and_eq_true, beq_iff_eq] at hi
    rw [hat]
    exact ⟨rfl, by rw [hi.1]; rfl⟩
  | false =>
    obtain ⟨hat, -⟩ := h.still i hi
    have hstate : (Machine.readAt i t).state = (Machine.readAt i s).state := by rw [hat]
    rw [hstate]
    exact ⟨hat, rfl⟩

theorem headItem_not_read (l : List ReadIndex) (q : List PostedWrite) : (headItem q).filter (fun x => !itemOf l x) = headItem q := by
  refine List.filter_eq_self.mpr fun x hx => ?_
  obtain ⟨w, -, rfl⟩ := List.mem_map.mp hx
  rfl

/-- Writes first, and then the reads. -/
theorem AgentsPurged.of_writes_first (hlead : ∀ l, (lead l).Perm l) (h : RequestsKept s)
    (hp : ∀ e e' : ReadEntry, e'.dest = e.dest → p e' = p e) :
    AgentsPurged lead p gone r s (readsPart lead p r (purgeWrites gone r s)) := by
  have hw := writesPurged_purgeWrites h gone r
  have h' := h.purgeWrites gone r
  have hmem := mem_lead_iff (p := p) hlead h
  rw [readsPart_eq hlead h']
  have hover (i : ReadIndex) : (readAt i (purgeWrites gone r s)).overtaken = (readAt i s).overtaken := by rw [(hw.readAt i).1]
  have hgoes (i : ReadIndex) : readGoes p (purgeWrites gone r s) i = readGoes p s i := by
    obtain ⟨hat, hfetching⟩ := hw.readAt i
    rw [readGoes, hfetching, hp (readAt i s) _ (by rw [hat]), readGoes]
  have hfetching : fetchingReads p (purgeWrites gone r s) = fetchingReads p s := by
    rw [fetchingReads_eq, hw.order, funext hgoes, fetchingReads_eq]
  rw [hfetching]
  have hdecide (i : ReadIndex) : decide (i ∈ lead (fetchingReads p s)) = readGoes p s i := by
    rw [Bool.eq_iff_iff, decide_eq_true_eq, hmem]
  have hctl : (purgeWrites gone r s).ctl = s.ctl := by simp
  have hlost (i : ReadIndex) (hi : readGoes p s i = true) :
      readAt i (failedReads r (lead (fetchingReads p s)) (purgeWrites gone r s)) = failedEntry r s.ctl.config (readAt i (purgeWrites gone r s)) := by
    rw [readAt_failedReads, if_pos ((hmem i).mpr hi), hctl]
  have hkept (i : ReadIndex) (hi : readGoes p s i = false) :
      readAt i (failedReads r (lead (fetchingReads p s)) (purgeWrites gone r s)) = readAt i (purgeWrites gone r s) := by
    rw [readAt_failedReads, if_neg (by rw [hmem, hi]; simp)]
  have hreports : readReports r (lead (fetchingReads p s)) (purgeWrites gone r s) = readReports r (lead (fetchingReads p s)) s := by
    have hfault (i : ReadIndex) : readFault (readAt i (purgeWrites gone r s)) r = readFault (readAt i s) r := by
      rw [(hw.readAt i).1]
      rfl
    simp only [readReports, hover, hfault]
  have hentries : (failedReads r (lead (fetchingReads p s)) (purgeWrites gone r s)).reads.entries.length = Config.readEntries := by
    simp [failedReads, allReadIndexes, Config.readEntries]
  refine ⟨hentries, ?_, fun i hi ho => ?_, fun i hi ho => ?_, fun i hi hr => ?_, fun i hi hr => ?_, .inr ?_, ?_⟩
  · simp only [failedReads, hdecide, hover, hw.order]
  · rw [hlost i hi, failedEntry, if_pos ((hover i).trans ho), (hw.readAt i).1]
  · rw [hlost i hi, failedEntry, if_neg (by rw [hover, ho]; simp), (hw.readAt i).1]
  · rw [hkept i hi, hw.released i hr]
  · rw [hkept i hi]
    exact hw.still i hr
  · have hfault := congrArg (fun u => u.ev.fault) hw.rest
    rw [handOns_append, ← hreports]
    exact congrArg (handOns _) hfault
  · have hready : (purgeWrites gone r s).sel.ready.filter (fun x => !itemOf (lead (fetchingReads p s)) x) = readyLeft p gone s := by
      have hbefore := congrArg (fun u => u.sel.ready) hw.rest
      have hstay : (s.sel.ready.filter (fun x => !(headGoes gone s && isWriteItem x))).filter (fun x => !itemOf (lead (fetchingReads p s)) x) =
          s.sel.ready.filter (fun x => !itemGoes p s x && !(headGoes gone s && isWriteItem x)) := by
        rw [List.filter_filter]
        refine List.filter_congr fun x _ => ?_
        cases x with
        | read i inc => simp only [itemOf, itemGoes, hdecide]
        | write a => rfl
      have hhead : (if headGoes gone s = true then headItem (queueLeft gone s) else []).filter
          (fun x => !itemOf (lead (fetchingReads p s)) x) = if headGoes gone s = true then headItem (queueLeft gone s) else [] := by
        split
        · exact headItem_not_read _ _
        · rfl
      have hitems : ((s.reads.order.filter (readReleased gone s)).map (readItem s)).filter (fun x => !itemOf (lead (fetchingReads p s)) x) =
          (s.reads.order.filter (fun i => !readGoes p s i && readReleased gone s i)).map (readItem s) := by
        rw [List.filter_map, List.filter_filter]
        simp only [Function.comp_def, readItem, itemOf, hdecide]
      rw [hbefore]
      show (_ ++ _ ++ _ : List ReadyItem).filter _ = _
      rw [List.filter_append, List.filter_append, hstay, hhead, hitems, readyLeft]
    have hstate := congrArg (fun u : State =>
      { u with
        reads := (failedReads r (lead (fetchingReads p s)) (purgeWrites gone r s)).reads
        sel := { u.sel with ready := readyLeft p gone s }
        ev := { u.ev with fault := (failedReads r (lead (fetchingReads p s)) (purgeWrites gone r s)).ev.fault } }) hw.rest
    refine Eq.trans ?_ hstate
    rw [← hready]
    rfl

end Sys2Proof.Machine


/-! ## The drain timer's expiry (R82, R144) -/

namespace Sys2Proof.Machine

variable {s t u v : State}

/-! ### The fault record after both parts -/

theorem purge_fault_of_some {a b : List FaultReport} {x : Option FaultRecord} {old : FaultRecord}
    (h : x = handOns (a ++ b) (some old) ∨ x = handOns (b ++ a) (some old)) :
    x = some { old with overflow := old.overflow || decide (0 < a.length + b.length) } := by
  obtain rfl | rfl := h
  · rw [handOns_some, List.length_append]
  · rw [handOns_some, List.length_append, Nat.add_comm]

/-- An empty record takes the first fault of the part that comes first. -/
theorem purge_fault_of_none {a b : List FaultReport} {x : Option FaultRecord} (h : x = handOns (a ++ b) none ∨ x = handOns (b ++ a) none) :
    if a.length + b.length = 0 then x = none
    else ∃ r, x = some { report := r, overflow := decide (1 < a.length + b.length) } ∧ (a.head? = some r ∨ b.head? = some r) := by
  have hfirst (l m : List FaultReport) (hlen : l.length + m.length ≠ 0) :
      ∃ r, handOns (l ++ m) none = some { report := r, overflow := decide (1 < l.length + m.length) } ∧
        (l.head? = some r ∨ m.head? = some r) := by
    rw [handOns_none, List.length_append]
    cases l with
    | cons r l => exact ⟨r, rfl, .inl rfl⟩
    | nil =>
      cases m with
      | cons r m => exact ⟨r, rfl, .inr rfl⟩
      | nil => exact absurd rfl hlen
  split
  next hzero =>
    have ha : a = [] := List.length_eq_zero_iff.mp (by omega)
    have hb : b = [] := List.length_eq_zero_iff.mp (by omega)
    subst ha hb
    obtain rfl | rfl := h <;> rfl
  next hsome =>
    obtain rfl | rfl := h
    · exact hfirst a b hsome
    · obtain ⟨r, hr, hhead⟩ := hfirst b a (by omega)
      exact ⟨r, by rw [hr, Nat.add_comm], hhead.symm⟩

/-! ### All of both tables -/

/-- Every read, and every write. -/
def allReads : ReadEntry → Bool := fun _ => true

def allWrites : PostedWrite → Bool := fun _ => true

theorem queueLeft_allWrites (s : State) : queueLeft allWrites s = [] ∧ droppedWrites allWrites s = [] := by
  have hkept : keptWrites allWrites s = [] := by simp [keptWrites, allWrites]
  simp [queueLeft, droppedWrites, hkept]

theorem readGoes_allReads (s : State) (i : ReadIndex) : readGoes allReads s i = fetching (readAt i s).state := Bool.and_true _

theorem drainAgents_purged (h : RequestsKept s) : AgentsPurged id allReads allWrites .leaving (s.setChoice (s.choice + 1)) (drainAgents s) := by
  have ht : RequestsKept (s.setChoice (s.choice + 1)) := h.of_same ⟨rfl, rfl, rfl, rfl⟩
  have hlead (l : List ReadIndex) : (id l).Perm l := .refl l
  have hdrained : drainAgents s =
      if Config.readPartFirst s.choice = true then
        purgeWrites allWrites .leaving (readsPart id allReads .leaving (s.setChoice (s.choice + 1)))
      else readsPart id allReads .leaving (purgeWrites allWrites .leaving (s.setChoice (s.choice + 1))) := rfl
  rw [hdrained]
  split
  · exact .of_reads_first hlead ht ht.drainReads
  · exact .of_writes_first hlead ht fun _ _ _ => rfl

/-- No read fetches any more. -/
theorem fetching_drainAgents (h : RequestsKept s) (i : ReadIndex) : fetching (readAt i (drainAgents s)).state = false := by
  have hp := drainAgents_purged h
  cases hf : fetching (readAt i s).state with
  | true =>
    have hgoes : readGoes allReads (s.setChoice (s.choice + 1)) i = true := (readGoes_allReads _ i).trans hf
    cases ho : (readAt i s).overtaken with
    | true => rw [hp.freed i hgoes ho]; rfl
    | false => rw [hp.failed i hgoes ho]; rfl
  | false =>
    have hgoes : readGoes allReads (s.setChoice (s.choice + 1)) i = false := (readGoes_allReads _ i).trans hf
    have hreleased : readReleased allWrites (s.setChoice (s.choice + 1)) i = false := by
      have hno : (readAt i s).state ≠ .waiting := fun hw => by simp [hw, fetching] at hf
      have hno' : (readAt i (s.setChoice (s.choice + 1))).state ≠ .waiting := hno
      simp [readReleased, hno']
    obtain ⟨hat, -⟩ := hp.still i hgoes hreleased
    rw [hat]
    exact hf

theorem drained_drainAgents (h : RequestsKept s) : drained (drainAgents s) = true := by
  have hp := drainAgents_purged h
  have hqueue : (drainAgents s).writes.queue = [] := by rw [hp.rest]; exact (queueLeft_allWrites _).1
  simp only [drained, hqueue, List.isEmpty_nil, Bool.true_and, List.all_eq_true, Bool.not_eq_true']
  intro e he
  obtain ⟨i, rfl⟩ := (mem_reads_iff hp.sized e).mp he
  exact fetching_drainAgents h i

/-- Nothing is ready where nothing fetches and no write is queued. -/
theorem ready_of_drained (h : RequestsKept s) (hd : drained s = true) : s.sel.ready = [] := by
  simp only [drained, Bool.and_eq_true, List.isEmpty_iff, List.all_eq_true, Bool.not_eq_true'] at hd
  obtain ⟨hq, hreads⟩ := hd
  refine List.eq_nil_iff_forall_not_mem.mpr fun x hx => ?_
  have hlisted := (h.ready x).mp hx
  rw [hq] at hlisted
  cases x with
  | read i inc =>
    have hidle := hreads _ ((mem_reads_iff h.sized _).mpr ⟨i, rfl⟩)
    simp [hlisted.1, fetching] at hidle
  | write a => simp [listedItem, readyAdmission_nil] at hlisted

/-- The state after the drain timer's expiry. -/
def drainEnded (s : State) : State :=
  { drainAgents s with
    sel := { (drainAgents s).sel with leaveMark := true }
    ctl := { s.ctl with drainTimer := none } }

theorem exec_drainTimerExpiry (hk : WellKept s) (hlow : s.port.resetLow = false) (hx : s.ctl.span = .leaving) (ht : s.ctl.drainTimer = some 0) :
    exec .drainTimerExpiry s = .next (drainEnded s) := by
  obtain ⟨hdir, hpeers, hctl⟩ := drainAgents_frame s
  have hdue : drainDue s = true := by simp [drainDue, hx, expired_iff, ht]
  have hleaving : ((drainAgents s).ctl.span = .leaving && drained (drainAgents s)) = true := by
    rw [hctl, drained_drainAgents hk.requestsKept, hx]
    rfl
  refine (stationEvent_eq (s := s) drainDue drainAgents).trans ?_
  rw [if_pos ⟨hlow, hdue⟩, event, eventEnd_of_same hpeers (by rw [hdir]), drainCheck, if_pos hleaving, drainEnded, ← hctl]
  rfl

/-- Settles O33. -/
theorem drainExpiryEndsTheWork : Obligations.DrainExpiryEndsTheWork := by
  intro s hk hlow hx ht ended faults
  have hkept := hk.requestsKept
  have hp := drainAgents_purged hkept
  obtain ⟨hqueue, hdropped⟩ := queueLeft_allWrites (s.setChoice (s.choice + 1))
  have hready := ready_of_drained hkept.drainAgents (drained_drainAgents hkept)
  have hreads : (readReports .leaving (id (fetchingReads allReads (s.setChoice (s.choice + 1)))) (s.setChoice (s.choice + 1))) =
      ended.map (fun i => readFault (readAt i s) .leaving) := by
    rw [readReports, id, fetchingReads_eq, List.filter_filter]
    refine congrArg (List.map _) (List.filter_congr fun i _ => ?_)
    rw [readGoes_allReads, Bool.and_comm]
    rfl
  have hall : s.writes.queue.filter allWrites = s.writes.queue := List.filter_eq_self.mpr fun _ _ => rfl
  have hwrites : writeReports allWrites .leaving (s.setChoice (s.choice + 1)) =
      s.writes.queue.head?.toList.map (fun w => writeFault w .leaving) := by
    rw [writeReports, hdropped, List.map_nil, List.append_nil]
    show List.map _ (s.writes.queue.filter allWrites).head?.toList = _
    rw [hall]
  have hlength : (ended.map (fun i => readFault (readAt i s) .leaving)).length +
      (s.writes.queue.head?.toList.map (fun w => writeFault w .leaving)).length = faults := by
    rw [List.length_map, List.length_map]
    refine congrArg (ended.length + ·) ?_
    cases s.writes.queue <;> rfl
  have hfault := hp.fault
  rw [hreads, hwrites] at hfault
  have hgoes (i : ReadIndex) : readGoes allReads (s.setChoice (s.choice + 1)) i = fetching (readAt i s).state := readGoes_allReads _ i
  refine ⟨drainEnded s, exec_drainTimerExpiry hk hlow hx ht, ?_, hp.sized, fun i => ?_, ?_, fun r hr => ?_, fun hr => ?_, ?_⟩
  · show (drainAgents s).writes = _
    rw [hp.rest, hqueue]
    rfl
  · show if fetching (readAt i s).state = true then _ else _
    split
    next hf =>
      split
      next ho => exact hp.freed i ((hgoes i).trans hf) ho
      next ho => exact hp.failed i ((hgoes i).trans hf) (Bool.eq_false_iff.mpr ho)
    next hf =>
      have hno : (readAt i (s.setChoice (s.choice + 1))).state ≠ .waiting := fun hw => hf (by
        have hw' : (readAt i s).state = .waiting := hw
        rw [hw']
        rfl)
      obtain ⟨hat, -⟩ := hp.still i ((hgoes i).trans (Bool.eq_false_iff.mpr hf)) (by simp [readReleased, hno])
      have hsame : readAt i (drainEnded s) = _ := hat
      rw [hsame]
      rfl
  · refine hp.order.trans (List.filter_congr fun i _ => ?_)
    rw [hgoes]
    rfl
  · rw [← hlength]
    have hfault' : (s.setChoice (s.choice + 1)).ev.fault = some r := hr
    rw [hfault'] at hfault
    exact purge_fault_of_some hfault
  · rw [← hlength]
    have hfault' : (s.setChoice (s.choice + 1)).ev.fault = none := hr
    rw [hfault'] at hfault
    have hnone := purge_fault_of_none hfault
    split
    next hzero => exact (if_pos hzero).mp hnone
    next hsome =>
      rw [if_neg hsome] at hnone
      obtain ⟨r, hr, hhead⟩ := hnone
      refine ⟨r, hr, hhead.imp (fun hhead => ?_) fun hhead => ?_⟩
      · obtain ⟨i, hi, rfl⟩ := by simpa [List.head?_map] using hhead
        exact ⟨i, hi, rfl⟩
      · cases hq : s.writes.queue with
        | nil => simp [hq] at hhead
        | cons w rest =>
          refine ⟨w, rfl, ?_⟩
          simpa [hq, writeFault, eq_comm] using hhead
  · have hcount : ((s.setChoice (s.choice + 1)).writes.queue.filter allWrites).length +
        (droppedWrites allWrites (s.setChoice (s.choice + 1))).length = s.writes.queue.length := by
      rw [hdropped]
      exact congrArg List.length hall
    have hstate := congrArg (fun u : State =>
      { u with
        reads := (drainAgents s).reads
        writes := (drainAgents s).writes
        sel := { u.sel with ready := (drainAgents s).sel.ready, leaveMark := true }
        ctl := { s.ctl with drainTimer := none }
        ev := { u.ev with fault := (drainAgents s).ev.fault } }) hp.rest
    refine hstate.trans ?_
    rw [hready, hcount]
    rfl

end Sys2Proof.Machine


/-! ## The loss of a peer (R128, Table 7.3) -/

namespace Sys2Proof.Machine

variable {s t u v : State} {n : Station} {bytes : List Byte} {f : Frame} {i : SpanInterface}

/-! ### The return rule, and what stands beside it -/

/-- The interface and the peers are others. -/
def aside (i : SpanInterface) (l : List PeerRecord) (s : State) : State := { s with iface := i, peers := l }

theorem returnRegion_aside (i : SpanInterface) (l : List PeerRecord) (s : State) (k : RegionIndex) :
    returnRegion (aside i l s) k = aside i l (returnRegion s k) := by
  unfold returnRegion
  by_cases h : (decide (statusOf k s = .eclipsed) && !s.dir.entries.any (dirOverlaps (ownEntry k s)) &&
      decide (s.dir.entries.length < Config.directoryCapacity)) = true
  · rw [if_pos h]
    exact if_pos h
  · rw [if_neg h]
    exact if_neg h

theorem returnRule_aside (i : SpanInterface) (l : List PeerRecord) (s : State) : returnRule (aside i l s) = aside i l (returnRule s) := by
  have hfold (m : List RegionIndex) (v : State) : m.foldl returnRegion (aside i l v) = aside i l (m.foldl returnRegion v) := by
    induction m generalizing v with
    | nil => rfl
    | cons k m ih => rw [List.foldl_cons, returnRegion_aside, ih, List.foldl_cons]
  have hrequest (b : List OwnStatus) (v : State) : requestIfReturned b (aside i l v) = aside i l (requestIfReturned b v) := by
    unfold requestIfReturned
    by_cases h : (decide (v.ctl.span = .online) && decide (v.dir.statuses ≠ b)) = true
    · rw [if_pos h, requestAnnounce_eq, requestAnnounce_eq]
      exact if_pos h
    · rw [if_neg h]
      exact if_neg h
  unfold returnRule
  by_cases hon : onSpan s.ctl.span = true
  · rw [if_pos hon, if_pos (show onSpan (aside i l s).ctl.span = true from hon), hfold]
    exact hrequest _ _
  · rw [if_neg hon, if_neg (show ¬onSpan (aside i l s).ctl.span = true from hon)]

theorem returnRegions_write (m : List RegionIndex) (v : State) :
    m.foldl returnRegion v =
      { v with
        dir := { (m.foldl returnRegion v).dir with generation := v.dir.generation }
        ev := { v.ev with flags := { v.ev.flags with eclipse := (m.foldl returnRegion v).ev.flags.eclipse } } } := by
  induction m generalizing v with
  | nil => rfl
  | cons k m ih =>
    rw [List.foldl_cons]
    unfold returnRegion
    split
    · exact (ih (returnedOne k v)).trans rfl
    · exact ih v

/-- It writes of the events ECLIPSE alone, and of the selector the mark alone. -/
theorem returnRule_writes (s : State) :
    returnRule s =
      { s with
        dir := { (returnRule s).dir with generation := s.dir.generation }
        sel := { (returnRule s).sel with ready := s.sel.ready }
        ev := { s.ev with flags := { s.ev.flags with eclipse := (returnRule s).ev.flags.eclipse } } } := by
  unfold returnRule
  split
  · have hfold := returnRegions_write allRegionIndexes s
    generalize allRegionIndexes.foldl returnRegion s = w at hfold ⊢
    have hsel : w.sel = s.sel := (congrArg State.sel hfold).trans rfl
    unfold requestIfReturned
    split
    · rw [requestAnnounce_eq]
      refine (congrArg withAnnounceAsked hfold).trans ?_
      simp only [withAnnounceAsked, hsel]
    · refine hfold.trans ?_
      simp only [hsel]
  · rfl

/-! ### The loss, block by block -/

/-- The lost peer's record before the marks. -/
def lostFrom (n : Station) (s : State) : PeerRecord := { PeerRecord.reset with changed := (peerOf n s).changed }

/-- The directory and the selector once the peer's entries are gone. -/
def directoryLost (n : Station) (s : State) : State :=
  returnRule { s with dir := { s.dir with entries := s.dir.entries.filter (fun e => e.owner != n) } }

/-- The station before the two agents' parts: the record is written, and the directory has lost the peer's entries. -/
def lossBegun (i : SpanInterface) (n : Station) (s : State) : State :=
  aside i (s.peers.set (n.toNat - 1) (lostFrom n s)) (directoryLost n s)

/-- The reads and the writes of the peer. -/
def readsOf (n : Station) : ReadEntry → Bool := fun e => e.dest == n

def writesOf (n : Station) : PostedWrite → Bool := fun w => w.dest == n

theorem losePeer_eq {l : List PeerRecord} (hn : validStation n = true)
    (hl : l.set (n.toNat - 1) (lostRecord (peerOf n (aside i l s))) = s.peers.set (n.toNat - 1) (lostFrom n s)) :
    losePeer n (aside i l s) = purgeResponses n (agentsLose n (lossBegun i n s)) := by
  have hset : removeOwner n (setPeer n (lostRecord (peerOf n (aside i l s))) (aside i l s)) =
      aside i (s.peers.set (n.toNat - 1) (lostFrom n s))
        { s with dir := { s.dir with entries := s.dir.entries.filter (fun e => e.owner != n) } } := by
    rw [setPeer, if_pos hn, show (aside i l s).peers = l from rfl, hl]
    rfl
  rw [losePeer, directoryLoses, hset, returnRule_aside]
  rfl

theorem leadWith_perm (k : Nat) (l : List ReadIndex) : (leadWith k l).Perm l :=
  List.perm_append_comm.trans (by rw [List.take_append_drop])

theorem agentsLose_purged (h : RequestsKept s) (n : Station) :
    AgentsPurged (leadWith (Config.firstPurgedRead s.choice)) (readsOf n) (writesOf n) .peerLost (s.setChoice (s.choice + 1)) (agentsLose n s) := by
  have ht : RequestsKept (s.setChoice (s.choice + 1)) := h.of_same ⟨rfl, rfl, rfl, rfl⟩
  have hlead := leadWith_perm (Config.firstPurgedRead s.choice)
  have hagents : agentsLose n s =
      if Config.readPartFirst s.choice = true then
        purgeWrites (writesOf n) .peerLost
          (readsPart (leadWith (Config.firstPurgedRead s.choice)) (readsOf n) .peerLost (s.setChoice (s.choice + 1)))
      else
        readsPart (leadWith (Config.firstPurgedRead s.choice)) (readsOf n) .peerLost
          (purgeWrites (writesOf n) .peerLost (s.setChoice (s.choice + 1))) := rfl
  rw [hagents]
  split
  · exact .of_reads_first hlead ht (ht.purgeReads n _)
  · exact .of_writes_first hlead ht fun e e' hd => by rw [readsOf, readsOf, hd]

/-! ### The write agent sees the lost peer's record nowhere else -/

theorem peerOf_of_set_other {m : Station} (hm : m ≠ n) {r : PeerRecord} (hn : validStation n = true) (ht : t.peers = s.peers.set (n.toNat - 1) r) :
    peerOf m t = peerOf m s :=
  (peerOf_congr m (ht.trans (setPeer_peers hn r s).symm)).trans (peerOf_setPeer_other s m n r hm)

theorem takeWhile_congr_of_mem {α : Type} {p q : α → Bool} : ∀ {l : List α}, (∀ x ∈ l, p x = q x) → l.takeWhile p = l.takeWhile q
  | [], _ => rfl
  | x :: l, h => by
    rw [List.takeWhile_cons, List.takeWhile_cons, h x List.mem_cons_self,
      takeWhile_congr_of_mem fun y hy => h y (List.mem_cons_of_mem x hy)]

theorem dropWhile_congr_of_mem {α : Type} {p q : α → Bool} : ∀ {l : List α}, (∀ x ∈ l, p x = q x) → l.dropWhile p = l.dropWhile q
  | [], _ => rfl
  | x :: l, h => by
    rw [List.dropWhile_cons, List.dropWhile_cons, h x List.mem_cons_self,
      dropWhile_congr_of_mem fun y hy => h y (List.mem_cons_of_mem x hy)]

/-- The write agent's part, in the terms of the station before the loss. -/
theorem write_part_of_loss (hn : validStation n = true) {r : PeerRecord} (hq : t.writes = s.writes)
    (hp : t.peers = s.peers.set (n.toNat - 1) r) :
    headGoes (writesOf n) t = headTo n s ∧ (droppedWrites (writesOf n) t).length = droppedAfter n s ∧
      queueLeft (writesOf n) t = (if headTo n s = true then (writesKept n s).dropWhile (unreachableNow s) else writesKept n s) ∧
      ∀ k, aheadLeft (writesOf n) t k = stillAhead n s k := by
  have hhead : headGoes (writesOf n) t = headTo n s := by rw [headGoes, hq]; rfl
  have hkept : keptWrites (writesOf n) t = writesKept n s := by rw [keptWrites, hq]; rfl
  have hsame (w : PostedWrite) (hw : w ∈ writesKept n s) : unreachableNow t w = unreachableNow s w := by
    have hother : w.dest ≠ n := by simpa using (List.mem_filter.mp hw).2
    rw [unreachableNow, peerOf_of_set_other hother hn hp, unreachableNow]
  have hdropped : (droppedWrites (writesOf n) t).length = droppedAfter n s := by
    rw [droppedWrites, hhead, hkept, takeWhile_congr_of_mem hsame, droppedAfter]
    split <;> rfl
  refine ⟨hhead, hdropped, ?_, fun k => ?_⟩
  · rw [queueLeft, hhead, hkept, dropWhile_congr_of_mem hsame]
  · rw [aheadLeft, hdropped, hq]
    rfl

/-! ### The state after the loss -/

/-- The queue, and the ready list, after the loss. -/
def queueAfterLoss (n : Station) (s : State) : List PostedWrite :=
  if headTo n s = true then (writesKept n s).dropWhile (unreachableNow s) else writesKept n s

def readyAfterLoss (n : Station) (s : State) : List ReadyItem :=
  s.sel.ready.filter (fun x =>
      match x with
      | .read i _ => !readLost n s i
      | .write _ => !headTo n s) ++
    (if headTo n s = true then headItem (queueAfterLoss n s) else []) ++
    (s.reads.order.filter (readFreed n s)).map (readItem s)

/-- The station before the agents' parts, one free choice further. -/
def lossChosen (i : SpanInterface) (n : Station) (s : State) : State :=
  (lossBegun i n s).setChoice ((lossBegun i n s).choice + 1)

/-- The station after the loss, but for the drain. -/
def lossEnded (i : SpanInterface) (n : Station) (s : State) : State :=
  { s with
    iface := i
    peers := s.peers.set (n.toNat - 1)
      { PeerRecord.reset with changed := (peerOf n s).changed || decide ((peerOf n s).presence ≠ .absent) }
    dir := (withContentMarked s.dir.entries (directoryLost n s)).dir
    resp := { s.resp with responses := s.resp.responses.filter (fun r => r.dest != n) }
    writes := { s.writes with queue := queueAfterLoss n s }
    reads := (agentsLose n (lossBegun i n s)).reads
    sel := { (directoryLost n s).sel with ready := readyAfterLoss n s }
    ev :=
      { s.ev with
        fault := (agentsLose n (lossBegun i n s)).ev.fault
        flags :=
          { (directoryLost n s).ev.flags with
            peer := s.ev.flags.peer || decide ((peerOf n s).presence ≠ .absent)
            directory := s.ev.flags.directory || decide ((directoryLost n s).dir.entries ≠ s.dir.entries) }
        counters := addCounter s.ev.counters .writeLoss ((writesTo n s).length + droppedAfter n s) }
    choice := s.choice + 1 }

theorem directoryLost_rest (n : Station) (s : State) :
    directoryLost n s =
      { s with
        dir := { (directoryLost n s).dir with generation := s.dir.generation }
        sel := { (directoryLost n s).sel with ready := s.sel.ready }
        ev := { s.ev with flags := { s.ev.flags with eclipse := (directoryLost n s).ev.flags.eclipse } } } := by
  rw [directoryLost]
  exact (returnRule_writes _).trans rfl

theorem readFreed_eq (hleft : ∀ k, aheadLeft (writesOf n) t k = stillAhead n s k) (hreads : t.reads = s.reads) (j : ReadIndex) :
    (!readGoes (readsOf n) t j && readReleased (writesOf n) t j) = readFreed n s j := by
  have hat : readAt j t = readAt j s := readAt_congr j hreads
  rw [readGoes, readReleased, hat, hleft, readFreed, readsOf]
  by_cases hw : (readAt j s).state = .waiting
  · rw [hw]
    rfl
  · have hno : ((readAt j s).state == ReadState.waiting) = false := beq_eq_false_iff_ne.mpr hw
    rw [hno, Bool.false_and, Bool.and_false, Bool.false_and, Bool.false_and]

theorem readyLeft_eq (hn : validStation n = true) {r : PeerRecord} (hq : t.writes = s.writes) (hp : t.peers = s.peers.set (n.toNat - 1) r)
    (hreads : t.reads = s.reads) (hsel : t.sel.ready = s.sel.ready) : readyLeft (readsOf n) (writesOf n) t = readyAfterLoss n s := by
  obtain ⟨hhead, -, hqueue, hleft⟩ := write_part_of_loss hn hq hp
  have hat (j : ReadIndex) : readAt j t = readAt j s := readAt_congr j hreads
  have hgoes (j : ReadIndex) : readGoes (readsOf n) t j = readLost n s j := by rw [readGoes, hat]; rfl
  rw [readyLeft, hhead, hqueue, hsel, hreads, funext (readFreed_eq hleft hreads), readyAfterLoss]
  congr 1
  · congr 1
    refine List.filter_congr fun x _ => ?_
    cases x with
    | read j inc => simp [itemGoes, isWriteItem, hgoes]
    | write a => simp [itemGoes, isWriteItem]
  · refine List.map_congr_left fun j _ => ?_
    rw [readItem, hat, readItem]

theorem withContentMarked_closed (before : List DirEntry) (v : State) :
    withContentMarked before v =
      { v with
        dir := { v.dir with generation := if v.dir.entries = before then v.dir.generation else v.dir.generation + 1 }
        ev := { v.ev with flags := { v.ev.flags with directory := v.ev.flags.directory || decide (v.dir.entries ≠ before) } } } := by
  unfold withContentMarked
  split
  next h => simp [← h]
  next h => simp [h, withFlag, setFlag]

theorem lossBegun_fields (i : SpanInterface) (n : Station) (s : State) :
    (lossBegun i n s).reads = s.reads ∧ (lossBegun i n s).writes = s.writes ∧ (lossBegun i n s).sel.ready = s.sel.ready ∧
      (lossBegun i n s).ctl = s.ctl ∧ (lossBegun i n s).ev.fault = s.ev.fault := by
  have hrest := directoryLost_rest n s
  refine ⟨(congrArg State.reads hrest).trans rfl, (congrArg State.writes hrest).trans rfl, ?_, (congrArg State.ctl hrest).trans rfl, ?_⟩
  · exact (congrArg (fun u => u.sel.ready) hrest).trans rfl
  · exact (congrArg (fun u => u.ev.fault) hrest).trans rfl

theorem loss_purged (h : RequestsKept s) (i : SpanInterface) (n : Station) :
    AgentsPurged (leadWith (Config.firstPurgedRead (lossBegun i n s).choice)) (readsOf n) (writesOf n) .peerLost (lossChosen i n s)
      (agentsLose n (lossBegun i n s)) := by
  obtain ⟨hreads, hwrites, hready, hctl, -⟩ := lossBegun_fields i n s
  exact agentsLose_purged (h.of_same ⟨hreads, by rw [hwrites], hready, by rw [hctl]⟩) n

theorem eventEnd_loss (h : RequestsKept s) (hn : validStation n = true) (hs : s.peers.length = Config.peerRecords) (i : SpanInterface) :
    eventEnd s (purgeResponses n (agentsLose n (lossBegun i n s))) = drainCheck (lossEnded i n s) := by
  have hrest := directoryLost_rest n s
  obtain ⟨hreads, hwrites, hready, -, -⟩ := lossBegun_fields i n s
  have hp := loss_purged h i n
  have hgone : (lossChosen i n s).writes.queue.filter (writesOf n) = writesTo n s :=
    congrArg (fun x : WriteAgent => x.queue.filter (writesOf n)) hwrites
  obtain ⟨hhead, hdropped, hqueue, -⟩ := write_part_of_loss (t := lossChosen i n s) hn hwrites rfl
  have hlist := readyLeft_eq (t := lossChosen i n s) hn hwrites rfl hreads hready
  have hpeers : (purgeResponses n (agentsLose n (lossBegun i n s))).peers = s.peers.set (n.toNat - 1) (lostFrom n s) := by
    rw [show (purgeResponses n (agentsLose n (lossBegun i n s))).peers = (agentsLose n (lossBegun i n s)).peers from rfl, hp.rest]
    rfl
  have hmarked := congrArg (fun v => withContentMarked s.dir.entries
    (marked (s.peers.set (n.toNat - 1) (markChanged (peerOf n s) (lostFrom n s))) (presenceMoved (peerOf n s) (lostFrom n s))
      (purgeResponses n v))) hp.rest
  rw [eventEnd, peerEventEnd_of_set hn hs hpeers, directoryEventEnd_eq, hmarked, hgone, hdropped, hqueue, hlist,
    markChanged_eq (peerOf n s) (lostFrom n s) rfl]
  refine congrArg drainCheck ?_
  unfold lossEnded
  generalize (agentsLose n (lossBegun i n s)).reads = reads
  generalize (agentsLose n (lossBegun i n s)).ev.fault = fault
  unfold lossChosen lossBegun
  generalize directoryLost n s = d at hrest ⊢
  generalize d.dir = e, d.sel = sl, d.ev.flags.eclipse = f at hrest
  subst hrest
  simp only [withContentMarked_closed]
  rfl

/-! ### What the loss leaves, clause by clause -/

theorem readGoes_chosen (n : Station) (i : SpanInterface) (s : State) (hreads : (lossChosen i n s).reads = s.reads) (j : ReadIndex) :
    readGoes (readsOf n) (lossChosen i n s) j = readLost n s j := by
  rw [readGoes, readAt_congr j hreads]
  rfl

/-- The head is the first of the peer's writes, if it is one of them; and with none of them nothing is dropped. -/
theorem dropped_of_no_write (h : headTo n s = false) : droppedAfter n s = 0 := by rw [droppedAfter, h]; rfl

theorem writesTo_of_head (h : headTo n s = true) : writesTo n s ≠ [] := by
  unfold headTo at h
  unfold writesTo
  cases hq : s.writes.queue with
  | nil => simp [hq] at h
  | cons w q =>
    have hw : (w.dest == n) = true := by simpa [hq] using h
    simp [hw]

theorem writeReports_loss (hq : t.writes = s.writes) (hdropped : (droppedWrites (writesOf n) t).length = droppedAfter n s) :
    (writeReports (writesOf n) .peerLost t).length = (if writesTo n s = [] then 0 else 1) + droppedAfter n s ∧
      ∀ r, (writeReports (writesOf n) .peerLost t).head? = some r →
        ∃ w, (writesTo n s).head? = some w ∧ r = { op := .write, reason := .peerLost, addr := w.addr, station := n } := by
  have hto : t.writes.queue.filter (writesOf n) = writesTo n s := by rw [hq]; rfl
  rw [writeReports, hto]
  cases hw : writesTo n s with
  | nil =>
    have hhead : headTo n s = false := Bool.eq_false_iff.mpr fun hh => writesTo_of_head hh hw
    have hnone := dropped_of_no_write hhead
    have hnil : droppedWrites (writesOf n) t = [] := List.length_eq_zero_iff.mp (hdropped.trans hnone)
    simp [hnil, hnone]
  | cons w l =>
    have hmem : w ∈ writesTo n s := by rw [hw]; exact List.mem_cons_self
    have hdest : w.dest = n := by simpa [writesTo] using (List.mem_filter.mp hmem).2
    refine ⟨by simp [hdropped, Nat.add_comm], fun r hr => ⟨w, rfl, ?_⟩⟩
    have hr' : writeFault w .peerLost = r := by simpa using hr
    rw [← hr', writeFault, hdest]

theorem readReports_loss (hgoes : ∀ j, readGoes (readsOf n) t j = readLost n s j) (hreads : t.reads = s.reads)
    {lead : List ReadIndex → List ReadIndex}
    (hlead : ∀ l, (lead l).Perm l) :
    (readReports .peerLost (lead (fetchingReads (readsOf n) t)) t).length =
        (s.reads.order.filter (fun j => readLost n s j && !(readAt j s).overtaken)).length ∧
      ∀ r, (readReports .peerLost (lead (fetchingReads (readsOf n) t)) t).head? = some r →
        ∃ j, readLost n s j = true ∧ (readAt j s).overtaken = false ∧
          r = { op := .read, reason := .peerLost, addr := (readAt j s).addr, station := n } := by
  have hat (j : ReadIndex) : readAt j t = readAt j s := readAt_congr j hreads
  have hfetching : fetchingReads (readsOf n) t = s.reads.order.filter (readLost n s) := by
    rw [fetchingReads_eq, hreads, funext hgoes]
  refine ⟨?_, fun r hr => ?_⟩
  · rw [readReports, List.length_map, hfetching, ((hlead _).filter _).length_eq, List.filter_filter]
    refine congrArg List.length (List.filter_congr fun j _ => ?_)
    rw [hat, Bool.and_comm]
  · obtain ⟨j, hj, rfl⟩ := List.mem_map.mp (List.mem_of_mem_head? hr)
    obtain ⟨hj, hover⟩ := List.mem_filter.mp hj
    rw [(hlead _).mem_iff, hfetching] at hj
    have hlost := (List.mem_filter.mp hj).2
    have hdest : (readAt j s).dest = n := by
      simp only [readLost, Bool.and_eq_true, beq_iff_eq] at hlost
      exact hlost.2
    rw [hat] at hover
    refine ⟨j, hlost, by simpa using hover, ?_⟩
    rw [readFault, hat, hdest]

/-- What the rows of the loss say of its result. -/
structure LossRight (n : Station) (s v : State) : Prop where
  sized : v.reads.entries.length = 8
  reads : ∀ i,
    if readLost n s i = true then
      if (readAt i s).overtaken = true then readAt i v = ReadEntry.free (readAt i s).incarnation
      else
        readAt i v =
          { readAt i s with
            state := .complete, outcome := some (.fault .peerLost), data := [], responseTimer := none
            discardTimer := some (s.ctl.config.discardTime.toNat * 1000), ahead := (readAt i v).ahead }
    else if readFreed n s i = true then readAt i v = { readAt i s with state := .ready, ahead := 0 }
    else
      readAt i v = { readAt i s with ahead := (readAt i v).ahead } ∧
        ((readAt i s).state = .waiting → (readAt i v).ahead = stillAhead n s (readAt i s).ahead)
  order : v.reads.order = s.reads.order.filter (fun i => !(readLost n s i && (readAt i s).overtaken))
  valid : ∀ r, s.ev.fault = some r → v.ev.fault = some { r with overflow := r.overflow || decide (0 < lossFaults n s) }
  empty : s.ev.fault = none →
    if lossFaults n s = 0 then v.ev.fault = none
    else
      ∃ r, v.ev.fault = some { report := r, overflow := decide (1 < lossFaults n s) } ∧
        ((∃ i, readLost n s i = true ∧ (readAt i s).overtaken = false ∧
            r = { op := .read, reason := .peerLost, addr := (readAt i s).addr, station := n }) ∨
          ∃ w, (writesTo n s).head? = some w ∧
            r = { op := .write, reason := .peerLost, addr := w.addr, station := n })

theorem lossRight (h : RequestsKept s) (hn : validStation n = true) (i : SpanInterface) : LossRight n s (lossEnded i n s) := by
  obtain ⟨hreads, hwrites, hready, hctl, hfault⟩ := lossBegun_fields i n s
  have hp := loss_purged h i n
  have hgoes := readGoes_chosen n i s hreads
  obtain ⟨-, hdropped, -, hleft⟩ := write_part_of_loss (t := lossChosen i n s) hn hwrites rfl
  have hat (j : ReadIndex) : readAt j (lossChosen i n s) = readAt j s := readAt_congr j hreads
  have hlead := leadWith_perm (Config.firstPurgedRead (lossBegun i n s).choice)
  obtain ⟨hreadCount, hreadFirst⟩ := readReports_loss (t := lossChosen i n s) hgoes hreads hlead
  obtain ⟨hwriteCount, hwriteFirst⟩ := writeReports_loss (t := lossChosen i n s) hwrites hdropped
  have hcount : _ = lossFaults n s := (congrArg₂ (· + ·) hreadCount hwriteCount).trans (Nat.add_assoc _ _ _).symm
  have hrecord := hp.fault
  rw [show (lossChosen i n s).ev.fault = s.ev.fault from hfault] at hrecord
  refine ⟨hp.sized, fun j => ?_, ?_, fun r hr => ?_, fun hr => ?_⟩
  · have hfree := readFreed_eq (t := lossChosen i n s) hleft hreads j
    have hsame : readAt j (lossEnded i n s) = readAt j (agentsLose n (lossBegun i n s)) := rfl
    rw [hsame]
    rw [hgoes] at hfree
    split
    next hlost =>
      split
      next ho => exact (hp.freed j ((hgoes j).trans hlost) (by rw [hat]; exact ho)).trans (by rw [hat])
      next ho =>
        refine (hp.failed j ((hgoes j).trans hlost) (by rw [hat]; exact Bool.eq_false_iff.mpr ho)).trans ?_
        rw [hat, show (lossChosen i n s).ctl = s.ctl from hctl]
    next hlost =>
      have hlost' := Bool.eq_false_iff.mpr hlost
      have hreleased : readReleased (writesOf n) (lossChosen i n s) j = readFreed n s j := by
        rw [← hfree, hlost']
        rfl
      split
      next hf => exact (hp.released j ((hgoes j).trans hlost') (hreleased.trans hf)).trans (by rw [hat])
      next hf =>
        obtain ⟨hstill, hahead⟩ := hp.still j ((hgoes j).trans hlost') (hreleased.trans (Bool.eq_false_iff.mpr hf))
        rw [hat, hleft] at hahead
        rw [hat] at hstill
        exact ⟨hstill, hahead⟩
  · refine hp.order.trans ?_
    rw [show (lossChosen i n s).reads = s.reads from hreads]
    simp only [hgoes, hat]
  · rw [hr] at hrecord
    exact (purge_fault_of_some hrecord).trans (by rw [hcount])
  · rw [hr] at hrecord
    have hnone := purge_fault_of_none hrecord
    rw [hcount] at hnone
    split
    next hzero => exact (if_pos hzero).mp hnone
    next hsome =>
      rw [if_neg hsome] at hnone
      obtain ⟨r, hr, hhead⟩ := hnone
      exact ⟨r, hr, hhead.imp (hreadFirst r) (hwriteFirst r)⟩

/-! ### The two rows -/

/-- The frame has been heard, or nothing has: the station stands aside of the one before. -/
theorem taken_eq_aside (hx : hearing s.ctl.span = true) (hn : validStation f.src = true) :
    taken bytes f s =
      aside (withFrame bytes s).iface (s.peers.set (f.src.toNat - 1) { peerOf f.src s with presence := .present, heardAgo := 0 }) s := by
  rw [taken_of_hearing hx hn]
  rfl

theorem body_of_leave {b : Body} (h : bodyKind b = .leave) : b = .leave := by
  cases b with
  | leave => rfl
  | readReq | readRsp | nack | write | writeAck | heartbeat | announce => simp [bodyKind] at h

theorem exec_leaveFrame_lost (hk : WellKept s) (h : arrivesHere .leave bytes f s) (hx : hearing s.ctl.span = true) :
    exec (.leaveFrame bytes) s = .next (drainCheck (lossEnded (withFrame bytes s).iface f.src s)) := by
  obtain ⟨hrec, hf, hstop, hsrc, hdest⟩ := id h
  have hn : validStation f.src = true := checkFrame_src (frameCommand_of_checkFrameOf hf).1
  have hbody : f.body = .leave := body_of_leave (frameCommand_of_checkFrameOf hf).2
  have hx' : hearing (taken bytes f s).ctl.span = true := by rw [(taken_frame bytes f s).2.2.2.2.2.2.1]; exact hx
  refine (hk.exec_frame (k := .leave) hrec hf hsrc).trans ?_
  rw [event, frameArrives_eq hstop hsrc, if_pos hdest]
  simp only [frameContent, hbody, takeLeave, if_pos hx']
  have hrecord : peerOf f.src (taken bytes f s) = { peerOf f.src s with presence := .present, heardAgo := 0 } :=
    peerOf_set hn hk.sized.1 (by rw [taken_eq_aside hx hn]; rfl)
  have hlose := losePeer_eq (s := s) (i := (withFrame bytes s).iface)
    (l := s.peers.set (f.src.toNat - 1) { peerOf f.src s with presence := .present, heardAgo := 0 }) hn (by
      rw [← taken_eq_aside hx hn, hrecord, List.set_set]
      rfl)
  rw [taken_eq_aside hx hn, hlose, eventEnd_loss hk.requestsKept hn hk.sized.1]

theorem exec_absenceLimit_lost (hk : WellKept s) (hn : validStation n = true) (hlow : s.port.resetLow = false)
    (ha : absenceReached n s = true) : exec (.absenceLimit n) s = .next (drainCheck (lossEnded s.iface n s)) := by
  have hlose : losePeer n s = purgeResponses n (agentsLose n (lossBegun s.iface n s)) := losePeer_eq (l := s.peers) hn rfl
  simp only [exec, execAbsenceLimit, if_pos hn]
  rw [stationEvent_eq, if_pos ⟨hlow, ha⟩, event, hlose, eventEnd_loss hk.requestsKept hn hk.sized.1]

/-- Settles O27: by the closed form of both agents' parts, in either order, between the directory's part and the answers'. -/
theorem lossOfAPeer : Obligations.LossOfAPeer := by
  intro s n hk record dir lost
  have hlost (i : SpanInterface) (c : Instr) (hn : validStation n = true) (hc : exec c s = .next (drainCheck (lossEnded i n s))) :
      lost { s with iface := i } c := by
    obtain ⟨hsized, hreads, horder, hvalid, hempty⟩ := lossRight hk.requestsKept hn i
    exact ⟨lossEnded i n s, hc, rfl, hsized, hreads, horder, hvalid, hempty⟩
  refine ⟨fun bytes f h hsrc hx => ?_, fun hn hlow hp hlimit => ?_⟩
  · subst hsrc
    exact hlost _ _ (checkFrame_src (frameCommand_of_checkFrameOf h.2.1).1) (exec_leaveFrame_lost hk h hx)
  · exact hlost s.iface _ hn (exec_absenceLimit_lost hk hn hlow (absenceReached_iff.mpr ⟨hp, hlimit⟩))

end Sys2Proof.Machine


/-! ## Host cycles that reach no block, and cycles of one word (chapter 10) -/

namespace Sys2Proof.Machine

variable {s t u v : State} {be : Enables} {c : Instr} {dir : Strobe} {a : BitVec 15}

/-! ### A row that begins a cycle is a cycle of the port, whatever its owner makes of it -/

theorem aperturePastEnd_of_not_taken {w : BitVec 12} (h : cycleTaken be s = false) : aperturePastEnd w be s = false := by
  rw [aperturePastEnd, h, Bool.false_and]

/-- Where the port hands no cycle to its owner, every row that begins one is answered by the port alone. -/
theorem exec_of_cycle (hw : c.wellFormed = true) (hc : cycleOf c = some (dir, a, be)) (ht : cycleTaken be s = false)
    (hb : beginsCycle s c = true) : ∃ owner, exec c s = .next (hostCycle dir a be owner s) := by
  have hpast (w : BitVec 12) : ¬aperturePastEnd w be s = true := by simp [aperturePastEnd_of_not_taken ht]
  cases c with
  | apertureRead notice w b =>
    cases hc
    exact ⟨_, if_neg (hpast w)⟩
  | apertureWrite notice w b d =>
    cases hc
    exact ⟨_, if_neg (hpast w)⟩
  | cycleDuringClear dir a b =>
    cases hc
    exact ⟨answerOnly .retry 0, congrArg Host.Outcome.next (if_pos hb)⟩
  | unknownCommand b d =>
    cases hc
    have hknown : ¬(be.lo && knownCode (writtenCode be d)) = true := Bool.eq_false_iff.mp (Bool.not_eq_true' _ ▸ hw)
    exact ⟨_, if_neg hknown⟩
  | peerViewFirstWordRead a b =>
    cases hc
    exact ⟨_, if_pos hw⟩
  | registerWriteFault a b =>
    cases hc
    exact ⟨_, if_pos hw⟩
  | unclaimedAccess dir a b =>
    cases hc
    exact ⟨_, if_pos (by simpa [Instr.wellFormed] using hw)⟩
  | noByteEnableCycle dir a =>
    cases hc
    exact ⟨_, if_pos (by simpa [Instr.wellFormed] using hw)⟩
  | hostRamRead | hostRamWrite | join | leave | restart | noticePop | clearFault | clearCounters | eventFlagsWrite | eventEnableWrite
  | apertureBaseWrite | configWrite | bitDivWrite | tickDivWrite | bothStrobesCycle =>
    cases hc
    exact ⟨_, rfl⟩
  | _ => simp [cycleOf] at hc

theorem beginsCycle_of_clearing (hc : cycleOf c = some (dir, a, be)) (h : s.port.clearing = true) : beginsCycle s c = true := by
  cases c with
  | cycleDuringClear => exact h
  | _ => simp [beginsCycle, hc]

theorem cycleOf_of_begins (hb : beginsCycle s c = true) : ∃ dir a be, cycleOf c = some (dir, a, be) := by
  have hsome : (cycleOf c).isSome = true := by
    cases c with
    | cycleDuringClear => rfl
    | _ => exact hb
  obtain ⟨⟨dir, a, be⟩, hc⟩ := Option.isSome_iff_exists.mp hsome
  exact ⟨dir, a, be, hc⟩

/-- With both strobes low the port answers FAULT itself, and with no byte enabled DATA/OK. -/
theorem hostCycle_both (hp : portReady s) {owner : State → Taken} : hostCycle .both a be owner s = withCycle .both a be .fault none s := by
  obtain ⟨hheld, hlow, hclear⟩ := hp
  simp [hostCycle, hheld, hlow, hclear, answerCycle, latchCycle, withCycle, answerOnly, State.setPort]

theorem hostCycle_noByte (hp : portReady s) (hd : dir ≠ .both) (hb : someByte be = false) {owner : State → Taken} :
    hostCycle dir a be owner s = withCycle dir a be .ok (if dir = .read then some 0 else none) s := by
  obtain ⟨hheld, hlow, hclear⟩ := hp
  simp [hostCycle, hheld, hlow, hclear, hd, hb, answerCycle, latchCycle, withCycle, answerOnly, State.setPort]

/-- Settles O50. -/
theorem cyclesThatReachNoBlock : Obligations.CyclesThatReachNoBlock := by
  refine ⟨fun s a be => ⟨fun hp hb ha => ?_, fun hp hb ha => ?_, fun hp => ?_, fun hp => ?_, fun h hl hcl => ?_⟩,
    fun s c dir a be hw hc h hl hcl => ?_, fun s c hw hb => ?_⟩
  · refine (if_pos ha).trans ?_
    rw [hostCycle_taken _ _ _ _ _ hp (by simp) hb]
    rfl
  · have hexec (dir : Strobe) (hd : dir ≠ .both) :
        exec (.unclaimedAccess dir a be) s = .next (hostCycle dir a be (answerOnly .fault 0) s) := if_pos (by simp [hd, ha])
    rw [hexec _ (by simp), hexec _ (by simp), hostCycle_taken _ _ _ _ _ hp (by simp) hb, hostCycle_taken _ _ _ _ _ hp (by simp) hb]
    exact ⟨rfl, rfl⟩
  · exact congrArg Host.Outcome.next (hostCycle_both hp)
  · have hexec (dir : Strobe) (hd : dir ≠ .both) :
        exec (.noByteEnableCycle dir a) s = .next (hostCycle dir a { lo := false, hi := false } (answerOnly .ok 0) s) := if_pos hd
    rw [hexec _ (by simp), hexec _ (by simp), hostCycle_noByte hp (by simp) rfl, hostCycle_noByte hp (by simp) rfl]
    exact ⟨rfl, rfl⟩
  · have hexec (dir : Strobe) : exec (.cycleDuringClear dir a be) s = .next (hostCycle dir a be (answerOnly .retry 0) s) :=
      congrArg Host.Outcome.next (if_pos hcl)
    rw [hexec, hexec, hostCycle_clearing _ _ _ _ _ h hl hcl, hostCycle_clearing _ _ _ _ _ h hl hcl]
    exact ⟨rfl, rfl⟩
  · obtain ⟨owner, hexec⟩ := exec_of_cycle hw hc (by simp [cycleTaken, hcl]) (beginsCycle_of_clearing hc hcl)
    rw [hexec, hostCycle_clearing _ _ _ _ _ h hl hcl]
  · obtain ⟨dir, a, be, hc⟩ := cycleOf_of_begins hb
    refine ⟨fun hheld => ?_, fun h hl => ?_⟩
    · obtain ⟨owner, hexec⟩ := exec_of_cycle hw hc (by simp [cycleTaken, hheld]) hb
      rw [hexec, hostCycle_held _ _ _ _ _ hheld]
    · obtain ⟨owner, hexec⟩ := exec_of_cycle hw hc (by simp [cycleTaken, hl]) hb
      rw [hexec, hostCycle_low _ _ _ _ _ h hl]
      rfl

/-! ### Shared RAM (R85) -/

theorem driveLanes_read (m : List (Nat × Byte)) (w : BitVec 13) (be : Enables) :
    driveLanes be (memReadBytes m (accessStart (w.toNat * 2) be) (accessWidth be)) =
      (if be.hi then memRead m (2 * w.toNat + 1) else 0) ++ (if be.lo then memRead m (2 * w.toNat) else 0) := by
  obtain ⟨lo, hi⟩ := be
  cases lo <;> cases hi <;> simp [driveLanes, accessStart, accessWidth, memReadBytes, List.range_succ, Nat.mul_comm]

theorem laneBytes_at (w : BitVec 13) (be : Enables) (d : Word) (m : List (Nat × Byte)) (x : Nat) :
    (if accessStart (w.toNat * 2) be ≤ x ∧ x < accessStart (w.toNat * 2) be + (laneBytes be d).length then
        (laneBytes be d).getD (x - accessStart (w.toNat * 2) be) 0
      else memRead m x) =
      if be.lo = true ∧ x = 2 * w.toNat then d.extractLsb' 0 8
      else if be.hi = true ∧ x = 2 * w.toNat + 1 then d.extractLsb' 8 8
      else memRead m x := by
  obtain ⟨lo, hi⟩ := be
  by_cases h0 : x = 2 * w.toNat
  · subst h0
    cases lo <;> cases hi <;> simp [accessStart, laneBytes, Nat.mul_comm]
  · by_cases h1 : x = 2 * w.toNat + 1
    · subst h1
      cases lo <;> cases hi <;> simp [accessStart, laneBytes, Nat.mul_comm]
    · have hout : ¬(accessStart (w.toNat * 2) ⟨lo, hi⟩ ≤ x ∧
          x < accessStart (w.toNat * 2) ⟨lo, hi⟩ + (laneBytes ⟨lo, hi⟩ d).length) := by
        cases lo <;> cases hi <;> simp only [accessStart, laneBytes, if_true, Bool.false_eq_true, if_false, List.length_append,
          List.length_cons, List.length_nil] <;> omega
      rw [if_neg hout, if_neg fun h => h0 h.2, if_neg fun h => h1 h.2]

/-- Settles O34. -/
theorem directCyclesOfSharedRam : Obligations.DirectCyclesOfSharedRam := by
  intro s w be hp hb hram
  refine ⟨?_, fun d => ⟨memWriteBytes s.ram (accessStart (w.toNat * 2) be) (laneBytes be d), ?_, fun x => ?_, ?_⟩⟩
  · refine congrArg Host.Outcome.next ((hostCycle_taken _ _ _ _ _ hp (by simp) hb).trans ?_)
    rw [← driveLanes_read]
    rfl
  · exact memWf_memWriteBytes _ _ _ hram (ramWord_inside w be d)
  · rw [memRead_memWriteBytes _ _ _ _ hram (ramWord_inside w be d), laneBytes_at]
  · exact congrArg Host.Outcome.next ((hostCycle_taken _ _ _ _ _ hp (by simp) hb).trans rfl)

/-! ### The dividers (R2, R150, R152) -/

/-- A write to a configuration word, taken. -/
theorem configCycle_eq (hp : portReady s) (hb : someByte be = true) (store : State → State) (r : Reg) :
    hostCycle .write (regWordAddr r) be (configTaken store) s =
      if s.ctl.span = .offline then withCycle .write (regWordAddr r) be .ok none (store s)
      else withCycle .write (regWordAddr r) be .fault none s := by
  rw [hostCycle_taken _ _ _ _ _ hp (by simp) hb, configTaken]
  split <;> rfl

/-- Settles O46. -/
theorem dividersTakeEffectAtOnce : Obligations.DividersTakeEffectAtOnce := by
  intro s be d hp hb
  have hdiv (n : Nat) (x : Word) : x.extractLsb' 0 n = x.setWidth n := by simp [BitVec.extractLsb']
  refine ⟨fun hx => ⟨fun w => ?_, ?_, ?_⟩, fun hx => ⟨?_, ?_⟩⟩
  · exact congrArg Host.Outcome.next ((configCycle_eq hp hb _ _).trans (if_neg hx))
  · exact congrArg Host.Outcome.next ((configCycle_eq hp hb _ _).trans (if_neg hx))
  · exact congrArg Host.Outcome.next ((configCycle_eq hp hb _ _).trans (if_neg hx))
  · refine congrArg Host.Outcome.next ((configCycle_eq hp hb _ _).trans ((if_pos hx).trans ?_))
    rw [hdiv]
    rfl
  · refine congrArg Host.Outcome.next ((configCycle_eq hp hb _ _).trans ((if_pos hx).trans ?_))
    rw [hdiv]
    rfl

end Sys2Proof.Machine


/-! ## Words on the lanes, and the registers that a cycle writes or reads (R150, R161 to R167) -/

namespace Sys2Proof.Machine

variable {s t u v : State} {be : Enables} {c : ConfigRecord} {n : RegionIndex} {w : ConfigWord} {a : BitVec 15}

/-! ### The enabled bytes of a word -/

/-- Bit `k` of a word lies in an enabled byte. -/
def enabledBit (be : Enables) (k : Nat) : Bool := if k < 8 then be.lo else be.hi

theorem getLsbD_laneMask (be : Enables) {k : Nat} (hk : k < 16) : (laneMask be).getLsbD k = enabledBit be k := by
  obtain ⟨lo, hi⟩ := be
  revert k
  cases lo <;> cases hi <;> decide

theorem getLsbD_mergeLanes (old d : Word) (be : Enables) {k : Nat} (hk : k < 16) :
    (mergeLanes old d be).getLsbD k = if enabledBit be k = true then d.getLsbD k else old.getLsbD k := by
  rw [mergeLanes, BitVec.getLsbD_or, BitVec.getLsbD_and, BitVec.getLsbD_and, BitVec.getLsbD_not, getLsbD_laneMask be hk]
  cases enabledBit be k <;> simp [hk]

theorem lanes_eq (d : Word) (be : Enables) :
    d &&& laneMask be = (if be.hi then d.extractLsb' 8 8 else 0) ++ (if be.lo then d.extractLsb' 0 8 else 0) := by
  refine BitVec.eq_of_getLsbD_eq fun k hk => ?_
  rw [BitVec.getLsbD_and, getLsbD_laneMask be hk, BitVec.getLsbD_append, enabledBit]
  by_cases h : k < 8
  · cases hlo : be.lo <;> simp [h]
  · have hk' : k - 8 < 8 := by omega
    cases hhi : be.hi <;> simp [h, hk', show 8 + (k - 8) = k by omega]

/-! ### Registers with writes of their own -/

theorem writeReg_eq (hp : portReady s) (hb : someByte be = true) (r : Reg) (effect : State → State) :
    writeReg r be effect s = .next (withCycle .write (regWordAddr r) be .ok none (effect s)) :=
  congrArg Host.Outcome.next ((hostCycle_taken _ _ _ _ _ hp (by simp) hb).trans rfl)

/-- Settles O44. -/
theorem writableRegistersStore : Obligations.WritableRegistersStore := by
  intro s be d hp hb
  have hone (k : Nat) (hk : k < 16) : (d &&& laneMask be).getLsbD k = ((if k < 8 then be.lo else be.hi) && d.getLsbD k) := by
    rw [BitVec.getLsbD_and, getLsbD_laneMask be hk, Bool.and_comm]
    rfl
  have hmerged (old : Word) (k : Nat) (hk : k < 16) :
      (mergeLanes old d be).getLsbD k = if (if k < 8 then be.lo else be.hi) = true then d.getLsbD k else old.getLsbD k :=
    getLsbD_mergeLanes old d be hk
  refine ⟨(writeReg_eq hp hb _ _).trans ?_, ⟨_, writeReg_eq hp hb _ _, fun k hk => ?_⟩, ⟨_, writeReg_eq hp hb _ _, fun k hk => ?_⟩⟩
  · simp only [clearEvents, clearFlags, hone, Nat.reduceLT]
    rfl
  · rw [BitVec.getLsbD_setWidth, hmerged _ k (by omega), BitVec.getLsbD_setWidth]
    simp [hk, show k < 16 by omega]
  · rw [BitVec.getLsbD_setWidth, hmerged _ k (by omega), BitVec.getLsbD_setWidth]
    simp [hk, show k < 16 by omega]

/-! ### Configuration words -/

theorem regionOf_setRegion_self (h : c.regions.length = 4) (r : RegionConfig) : regionOf (setRegion n r c) n = r := by
  have hn : n.toNat < c.regions.length := by omega
  simp [regionOf, setRegion, hn]

theorem regionOf_setRegion_of_ne {m : RegionIndex} (h : m ≠ n) (r : RegionConfig) : regionOf (setRegion n r c) m = regionOf c m :=
  (regionOf_setRegion m n r c).resolve_right fun hx => h hx.1

theorem fieldBit_lt {k : Nat} (h : fieldBit w k = true) : k < 16 := by
  cases w <;> simp [fieldBit] at h <;> omega

/-- A stored word holds its fields, and no other bit. -/
theorem getLsbD_configWord_stored (h : c.regions.length = 4) (w : ConfigWord) (d : Word) (k : Nat) :
    (configWord (storeConfigWord w d c) w).getLsbD k = (fieldBit w k && d.getLsbD k) := by
  by_cases hk : k < 16
  · cases w with
    | regionCtrl n =>
      simp only [storeConfigWord, configWord, regionOf_setRegion_self h, fieldBit, BitVec.getLsbD_append]
      interval_cases k <;> simp
    | regionLocal n =>
      simp only [storeConfigWord, configWord, regionOf_setRegion_self h, fieldBit, BitVec.getLsbD_append]
      interval_cases k <;> simp
    | regionGlobal n => simp [storeConfigWord, configWord, regionOf_setRegion_self h, fieldBit, hk]
    | station | hbInterval | respTimeout | retryLimit | discardTime =>
      simp [storeConfigWord, configWord, fieldBit, hk]
  · rw [BitVec.getLsbD_of_ge _ _ (by omega), Bool.eq_false_iff.mpr fun hf => hk (fieldBit_lt hf), Bool.false_and]

/-- Every other word keeps its value. -/
theorem configWord_stored_of_ne {x : ConfigWord} (h : c.regions.length = 4) (hx : x ≠ w) (d : Word) :
    configWord (storeConfigWord w d c) x = configWord c x := by
  cases w with
  | station | hbInterval | respTimeout | retryLimit | discardTime =>
    cases x with
    | station | hbInterval | respTimeout | retryLimit | discardTime => simp [storeConfigWord, configWord] at hx ⊢
    | regionCtrl m | regionLocal m | regionGlobal m => rfl
  | regionCtrl n | regionLocal n | regionGlobal n =>
    cases x with
    | station | hbInterval | respTimeout | retryLimit | discardTime => rfl
    | regionCtrl m | regionLocal m | regionGlobal m =>
      by_cases hmn : m = n
      · subst hmn
        simp [storeConfigWord, configWord, regionOf_setRegion_self h] at hx ⊢
      · simp only [storeConfigWord, configWord, regionOf_setRegion_of_ne hmn]

theorem fieldBit_stored (h : c.regions.length = 4) (w : ConfigWord) (be : Enables) (d : Word) (k : Nat) :
    (configWord (writeConfigWord w be d c) w).getLsbD k =
      (fieldBit w k && if (if k < 8 then be.lo else be.hi) = true then d.getLsbD k else (configWord c w).getLsbD k) := by
  rw [writeConfigWord, getLsbD_configWord_stored h]
  cases hf : fieldBit w k with
  | false => rfl
  | true =>
    rw [Bool.true_and, Bool.true_and, getLsbD_mergeLanes _ _ _ (fieldBit_lt hf)]
    rfl

theorem peerOf_of_not_valid {m : Station} (h : ¬validStation m = true) (s : State) : peerOf m s = PeerRecord.reset := if_neg h

/-- A cleared changed mark, and the marks of the other records. -/
theorem peerOf_unmarked (hs : s.peers.length = Config.peerRecords) (m p : Station) :
    peerOf p (setPeer m { peerOf m s with changed := false } s) =
      if p = m then { peerOf p s with changed := false } else peerOf p s := by
  split
  next hp =>
    subst hp
    by_cases hv : validStation p = true
    · exact peerOf_setPeer_self s p _ hv hs
    · rw [setPeer, if_neg hv, peerOf_of_not_valid hv]
      rfl
  next hp => exact peerOf_setPeer_other s p m _ hp

/-- What a stored word leaves: the configuration, the status of its region, and the mark of the own record. -/
theorem storeConfig_rest (w : ConfigWord) (be : Enables) (d : Word) (s : State) :
    storeConfig w be d s =
      { s with
        ctl := { s.ctl with config := writeConfigWord w be d s.ctl.config }
        peers := (storeConfig w be d s).peers
        dir := { s.dir with statuses := (storeConfig w be d s).dir.statuses } } := by
  cases w with
  | station =>
    unfold storeConfig configStored
    dsimp only
    split
    · unfold setPeer
      split <;> rfl
    · rfl
  | hbInterval | respTimeout | retryLimit | discardTime | regionCtrl | regionLocal | regionGlobal => rfl

theorem peerOf_storeConfig (hs : s.peers.length = Config.peerRecords) (w : ConfigWord) (be : Enables) (d : Word) (p : Station) :
    peerOf p (storeConfig w be d s) =
      if w = .station ∧ be.lo = true ∧ p = (writeConfigWord w be d s.ctl.config).station then { peerOf p s with changed := false }
      else peerOf p s := by
  cases w with
  | station =>
    unfold storeConfig configStored
    dsimp only
    split
    next hlo =>
      simp only [hlo, true_and]
      exact peerOf_unmarked (s := setConfig (writeConfigWord .station be d s.ctl.config) s) hs _ p
    next hlo => simp [hlo, peerOf_congr p (setConfig_frame _ s).2.1]
  | hbInterval | respTimeout | retryLimit | discardTime | regionCtrl | regionLocal | regionGlobal => simp; rfl

/-- Settles O45. -/
theorem configurationWordIsStored : Obligations.ConfigurationWordIsStored := by
  intro s w be d hk hp hb hx
  have hregions : s.ctl.config.regions.length = 4 := hk.sized.2.2.2
  have htables := hk.tables.storeConfig hx (hk.empty.2.1 (by rw [hx]; rfl)) w be d
  have hspan : (storeConfig w be d s).ctl.span = .offline := by
    rw [storeConfig_rest]
    exact hx
  have hconfig := storeConfig_config w be d s
  refine ⟨withCycle .write (regWordAddr (.config w)) be .ok none (storeConfig w be d s),
    congrArg Host.Outcome.next ((configCycle_eq hp hb _ _).trans (if_pos hx)), fun k => ?_, fun v hv => ?_, fun n => ?_, fun p => ?_,
    ?_, ?_, ?_, ?_⟩
  · show (configWord (storeConfig w be d s).ctl.config w).getLsbD k = _
    rw [hconfig, fieldBit_stored hregions]
  · show configWord (storeConfig w be d s).ctl.config v = _
    rw [hconfig, writeConfigWord, configWord_stored_of_ne hregions hv]
  · show statusOf n (storeConfig w be d s) = if (regionOf (storeConfig w be d s).ctl.config n).enable = true then _ else _
    rw [hconfig]
    have hdisabled := htables.dir.disabled n
    have hnot : ¬(statusOf n (storeConfig w be d s) = .entered ∨ statusOf n (storeConfig w be d s) = .eclipsed) := fun h => by
      have hon := htables.dir.published n h
      rw [hspan] at hon
      exact absurd hon (by decide)
    split
    next he =>
      have hne : statusOf n (storeConfig w be d s) ≠ .disabled := fun h => by simp [hdisabled.mp h] at he
      cases hstatus : statusOf n (storeConfig w be d s) with
      | notPublished => rfl
      | disabled => exact absurd hstatus hne
      | entered => exact absurd (.inl hstatus) hnot
      | eclipsed => exact absurd (.inr hstatus) hnot
    next he => exact hdisabled.mpr (Bool.eq_false_iff.mpr he)
  · show peerOf p (storeConfig w be d s) = if w = .station ∧ be.lo = true ∧ p = (storeConfig w be d s).ctl.config.station then _ else _
    rw [hconfig, peerOf_storeConfig hk.sized.1]
  · show (storeConfig w be d s).ctl = { s.ctl with config := (storeConfig w be d s).ctl.config }
    rw [hconfig, storeConfig_rest]
  · show (storeConfig w be d s).ctl.config.tickDiv = _
    rw [hconfig]
    cases w <;> rfl
  · show (storeConfig w be d s).ctl.config.bitDiv = _
    rw [hconfig]
    cases w <;> rfl
  · have hrest := congrArg (withCycle .write (regWordAddr (.config w)) be .ok none) (storeConfig_rest w be d s)
    have hctl : (withCycle .write (regWordAddr (.config w)) be .ok none (storeConfig w be d s)).ctl =
        { s.ctl with config := writeConfigWord w be d s.ctl.config } := (congrArg State.ctl (storeConfig_rest w be d s)).trans rfl
    rw [hctl]
    exact hrest

/-! ### Reads -/

theorem areaOf_peerView {x k j : Nat} (h : byteAddr a = x) (hx : x = 0x8100 + 8 * k + 2 * j) (hk : k < 30) (hj : j < 4) :
    areaOf a = .peerView k j := by
  subst hx
  unfold areaOf
  rw [h]
  simp only [show ¬0x8100 + 8 * k + 2 * j < 0x4000 by omega, show ¬0x8100 + 8 * k + 2 * j < 0x8000 by omega,
    show ¬0x8100 + 8 * k + 2 * j < 0x8100 by omega, show 0x8100 + 8 * k + 2 * j < 0x81F0 by omega, if_true, if_false]
  congr 1 <;> omega

/-- The first words of the peer table view are those of the peers' slots. -/
theorem peerView_first {k : Nat} (h : areaOf a = .peerView k 0) : k < 30 ∧ byteAddr a = 0x8100 + 8 * k := by
  unfold areaOf at h
  have ha : byteAddr a % 2 = 0 := by
    unfold byteAddr
    omega
  grind

theorem slotStation_toNat {k : Nat} (hk : k < 30) : (slotStation k).toNat = k + 1 := by
  rw [slotStation, BitVec.toNat_ofNat]
  omega

theorem slotStation_of_station {n : Station} (hn : validStation n = true) : slotStation (n.toNat - 1) = n ∧ n.toNat - 1 < 30 := by
  obtain ⟨h0, h31⟩ := validStation_iff.mp hn
  have hlt : n.toNat - 1 < 30 := by bv_omega
  refine ⟨BitVec.eq_of_toNat_eq ?_, hlt⟩
  rw [slotStation_toNat hlt]
  bv_omega

theorem validStation_slotStation {k : Nat} (hk : k < 30) : validStation (slotStation k) = true := by
  have hnat := slotStation_toNat hk
  rw [validStation_iff]
  refine ⟨fun h => ?_, fun h => ?_⟩
  · rw [h] at hnat
    exact absurd (show 0 = k + 1 from hnat) (by omega)
  · rw [h] at hnat
    exact absurd (show 31 = k + 1 from hnat) (by omega)

/-- A read of a word is the word's enabled bytes, and has the read's one effect. -/
theorem wordRead_eq (hp : portReady s) (hb : someByte be = true) (ha : readsWord (areaOf a) = true) :
    exec (.peerViewFirstWordRead a be) s = .next
      (withCycle .read a be .ok
        (some ((if be.hi then (readWord (areaOf a) s).extractLsb' 8 8 else 0) ++
          (if be.lo then (readWord (areaOf a) s).extractLsb' 0 8 else 0))) (readEffect (areaOf a) be s)) := by
  refine (if_pos ha).trans (congrArg Host.Outcome.next ((hostCycle_taken _ _ _ _ _ hp (by simp) hb).trans ?_))
  rw [← lanes_eq]
  rfl

theorem readEffect_of_other (h : ∀ k, areaOf a ≠ .peerView k 0) : readEffect (areaOf a) be s = s := by
  unfold readEffect
  split
  next k hk => exact absurd hk (h k)
  · rfl

/-- Settles O47. -/
theorem readsOfRegistersAndViews : Obligations.ReadsOfRegistersAndViews := by
  intro s a be hs hp hb ha read
  refine ⟨fun n hn hx => ?_, fun hx => ?_⟩
  · obtain ⟨hslot, hlt⟩ := slotStation_of_station hn
    have harea : areaOf a = .peerView (n.toNat - 1) 0 := areaOf_peerView rfl hx hlt (by decide)
    refine (wordRead_eq hp hb ha).trans ?_
    have heffect : readEffect (areaOf a) be s =
        if be.lo = true then { s with peers := s.peers.set (n.toNat - 1) { peerOf n s with changed := false } } else s := by
      rw [harea]
      show (if be.lo = true then setPeer (slotStation (n.toNat - 1)) _ s else s) = _
      rw [hslot, setPeer, if_pos hn]
      rfl
    rw [heffect]
  · have heffect : readEffect (areaOf a) be s = s := readEffect_of_other fun k hk => by
      obtain ⟨hlt, haddr⟩ := peerView_first hk
      refine hx (slotStation k) (validStation_slotStation hlt) ?_
      rw [slotStation_toNat hlt]
      exact haddr
    refine (wordRead_eq hp hb ha).trans ?_
    rw [heffect]

end Sys2Proof.Machine


/-! ## A host write overtakes the reads that it meets (R59), and the writes that are accepted (R69 to R71) -/

namespace Sys2Proof.Machine

variable {s t u v : State} {x n : Nat} {e : ReadEntry} {l : List ReadIndex} {be : Enables}

/-! ### One entry -/

/-- The entry meets the bytes written, it has been sent, and it makes way. -/
def entryMeets (x n : Nat) (e : ReadEntry) : Bool := live e && rangesMeet e.addr.toNat e.length x n

def entrySent (e : ReadEntry) : Bool := e.state == .issued || e.state == .ready && decide (1 ≤ e.attempts)

def entryDropped (x n : Nat) (e : ReadEntry) : Bool := entryMeets x n e && !entrySent e

/-- The entry after the write. -/
def overtakenEntry (x n : Nat) (e : ReadEntry) : ReadEntry :=
  if entryMeets x n e = true then if entrySent e = true then { e with overtaken := true } else ReadEntry.free e.incarnation else e

/-- An item stays on the ready list but with a read that makes way. -/
def itemStays (x n : Nat) (l : List ReadIndex) (s : State) : ReadyItem → Bool
  | .read i _ => !(decide (i ∈ l) && entryDropped x n (readAt i s))
  | .write _ => true

/-- The station after the write has overtaken these reads. -/
def overtakenReads (x n : Nat) (l : List ReadIndex) (s : State) : State :=
  { s with
    reads :=
      { entries := allReadIndexes.map (fun i => if i ∈ l then overtakenEntry x n (readAt i s) else readAt i s)
        order := s.reads.order.filter (fun i => !(decide (i ∈ l) && entryDropped x n (readAt i s))) }
    sel := { s.sel with ready := s.sel.ready.filter (itemStays x n l s) } }

theorem readAt_overtakenReads (l : List ReadIndex) (s : State) (i : ReadIndex) :
    readAt i (overtakenReads x n l s) = if i ∈ l then overtakenEntry x n (readAt i s) else readAt i s :=
  readAt_of_map (t := overtakenReads x n l s) (g := fun i => if i ∈ l then overtakenEntry x n (readAt i s) else readAt i s) rfl i

theorem overtakenReads_of_none (hs : s.reads.entries.length = Config.readEntries) (h : ∀ i ∈ l, entryMeets x n (readAt i s) = false) :
    overtakenReads x n l s = s := by
  have hentry (i : ReadIndex) : (if i ∈ l then overtakenEntry x n (readAt i s) else readAt i s) = readAt i s := by
    split
    next hi => simp [overtakenEntry, h i hi]
    · rfl
  have hdropped (i : ReadIndex) : (!(decide (i ∈ l) && entryDropped x n (readAt i s))) = true := by
    by_cases hi : i ∈ l
    · simp [entryDropped, h i hi]
    · simp [hi]
  have hready : s.sel.ready.filter (itemStays x n l s) = s.sel.ready :=
    List.filter_eq_self.mpr fun y _ => by
      cases y with
      | read i inc => exact hdropped i
      | write a => rfl
  unfold overtakenReads
  rw [hready]
  simp only [hentry, hdropped, List.filter_true, ← entries_eq_map hs]

/-- A state in which read `i` alone is another, and which has lost the items and the place of a read that makes way. -/
theorem overtakenReads_of_one {i : ReadIndex} (ht : t.reads.entries.length = Config.readEntries)
    (hself : readAt i t = overtakenEntry x n (readAt i s)) (hother : ∀ j, j ≠ i → readAt j t = readAt j s)
    (horder : t.reads.order = s.reads.order.filter (fun j => !(decide (j = i) && entryDropped x n (readAt i s))))
    (hready : t.sel.ready = s.sel.ready.filter (fun y => !(isReadItem i y && entryDropped x n (readAt i s))))
    (hrest : t = { s with reads := t.reads, sel := { s.sel with ready := t.sel.ready } }) : t = overtakenReads x n [i] s := by
  have hentry (j : ReadIndex) : readAt j t = if j ∈ [i] then overtakenEntry x n (readAt j s) else readAt j s := by
    by_cases hj : j = i
    · subst hj
      simpa using hself
    · simpa [hj] using hother j hj
  have hentries : t.reads.entries = allReadIndexes.map (fun j => if j ∈ [i] then overtakenEntry x n (readAt j s) else readAt j s) :=
    (entries_eq_map ht).trans (List.map_congr_left fun j _ => hentry j)
  have hdropped (j : ReadIndex) : (decide (j = i) && entryDropped x n (readAt i s)) = (decide (j ∈ [i]) && entryDropped x n (readAt j s)) := by
    by_cases hj : j = i
    · subst hj
      simp
    · simp [hj]
  have hitems : s.sel.ready.filter (fun y => !(isReadItem i y && entryDropped x n (readAt i s))) = (overtakenReads x n [i] s).sel.ready :=
    List.filter_congr fun y _ => by
      cases y with
      | read j inc =>
        rw [itemStays, ← hdropped]
        rfl
      | write a => rfl
  have hreads : t.reads = (overtakenReads x n [i] s).reads := by
    simp only [overtakenReads, ← hentries, ← hdropped, ← horder]
  rw [hrest, hreads, hready, hitems]
  rfl

theorem overtakeRead_eq (hs : s.reads.entries.length = Config.readEntries) (i : ReadIndex) :
    overtakeRead x n s i = overtakenReads x n [i] s := by
  cases hmeets : entryMeets x n (readAt i s) with
  | false =>
    rw [overtakenReads_of_none hs (by simpa using hmeets)]
    exact if_neg (Bool.eq_false_iff.mp hmeets)
  | true =>
    cases hsent : entrySent (readAt i s) with
    | true =>
      have hone : overtakeRead x n s i = setRead i { readAt i s with overtaken := true } s :=
        (if_pos hmeets).trans (if_pos (by simpa [entrySent] using hsent))
      have hdropped : entryDropped x n (readAt i s) = false := by simp [entryDropped, hsent]
      rw [hone]
      refine overtakenReads_of_one (by simpa using hs) ?_ (fun j hj => readAt_setRead_other s i j _ hj) ?_ ?_ rfl
      · rw [readAt_setRead_self s i _ hs, overtakenEntry, if_pos hmeets, if_pos hsent]
      · simp [hdropped, setRead]
      · simp [hdropped, setRead]
    | false =>
      have hone : overtakeRead x n s i = freeRead i s :=
        (if_pos hmeets).trans (if_neg (by simpa [entrySent] using hsent))
      have hdropped : entryDropped x n (readAt i s) = true := by simp [entryDropped, hsent, hmeets]
      rw [hone]
      refine overtakenReads_of_one (by simpa [freeRead_eq, withFree] using hs) ?_ (fun j hj => readAt_freeRead_other i j s hj) ?_ ?_ rfl
      · rw [readAt_freeRead_self i hs, overtakenEntry, if_pos hmeets, if_neg (Bool.eq_false_iff.mp hsent)]
      · simp only [freeRead_eq, withFree, hdropped, Bool.and_true, bne, beq_eq_decide]
      · simp [hdropped, freeRead_eq, withFree]

/-! ### All of them -/

theorem overtakenReads_cons {i : ReadIndex} (hi : i ∉ l) : overtakenReads x n l (overtakenReads x n [i] s) = overtakenReads x n (i :: l) s := by
  have hat := readAt_overtakenReads (x := x) (n := n) [i] s
  have hother (j : ReadIndex) (hj : j ≠ i) : readAt j (overtakenReads x n [i] s) = readAt j s := by rw [hat]; simp [hj]
  have hentry (j : ReadIndex) : (if j ∈ l then overtakenEntry x n (readAt j (overtakenReads x n [i] s)) else readAt j (overtakenReads x n [i] s)) =
      if j ∈ i :: l then overtakenEntry x n (readAt j s) else readAt j s := by
    by_cases hj : j = i
    · subst hj
      simp [hi, hat]
    · simp [hj, hother j hj]
  have hdropped (j : ReadIndex) : (!(decide (j ∈ [i]) && entryDropped x n (readAt j s)) &&
      !(decide (j ∈ l) && entryDropped x n (readAt j (overtakenReads x n [i] s)))) =
        !(decide (j ∈ i :: l) && entryDropped x n (readAt j s)) := by
    by_cases hj : j = i
    · subst hj
      simp [hi]
    · simp [hj, hother j hj]
  have horder : (overtakenReads x n [i] s).reads.order.filter
      (fun j => !(decide (j ∈ l) && entryDropped x n (readAt j (overtakenReads x n [i] s)))) =
      s.reads.order.filter (fun j => !(decide (j ∈ i :: l) && entryDropped x n (readAt j s))) := by
    refine (List.filter_filter ..).trans (List.filter_congr fun j _ => ?_)
    rw [Bool.and_comm, hdropped]
  have hready : (overtakenReads x n l (overtakenReads x n [i] s)).sel.ready = (overtakenReads x n (i :: l) s).sel.ready := by
    refine (List.filter_filter ..).trans (List.filter_congr fun y _ => ?_)
    cases y with
    | read j inc =>
      rw [Bool.and_comm]
      exact hdropped j
    | write a => rfl
  have hreads : (overtakenReads x n l (overtakenReads x n [i] s)).reads = (overtakenReads x n (i :: l) s).reads := by
    unfold overtakenReads at hentry horder ⊢
    simp only [hentry, horder]
  calc overtakenReads x n l (overtakenReads x n [i] s)
      = { s with
          reads := (overtakenReads x n l (overtakenReads x n [i] s)).reads
          sel := { s.sel with ready := (overtakenReads x n l (overtakenReads x n [i] s)).sel.ready } } := rfl
    _ = overtakenReads x n (i :: l) s := by rw [hreads, hready]; rfl

theorem overtake_eq (hs : s.reads.entries.length = Config.readEntries) (x n : Nat) : overtake x n s = overtakenReads x n allReadIndexes s := by
  have hfold (l : List ReadIndex) (hl : l.Nodup) : ∀ s : State, s.reads.entries.length = Config.readEntries →
      l.foldl (overtakeRead x n) s = overtakenReads x n l s := by
    induction l with
    | nil => exact fun s hs => (overtakenReads_of_none hs (by simp)).symm
    | cons i l ih =>
      intro s hs
      obtain ⟨hi, hl⟩ := List.nodup_cons.mp hl
      rw [List.foldl_cons, overtakeRead_eq hs, ih hl _ (by simp [overtakenReads, allReadIndexes, Config.readEntries]), overtakenReads_cons hi]
  exact hfold _ (by decide) s hs

/-- Settles O39. -/
theorem hostWritesOvertakeReads : Obligations.HostWritesOvertakeReads := by
  intro s x n hs sent freed
  have hall (i : ReadIndex) : i ∈ allReadIndexes := mem_allReadIndexes i
  refine ⟨_, overtake_eq hs.2.1 x n, rfl, fun i => ?_, ?_⟩
  · rw [readAt_overtakenReads, if_pos (hall i)]
    rfl
  · have hfreed (i : ReadIndex) : (decide (i ∈ allReadIndexes) && entryDropped x n (readAt i s)) = freed i := by
      rw [decide_eq_true (hall i), Bool.true_and]
      rfl
    have hitem : s.sel.ready.filter (itemStays x n allReadIndexes s) =
        s.sel.ready.filter (fun y =>
          match y with
          | .read i _ => !freed i
          | .write _ => true) :=
      List.filter_congr fun y _ => by
        cases y with
        | read i inc => exact congrArg (!·) (hfreed i)
        | write a => rfl
    refine Eq.trans ?_ (congrArg (fun r : List ReadyItem =>
      { s with
        reads :=
          { entries := (overtakenReads x n allReadIndexes s).reads.entries, order := s.reads.order.filter (fun i => !freed i) }
        sel := { s.sel with ready := r } }) hitem)
    simp only [← hfreed]
    rfl

end Sys2Proof.Machine


/-! ## A host write that is accepted (R69 to R71) -/

namespace Sys2Proof.Machine

variable {s t u v : State} {x n : Nat} {e : DirEntry} {be : Enables} {notice : Bool} {a : GlobalAddr} {data : List Byte} {k : RegionIndex}

/-! ### An own entry: shared RAM and the Notice Queue -/

/-- The loopback write's bytes and notice are in place. -/
def withLoopback (e : DirEntry) (k : RegionIndex) (a : GlobalAddr) (data : List Byte) (notice : Bool) (s : State) : State :=
  { s with
    ram := memWriteBytes s.ram (localAddress e k a s) data
    resp :=
      { s.resp with
        notices := s.resp.notices ++ if notice = true then [{ source := ownStation s, addr := a, value := data }] else [] } }

theorem loopbackWrite_of_accepted (hrw : e.readWrite = true) (hroom : notice = true → s.resp.notices.length < Config.noticeCapacity) :
    loopbackWrite e k a data notice s =
      { reply := .ok, data := 0, next := overtake a.toNat data.length (withLoopback e k a data notice s) } := by
  cases notice with
  | false => simp [loopbackWrite, hrw, withLoopback, ramWrite, answerOnly, State.setRam]
  | true =>
    have hfull : noticesFull s = false := by simp [noticesFull, hroom rfl]
    simp [loopbackWrite, hrw, hfull, withLoopback, ramWrite, answerOnly, appendNotice, State.setRam, State.setResp]

/-- The bytes of a taken aperture cycle lie inside shared RAM where an own entry contains them. -/
theorem WellKept.loopback_inside (h : WellKept s) (hx : s.ctl.span = .online) {w : BitVec 12} (hlook : lookup (apertureAddr w be s) s = some e)
    (hn : e.own = some k) : localAddress e k (apertureAddr w be s) s + accessWidth be ≤ Config.ramSize := by
  obtain ⟨he, hlo, hhi⟩ := mem_of_lookup hlook
  exact localAddress_add_le hlo (aperture_access_le_dirEnd hhi) (h.ownEntry_inside_ram (by simp [hx]) he hn)

/-! ### A peer's entry: the Posted Write Queue -/

/-- A host write sees of the station its reads and its ready list alone. -/
theorem overtake_congr (hs : s.reads.entries.length = Config.readEntries) (hr : t.reads = s.reads) (hl : t.sel = s.sel) (x n : Nat) :
    (overtake x n t).reads = (overtake x n s).reads ∧ (overtake x n t).sel = (overtake x n s).sel := by
  have hat : (fun i => readAt i t) = fun i => readAt i s := funext fun i => readAt_congr i hr
  have hstays : itemStays x n allReadIndexes t = itemStays x n allReadIndexes s := funext fun y => by
    cases y with
    | read i inc => simp only [itemStays, congrFun hat i]
    | write m => rfl
  rw [overtake_eq hs, overtake_eq (by rw [hr]; exact hs)]
  unfold overtakenReads
  rw [hstays, hr, hl]
  simp only [congrFun hat, and_self]

theorem overtake_rest (hs : s.reads.entries.length = Config.readEntries) (hr : t.reads = s.reads) (hl : t.sel = s.sel) (x n : Nat) :
    overtake x n t =
      { t with reads := (overtake x n s).reads, sel := { s.sel with ready := (overtake x n s).sel.ready } } := by
  obtain ⟨hreads, hsel⟩ := overtake_congr hs hr hl x n
  rw [← hreads, ← hsel, ← hl, overtake_eq (by rw [hr]; exact hs)]
  rfl

/-- What an admitted write leaves. -/
def admitted (m : Station) (a : GlobalAddr) (data : List Byte) (notice : Bool) (s : State) : State :=
  { s with
    writes := { queue := s.writes.queue ++ [posted m a data notice s], admission := s.writes.admission + 1 }
    peers := s.peers.set (m.toNat - 1) { peerOf m s with outbound := (peerOf m s).outbound + 1 }
    reads := (overtake a.toNat data.length s).reads
    sel :=
      { s.sel with
        ready :=
          (overtake a.toNat data.length s).sel.ready ++ (if s.writes.queue = [] then [.write s.writes.admission] else []) } }

theorem admitWrite_eq (hs : s.reads.entries.length = Config.readEntries) (m : Station) (hm : validStation m = true) :
    admitWrite m a data notice s = admitted m a data notice s := by
  have henqueued : enqueueWrite m a data notice s =
      { s with
        writes := { queue := s.writes.queue ++ [posted m a data notice s], admission := s.writes.admission + 1 }
        peers := s.peers.set (m.toNat - 1) { peerOf m s with outbound := (peerOf m s).outbound + 1 } } := by
    rw [enqueueWrite, setPeer, if_pos hm]
    rfl
  have hreads : (enqueueWrite m a data notice s).reads = s.reads := by rw [henqueued]
  have hsel : (enqueueWrite m a data notice s).sel = s.sel := by rw [henqueued]
  rw [admitWrite, overtake_rest hs hreads hsel, henqueued, admitted]
  generalize overtake a.toNat data.length s = o
  cases hq : s.writes.queue with
  | nil => rfl
  | cons w q =>
    simp only [List.isEmpty_cons, Bool.false_eq_true, if_false, reduceCtorEq, List.append_nil]

/-- Settles O40. -/
theorem acceptedWriteIsAppliedOrAdmitted : Obligations.AcceptedWriteIsAppliedOrAdmitted := by
  intro s notice w be d e hk hp hb a n hx hlook hrw done
  have hwidth : (laneBytes be d).length = n := laneBytes_width be d
  refine ⟨fun k hown hroom => ?_, fun hown hpresent hroom => ?_⟩
  · have hinside : localAddress e k a s + (laneBytes be d).length ≤ Config.ramSize := by
      rw [hwidth]
      exact hk.loopback_inside hx hlook hown
    refine ⟨memWriteBytes s.ram (localAddress e k a s) (laneBytes be d), fun x => ?_, ?_⟩
    · rw [memRead_memWriteBytes _ _ _ _ hk.ram hinside, hwidth]
      rfl
    · refine hk.exec_apertureWrite hp hb (x := 0) ((apertureWriteTaken_of_own hx hlook hown).trans ?_)
      rw [loopbackWrite_of_accepted hrw hroom, hwidth]
      rfl
  · have hm : validStation e.owner = true := by
      by_contra hinvalid
      rw [peerOf_of_not_valid hinvalid] at hpresent
      cases hpresent
    have hfull : ¬Config.writeQueueCapacity ≤ s.writes.queue.length := Nat.not_le.mpr hroom
    have htaken := (apertureWriteTaken_of_present (a := a) (data := laneBytes be d) (notice := notice) hx hlook hown hrw hpresent).trans
      (if_neg hfull)
    rw [admitWrite_eq hk.sized.2.1 _ hm] at htaken
    refine ⟨withCycle .write (apertureWordAddr notice w) be .ok none (admitted e.owner a (laneBytes be d) notice s),
      hk.exec_apertureWrite hp hb htaken, ?_, ?_, ?_, ?_, ?_, ?_⟩
    · rfl
    · rfl
    · simp only [withCycle, admitted, hwidth]
    · simp only [withCycle, admitted, hwidth]
    · simp only [withCycle, admitted]
    · simp only [withCycle, admitted]

end Sys2Proof.Machine


/-! ## The value of every register and view word, as a number (R162) -/

namespace Sys2Proof.Machine

variable {s : State}

/-! ### The address map -/

/-- Each register is the one at its address. -/
theorem areaOf_regAddress (r : Reg) : areaOf (BitVec.ofNat 15 (regAddress r / 2)) = .register r := by
  cases r with
  | config w =>
    cases w with
    | regionCtrl n | regionLocal n | regionGlobal n =>
      revert n
      decide
    | _ => rfl
  | counter k => cases k <;> rfl
  | _ => rfl

theorem readWord_register (r : Reg) (s : State) : readWord (areaOf (BitVec.ofNat 15 (regAddress r / 2))) s = readReg s r := by
  rw [areaOf_regAddress r]
  rfl

/-! ### The fields of a word, as numbers -/

theorem setWidth_toNat {k : Nat} (x : BitVec k) (hk : k ≤ 16) : (x.setWidth 16).toNat = x.toNat := by
  rw [BitVec.toNat_setWidth]
  exact Nat.mod_eq_of_lt (lt_of_lt_of_le x.isLt (Nat.pow_le_pow_right (by decide) hk))

theorem spanStateWord_toNat (c : StationControl) : (spanStateWord c).toNat = (spanCode c.span).toNat + 16 * (stopCode c.stopCause).toNat := by
  simp only [spanStateWord, toNat_append_eq, BitVec.toNat_ofNat]
  omega

theorem commandStatusWord_toNat (x : CommandStatus) :
    (commandStatusWord x).toNat = x.code.toNat + 256 * (refusalCode x.refusal).toNat + 32768 * (x.refusal != .none).toNat := by
  simp only [commandStatusWord, toNat_append_eq, BitVec.toNat_ofNat, BitVec.toNat_ofBool]
  omega

theorem highAddr_toNat (a : GlobalAddr) : (highAddr a).toNat = a.toNat / 65536 := by
  have ha := a.isLt
  rw [highAddr, setWidth_toNat _ (by decide), toNat_field]
  omega

theorem lowAddr_toNat (a : GlobalAddr) : (lowAddr a).toNat = a.toNat % 65536 := by
  rw [lowAddr, toNat_field]
  omega

theorem noticeSrcWord_toNat {x : Notice} (h : x.value.length = 1 ∨ x.value.length = 2) :
    (noticeSrcWord x).toNat = x.source.toNat + 256 * x.value.length := by
  simp only [noticeSrcWord, toNat_append_eq, BitVec.toNat_ofNat]
  omega

theorem pwqCountWord_toNat {q : List PostedWrite} (h : q.length ≤ 16) :
    (pwqCountWord q).toNat = q.length + 256 * (q.head?.any (fun w => w.inFlight || w.held)).toNat := by
  simp only [pwqCountWord, toNat_append_eq, BitVec.toNat_ofNat, BitVec.toNat_ofBool]
  omega

theorem countReads_toNat (hs : s.reads.entries.length = Config.readEntries) (p : ReadEntry → Bool) :
    (countReads p s).toNat = (s.reads.entries.filter p).length := by
  have hle := List.length_filter_le p s.reads.entries
  have hsize : s.reads.entries.length = 8 := hs
  rw [countReads, BitVec.toNat_ofNat]
  omega

theorem regionCtrlWord_toNat (c : ConfigRecord) (n : RegionIndex) :
    (configWord c (.regionCtrl n)).toNat =
      (regionOf c n).enable.toNat + 2 * (regionOf c n).readWrite.toNat + 4 * (regionOf c n).prefetch.toNat +
        256 * (regionOf c n).length.toNat := by
  simp only [configWord, toNat_append_eq, BitVec.toNat_ofNat, BitVec.toNat_ofBool]
  omega

theorem regionLocalWord_toNat (c : ConfigRecord) (n : RegionIndex) :
    (configWord c (.regionLocal n)).toNat = 256 * (regionOf c n).localOffset.toNat := by
  simp only [configWord, toNat_append_eq, BitVec.toNat_ofNat]
  omega

/-- The flags from bit 0 on. -/
theorem flagsWord_bit (s : State) (k : Nat) :
    (flagsWord s).getLsbD k =
      ([!s.resp.notices.isEmpty, s.ev.fault.isSome, s.ev.flags.peer, s.ev.flags.directory, s.ev.flags.conflict,
        s.ev.flags.eclipse, s.ev.flags.span, s.ev.flags.discard, s.ev.flags.overrun].getD k false) := by
  by_cases hk : k < 16
  · simp only [flagsWord, BitVec.getLsbD_append]
    interval_cases k <;> simp [faultFlag, noticeFlag]
  · rw [BitVec.getLsbD_of_ge _ _ (by omega), List.getD_eq_default _ _ (by simp; omega)]

/-- The words of the fault record. -/
theorem faultWords_none (h : s.ev.fault = none) (r : Reg)
    (hr : r ∈ [.faultStatus, .faultOp, .faultReason, .faultAddrH, .faultAddrL, .faultStation]) : (readReg s r).toNat = 0 := by
  simp only [List.mem_cons, List.not_mem_nil, or_false] at hr
  obtain rfl | rfl | rfl | rfl | rfl | rfl := hr <;> simp [readReg, h, faultStatusWord, faultField]

theorem faultStatusWord_toNat (f : FaultRecord) : (faultStatusWord (some f)).toNat = 1 + 2 * f.overflow.toNat := by
  simp only [faultStatusWord, toNat_append_eq, BitVec.toNat_ofNat, BitVec.toNat_ofBool]
  omega

/-- The words of the oldest notice. -/
theorem noticeWords_nil (h : s.resp.notices = []) (r : Reg) (hr : r ∈ [.noticeSrc, .noticeAddrH, .noticeAddrL, .noticeValue]) :
    (readReg s r).toNat = 0 := by
  simp only [List.mem_cons, List.not_mem_nil, or_false] at hr
  obtain rfl | rfl | rfl | rfl := hr <;> simp [readReg, h, noticeField]

theorem noticeValueWord_toNat (x : Notice) : (noticeValueWord x).toNat = (x.value.getD 0 0).toNat + 256 * (x.value.getD 1 0).toNat := by
  simp only [noticeValueWord, toNat_append_eq]
  omega

/-- The counts of the reads by state. -/
theorem drtSummary0_toNat (hs : s.reads.entries.length = Config.readEntries) :
    (drtSummary0 s).toNat =
      (s.reads.entries.filter (fun e => e.state == .free)).length + 16 * (s.reads.entries.filter (fun e => e.state == .waiting)).length +
      256 * (s.reads.entries.filter (fun e => e.state == .ready)).length +
      4096 * (s.reads.entries.filter (fun e => e.state == .issued)).length := by
  simp only [drtSummary0, toNat_append_eq, countReads_toNat hs]
  show _ * 2 ^ 4 + _ = _
  unfold inState
  omega

theorem drtSummary1_toNat (hs : s.reads.entries.length = Config.readEntries) :
    (drtSummary1 s).toNat =
      (s.reads.entries.filter (fun e => e.state == .complete)).length + 16 * (s.reads.entries.filter (fun e => e.overtaken)).length := by
  simp only [drtSummary1, toNat_append_eq, countReads_toNat hs, BitVec.toNat_ofNat]
  unfold inState
  omega

/-- Settles O48. -/
theorem registerWords : Obligations.RegisterWords := by
  intro s hk at' reads
  have hat (r : Reg) : at' (regAddress r) = (readReg s r).toNat := congrArg BitVec.toNat (readWord_register r s)
  have hsized := hk.sized.2.1
  obtain ⟨hentries, hqueue, -, hnotices, -⟩ := hk.capacity
  have hdirs : s.dir.entries.length ≤ 64 := hentries
  have hwaiting : s.resp.notices.length ≤ 8 := hnotices
  refine ⟨?_, (hat .command).trans rfl, ?_, (hat .apertureBase).trans (setWidth_toNat _ (by decide)), fun k => ?_,
    (hat .eventEnable).trans (setWidth_toNat _ (by decide)), fun hf => ?_, fun r hf => ?_, ?_, fun hn => ?_, fun x rest hn => ?_,
    ?_, hat .dirGeneration, (hat .pwqCount).trans (pwqCountWord_toNat hqueue), (hat .drtSummary0).trans (drtSummary0_toNat hsized),
    (hat .drtSummary1).trans (drtSummary1_toNat hsized), (hat (.config .station)).trans (setWidth_toNat _ (by decide)),
    (hat .tickDiv).trans (setWidth_toNat _ (by decide)), (hat .bitDiv).trans (setWidth_toNat _ (by decide)),
    (hat (.config .hbInterval)).trans (setWidth_toNat _ (by decide)), (hat (.config .respTimeout)).trans (setWidth_toNat _ (by decide)),
    (hat (.config .retryLimit)).trans (setWidth_toNat _ (by decide)), (hat (.config .discardTime)).trans (setWidth_toNat _ (by decide)),
    fun n => ⟨(hat (.config (.regionCtrl n))).trans (regionCtrlWord_toNat _ n),
      (hat (.config (.regionLocal n))).trans (regionLocalWord_toNat _ n), hat (.config (.regionGlobal n))⟩,
    hat (.counter .rxError), hat (.counter .rxBroken), hat (.counter .stale), hat (.counter .overrun), hat (.counter .discards),
    hat (.counter .writeLoss), hat (.counter .arbLost), hat (.counter .txFail), hat (.counter .tableFull),
    hat (.counter .refusedRegions)⟩
  · refine (hat .spanState).trans ((spanStateWord_toNat _).trans ?_)
    congr 1
    · cases s.ctl.span <;> rfl
    · congr 1
      obtain _ | _ | _ := s.ctl.stopCause <;> rfl
  · refine (hat .commandStatus).trans ((commandStatusWord_toNat _).trans ?_)
    cases s.ctl.status.refusal <;> rfl
  · exact flagsWord_bit s k
  · have hzero := faultWords_none hf
    exact ⟨(hat .faultStatus).trans (hzero _ (by simp)), (hat .faultOp).trans (hzero _ (by simp)),
      (hat .faultReason).trans (hzero _ (by simp)), (hat .faultAddrH).trans (hzero _ (by simp)),
      (hat .faultAddrL).trans (hzero _ (by simp)), (hat .faultStation).trans (hzero _ (by simp))⟩
  · have hfield (g : FaultReport → Word) : faultField g s.ev.fault = g r.report := by rw [hf]; rfl
    refine ⟨(hat .faultStatus).trans ?_, (hat .faultOp).trans ?_, (hat .faultReason).trans ?_, (hat .faultAddrH).trans ?_,
      (hat .faultAddrL).trans ?_, (hat .faultStation).trans ?_⟩
    · rw [readReg, hf, faultStatusWord_toNat]
    · rw [readReg, hfield]
      cases r.report.op <;> rfl
    · rw [readReg, hfield]
      cases r.report.reason <;> rfl
    · rw [readReg, hfield, highAddr_toNat]
    · rw [readReg, hfield, lowAddr_toNat]
    · rw [readReg, hfield, setWidth_toNat _ (by decide)]
  · refine (hat .noticeCount).trans ?_
    rw [readReg, BitVec.toNat_ofNat]
    omega
  · have hzero := noticeWords_nil hn
    exact ⟨(hat .noticeSrc).trans (hzero _ (by simp)), (hat .noticeAddrH).trans (hzero _ (by simp)),
      (hat .noticeAddrL).trans (hzero _ (by simp)), (hat .noticeValue).trans (hzero _ (by simp))⟩
  · have hfield (g : Notice → Word) : noticeField g s.resp.notices = g x := by rw [hn]; rfl
    have hvalue := hk.shapes.2.2.2.2 x (by rw [hn]; exact List.mem_cons_self)
    refine ⟨(hat .noticeSrc).trans ?_, (hat .noticeAddrH).trans ?_, (hat .noticeAddrL).trans ?_, (hat .noticeValue).trans ?_⟩
    · rw [readReg, hfield, noticeSrcWord_toNat hvalue]
    · rw [readReg, hfield, highAddr_toNat]
    · rw [readReg, hfield, lowAddr_toNat]
    · rw [readReg, hfield, noticeValueWord_toNat]
  · refine (hat .dirCount).trans ?_
    rw [readReg, BitVec.toNat_ofNat]
    omega

end Sys2Proof.Machine


/-! ## The three views, word by word (R162) -/

namespace Sys2Proof.Machine

variable {s : State} {a : BitVec 15}

/-! ### The addresses of the views -/

theorem byteAddr_of_even {x : Nat} (hx : x < 0x10000) (he : x % 2 = 0) : byteAddr (BitVec.ofNat 15 (x / 2)) = x := by
  rw [byteAddr, BitVec.toNat_ofNat]
  omega

theorem areaOf_dirView {x k j : Nat} (h : byteAddr a = x) (hx : x = 0x8200 + 8 * k + 2 * j) (hk : k < 64) (hj : j < 4) :
    areaOf a = .dirView k j := by
  subst hx
  unfold areaOf
  rw [h]
  simp only [show ¬0x8200 + 8 * k + 2 * j < 0x4000 by omega, show ¬0x8200 + 8 * k + 2 * j < 0x8000 by omega,
    show ¬0x8200 + 8 * k + 2 * j < 0x8100 by omega, show ¬0x8200 + 8 * k + 2 * j < 0x81F0 by omega,
    show ¬0x8200 + 8 * k + 2 * j < 0x8200 by omega, show 0x8200 + 8 * k + 2 * j < 0x8400 by omega, if_true, if_false]
  congr 1 <;> omega

theorem areaOf_readView {x k j : Nat} (h : byteAddr a = x) (hx : x = 0x8400 + 16 * k + 2 * j) (hk : k < 8) (hj : j < 8) :
    areaOf a = .readView k j := by
  subst hx
  unfold areaOf
  rw [h]
  simp only [show ¬0x8400 + 16 * k + 2 * j < 0x4000 by omega, show ¬0x8400 + 16 * k + 2 * j < 0x8000 by omega,
    show ¬0x8400 + 16 * k + 2 * j < 0x8100 by omega, show ¬0x8400 + 16 * k + 2 * j < 0x81F0 by omega,
    show ¬0x8400 + 16 * k + 2 * j < 0x8200 by omega, show ¬0x8400 + 16 * k + 2 * j < 0x8400 by omega,
    show 0x8400 + 16 * k + 2 * j < 0x8480 by omega, if_true, if_false]
  congr 1 <;> omega

/-! ### The words of a slot -/

/-- Word `j` of a station's slot in the peer table view. -/
theorem readWord_peerView {n : Station} (hn : validStation n = true) {j : Nat} (hj : j < 4) (s : State) :
    readWord (areaOf (BitVec.ofNat 15 ((0x8100 + 8 * (n.toNat - 1) + 2 * j) / 2))) s = peerViewWord s.ctl.config (peerOf n s) j := by
  obtain ⟨hslot, hlt⟩ := slotStation_of_station hn
  rw [areaOf_peerView (byteAddr_of_even (by omega) (by omega)) rfl hlt hj]
  show peerViewWord s.ctl.config (peerOf (slotStation (n.toNat - 1)) s) j = _
  rw [hslot]

theorem readWord_dirView {k j : Nat} (hk : k < 64) (hj : j < 4) (s : State) :
    readWord (areaOf (BitVec.ofNat 15 ((0x8200 + 8 * k + 2 * j) / 2))) s = dirViewWord s.dir.generation s.dir.entries[k]? j := by
  rw [areaOf_dirView (byteAddr_of_even (by omega) (by omega)) rfl hk hj]
  rfl

theorem readWord_readView (i : ReadIndex) {j : Nat} (hj : j < 8) (s : State) :
    readWord (areaOf (BitVec.ofNat 15 ((0x8400 + 16 * i.toNat + 2 * j) / 2))) s = readViewWord (readAt i s) (rankOf i s) j := by
  have hi := i.isLt
  rw [areaOf_readView (byteAddr_of_even (by omega) (by omega)) rfl hi hj]
  show readViewWord (readAt (BitVec.ofNat 3 i.toNat) s) (rankOf (BitVec.ofNat 3 i.toNat) s) j = _
  rw [BitVec.ofNat_toNat, BitVec.setWidth_eq]

/-! ### Their fields, as numbers -/

theorem peerStateWord_toNat (r : PeerRecord) :
    (peerStateWord r).toNat = (presenceCode r.presence).toNat + 4 * r.interval.isSome.toNat + 8 * r.changed.toNat := by
  simp only [peerStateWord, toNat_append_eq, BitVec.toNat_ofNat, BitVec.toNat_ofBool]
  omega

theorem intervalWord_toNat (c : ConfigRecord) (r : PeerRecord) :
    (peerViewWord c r 1).toNat = (r.interval.getD c.hbInterval).toNat + 256 * r.lastApplied.isSome.toNat := by
  simp only [peerViewWord, toNat_append_eq, BitVec.toNat_ofNat, BitVec.toNat_ofBool, effectiveInterval]
  omega

theorem sequencesWord_toNat (c : ConfigRecord) (r : PeerRecord) :
    (peerViewWord c r 3).toNat = r.outbound.toNat + 256 * (r.lastApplied.getD 0).toNat := by
  simp only [peerViewWord, toNat_append_eq]
  omega

/-- A time since last heard fits its word in seconds. -/
theorem WellKept.heardAgo_lt (h : WellKept s) (n : Station) : (peerOf n s).heardAgo / 1000 < 65536 := by
  obtain ⟨-, -, -, -, -, hpeers⟩ := h.bounded
  unfold peerOf
  split
  · rw [List.getD_eq_getElem?_getD]
    cases hr : s.peers[n.toNat - 1]? with
    | none => decide
    | some r =>
      obtain ⟨-, -, hlimit⟩ := hpeers r (List.mem_of_getElem? hr)
      have hbyte := (r.interval.getD s.ctl.config.hbInterval).isLt
      show r.heardAgo / 1000 < 65536
      omega
  · decide

theorem ownerWord_toNat (g : Word) (e : DirEntry) : (dirViewWord g (some e) 1).toNat = e.length.toNat + 256 * e.owner.toNat := by
  simp only [dirViewWord, toNat_append_eq, BitVec.toNat_ofNat]
  omega

theorem attributesWord_toNat (g : Word) (e : DirEntry) :
    (dirViewWord g (some e) 2).toNat =
      e.readWrite.toNat + 2 * e.prefetch.toNat + 4 * e.own.isSome.toNat + 8 * (e.own.getD 0).toNat := by
  simp only [dirViewWord, toNat_append_eq, BitVec.toNat_ofNat, BitVec.toNat_ofBool]
  omega

theorem readStateWord_toNat (e : ReadEntry) (rank : Nat) :
    (readViewWord e rank 0).toNat =
      (readStateCode e.state).toNat + 8 * e.prefetch.toNat + 16 * e.delivered.toNat + 32 * e.overtaken.toNat + 256 * e.dest.toNat := by
  simp only [readViewWord, toNat_append_eq, BitVec.toNat_ofNat, BitVec.toNat_ofBool]
  omega

theorem readAddrWord_toNat {e : ReadEntry} (rank : Nat) (h : e.length < 256) :
    (readViewWord e rank 2).toNat = e.addr.toNat / 65536 + 256 * e.length := by
  have ha := e.addr.isLt
  simp only [readViewWord, toNat_append_eq, BitVec.toNat_ofNat, toNat_field]
  omega

theorem readAttemptsWord_toNat {e : ReadEntry} (rank : Nat) (h : e.attempts < 16) :
    (readViewWord e rank 3).toNat = e.incarnation.toNat + 256 * e.attempts := by
  simp only [readViewWord, toNat_append_eq, BitVec.toNat_ofNat]
  omega

theorem readAheadWord_toNat {e : ReadEntry} (rank : Nat) (h : e.state = .waiting → e.ahead < 256) :
    (readViewWord e rank 4).toNat = (outcomeCode e.outcome).toNat + (if e.state = .waiting then 256 * e.ahead else 0) := by
  simp only [readViewWord, toNat_append_eq]
  split
  next hw =>
    have hahead := h hw
    rw [BitVec.toNat_ofNat]
    omega
  · simp

theorem readRankWord_toNat (e : ReadEntry) {rank : Nat} (h : rank < 8) :
    (readViewWord e rank 6).toNat = e.barrier.isSome.toNat + 256 * rank := by
  simp only [readViewWord, toNat_append_eq, BitVec.toNat_ofNat, BitVec.toNat_ofBool]
  omega

theorem outcomeCode_toNat (o : Option ReadOutcome) :
    (outcomeCode o).toNat = (match o with | some (.fault r) => (reasonCode r).toNat | _ => 0) := by
  obtain _ | _ | r := o
  · rfl
  · rfl
  · cases r <;> rfl

/-! ### The rank of a read -/

theorem rankOf_of_not_mem {i : ReadIndex} (h : i ∉ s.reads.order) : rankOf i s = 0 := by
  simp [rankOf, h]

theorem rankOf_of_split {i : ReadIndex} {older newer : List ReadIndex} (hnodup : s.reads.order.Nodup)
    (h : s.reads.order = older ++ i :: newer) : rankOf i s = older.length := by
  rw [h] at hnodup
  have hi : i ∉ older := fun hi => by
    have hdisjoint := List.disjoint_of_nodup_append hnodup
    exact hdisjoint hi List.mem_cons_self
  simp [rankOf, h, List.idxOf_append, hi]

theorem rankOf_lt (h : s.reads.order.Nodup) (i : ReadIndex) : rankOf i s < 8 := by
  have hfew : s.reads.order.length ≤ 8 := (h.subperm fun i _ => mem_allReadIndexes i).length_le
  unfold rankOf
  split
  next hi =>
    have hlt := List.idxOf_lt_length_of_mem (List.contains_iff_mem.mp hi)
    omega
  · decide

/-! ### The bounds that the words of a read need -/

theorem WellKept.read_fits (h : WellKept s) (i : ReadIndex) :
    (readAt i s).length < 256 ∧ (readAt i s).attempts < 16 ∧ ((readAt i s).state = .waiting → (readAt i s).ahead < 256) := by
  have hmem := (mem_reads_iff h.sized.2.1 (readAt i s)).mpr ⟨i, rfl⟩
  obtain ⟨hfree, hshape, -⟩ := h.shapes
  obtain ⟨hattempts, -⟩ := h.attempts.1 _ hmem
  have hretries := s.ctl.config.retryLimit.isLt
  have hqueue : s.writes.queue.length ≤ 16 := h.capacity.2.1
  refine ⟨?_, by omega, fun hw => ?_⟩
  · by_cases hstate : (readAt i s).state = .free
    · rw [hfree _ hmem hstate]
      show 0 < 256
      decide
    · obtain ⟨-, hlength⟩ := hshape _ hmem hstate
      omega
  · obtain ⟨-, hahead⟩ := (h.barriers _ hmem).1 hw
    omega

/-- Settles O49. -/
theorem viewWords : Obligations.ViewWords := by
  intro s hk at'
  refine ⟨fun n hn => ?_, fun k hlt => ?_, fun i => ?_⟩
  · have hat {j : Nat} (hj : j < 4) : at' (0x8100 + 8 * (n.toNat - 1) + 2 * j) = (peerViewWord s.ctl.config (peerOf n s) j).toNat :=
      congrArg BitVec.toNat (readWord_peerView hn hj s)
    refine ⟨(hat (j := 0) (by decide)).trans ((peerStateWord_toNat _).trans ?_),
      (hat (j := 1) (by decide)).trans (intervalWord_toNat _ _), (hat (j := 2) (by decide)).trans ?_,
      (hat (j := 3) (by decide)).trans (sequencesWord_toNat _ _)⟩
    · cases (peerOf n s).presence <;> rfl
    · exact (BitVec.toNat_ofNat _ _).trans (Nat.mod_eq_of_lt (hk.heardAgo_lt n))
  · have hat {j : Nat} (hj : j < 4) : at' (0x8200 + 8 * k + 2 * j) = (dirViewWord s.dir.generation s.dir.entries[k]? j).toNat :=
      congrArg BitVec.toNat (readWord_dirView hlt hj s)
    refine ⟨(hat (j := 3) (by decide)).trans ?_, fun hk => ?_, fun e he => ?_⟩
    · cases s.dir.entries[k]? <;> rfl
    · have hnone : s.dir.entries[k]? = none := List.getElem?_eq_none hk
      rw [hnone] at hat
      exact ⟨hat (j := 0) (by decide), hat (j := 1) (by decide), hat (j := 2) (by decide)⟩
    · rw [he] at hat
      exact ⟨hat (j := 0) (by decide), (hat (j := 1) (by decide)).trans (ownerWord_toNat _ e),
        (hat (j := 2) (by decide)).trans (attributesWord_toNat _ e)⟩
  · have hat {j : Nat} (hj : j < 8) : at' (0x8400 + 16 * i.toNat + 2 * j) = (readViewWord (readAt i s) (rankOf i s) j).toNat :=
      congrArg BitVec.toNat (readWord_readView i hj s)
    obtain ⟨hlength, hattempts, hahead⟩ := hk.read_fits i
    have hrank := readRankWord_toNat (readAt i s) (rankOf_lt hk.ranks.1 i)
    refine ⟨(hat (j := 0) (by decide)).trans ((readStateWord_toNat _ _).trans ?_), (hat (j := 1) (by decide)).trans (lowAddr_toNat _),
      (hat (j := 2) (by decide)).trans (readAddrWord_toNat _ hlength), (hat (j := 3) (by decide)).trans (readAttemptsWord_toNat _ hattempts),
      (hat (j := 4) (by decide)).trans ((readAheadWord_toNat _ hahead).trans ?_), hat (j := 5) (by decide), fun hi => ?_,
      fun older newer hsplit => ?_, hat (j := 7) (by decide)⟩
    · cases (readAt i s).state <;> rfl
    · exact congrArg (· + _) (outcomeCode_toNat _)
    · refine ((hat (j := 6) (by decide)).trans hrank).trans ?_
      rw [rankOf_of_not_mem hi]
      rfl
    · refine ((hat (j := 6) (by decide)).trans hrank).trans ?_
      rw [rankOf_of_split hk.ranks.1 hsplit]

end Sys2Proof.Machine


/-! ## The output pins (Table 10.1, R1, R3, R9, R167) -/

namespace Sys2Proof.Machine

variable {s : State}

/-! ### INT# -/

theorem ne_zero_iff_bit {k : Nat} (x : BitVec k) : (x != 0) = true ↔ ∃ i, x.getLsbD i = true := by
  rw [bne_iff_ne, ne_eq, BitVec.eq_of_getLsbD_eq_iff]
  simp only [not_forall, BitVec.ofNat_eq_ofNat, BitVec.getLsbD_zero, Bool.not_eq_false]
  exact ⟨fun ⟨i, _, h⟩ => ⟨i, h⟩, fun ⟨i, h⟩ => ⟨i, BitVec.lt_of_getLsbD h, h⟩⟩

theorem getElem?_some_iff_getD {l : List Bool} {k : Nat} : l[k]? = some true ↔ l.getD k false = true := by
  rw [List.getD_eq_getElem?_getD]
  cases l[k]? <;> simp

/-- INT# is low exactly while a flag is set together with its enable. -/
theorem intLow_iff (s : State) :
    intLow s = true ↔
      ∃ k, k < 9 ∧ s.ev.enables.getLsbD k = true ∧
        [!s.resp.notices.isEmpty, s.ev.fault.isSome, s.ev.flags.peer, s.ev.flags.directory, s.ev.flags.conflict,
          s.ev.flags.eclipse, s.ev.flags.span, s.ev.flags.discard, s.ev.flags.overrun][k]? = some true := by
  rw [intLow, ne_zero_iff_bit]
  refine exists_congr fun k => ?_
  rw [BitVec.getLsbD_and, flagsWord_bit, getElem?_some_iff_getD, BitVec.getLsbD_setWidth, Bool.and_eq_true, Bool.and_eq_true,
    decide_eq_true_eq]
  constructor
  · rintro ⟨hflag, -, henable⟩
    exact ⟨BitVec.lt_of_getLsbD henable, henable, hflag⟩
  · rintro ⟨hk, henable, hflag⟩
    exact ⟨hflag, by omega, henable⟩

/-! ### SPTX -/

/-- Bit `10 q + r` of a frame is bit `r` of its byte `q`. -/
theorem frameLevels_at : ∀ {image : List Byte} {q r : Nat} {b : Byte}, image[q]? = some b → r < 10 →
    (frameLevels image)[10 * q + r]? = (byteLevels b)[r]?
  | c :: image, 0, r, b, h, hr => by
    obtain rfl : c = b := by simpa using h
    rw [frameLevels, List.flatMap_cons, Nat.mul_zero, Nat.zero_add]
    exact List.getElem?_append_left hr
  | c :: image, q + 1, r, b, h, hr => by
    have hrest := frameLevels_at (image := image) (q := q) (b := b) (by simpa using h) hr
    rw [frameLevels, List.flatMap_cons, List.getElem?_append_right (by show 10 ≤ _; omega), ← hrest]
    exact congrArg ((frameLevels image)[·]?) (show 10 * (q + 1) + r - 10 = 10 * q + r by omega)

/-- The bit of a byte now on the line: the start bit, a data bit with the most significant first, or the stop bit. -/
theorem sptxLevel_of_byte {x : Transmission} {b : Byte} (hx : s.iface.tx = some x) (hp : x.phase = .arbitrating ∨ x.phase = .sending)
    (hb : x.image[x.bitsSent / 10]? = some b) : some (sptxLevel s) = (byteLevels b)[x.bitsSent % 10]? := by
  have hlt : x.bitsSent % 10 < 10 := Nat.mod_lt _ (by decide)
  have hat := frameLevels_at hb hlt
  rw [Nat.div_add_mod] at hat
  have hlevel : sptxLevel s = (frameLevels x.image).getD x.bitsSent .recessive := by
    unfold sptxLevel
    rw [hx]
    obtain hp | hp := hp <;> simp only [hp]
  have hbit : (byteLevels b)[x.bitsSent % 10]? = some ((byteLevels b)[x.bitsSent % 10]'hlt) := List.getElem?_eq_getElem hlt
  rw [hlevel, List.getD_eq_getElem?_getD, hat, hbit]
  rfl

theorem intLow_of_no_enable (h : s.ev.enables = 0) : intLow s = false := by
  simp [intLow, h]

/-- Settles O7. -/
theorem pinsShowTheState : Obligations.PinsShowTheState := by
  refine ⟨fun s => ⟨intLow_iff s, fun hc => ?_, fun c hc => ?_, fun hx => ?_, fun x hx => ⟨?_, fun b hb => ?_, fun byte hp hbyte => ?_⟩⟩,
    fun s c hc => ?_⟩
  · simp [rdyHigh, rspPins, dataPins, hc]
  · refine ⟨by simp [rdyHigh, hc], by simp [dataPins, hc], fun hr => ?_, fun hr => ?_, fun hr => ?_⟩ <;>
      simp [rspPins, hc, hr, replyCode]
  · simp [sptxenAsserted, sptxLevel, hx]
  · simp [sptxenAsserted, hx]
  · simp [sptxLevel, hx, hb]
  · have hlevel := sptxLevel_of_byte hx hp hbyte
    refine ⟨fun h0 => ?_, fun k hk hbit => ?_, fun h9 => ?_⟩
    · rw [h0] at hlevel
      exact Option.some.inj hlevel
    · rw [hbit] at hlevel
      refine Option.some.inj (hlevel.trans ?_)
      interval_cases k <;> rfl
    · rw [h9] at hlevel
      exact Option.some.inj hlevel
  · obtain rfl | rfl := hc
    · exact ⟨powerOnState s, rfl, intLow_of_no_enable rfl, rfl, rfl, rfl, rfl, rfl⟩
    · exact ⟨pinResetState s, rfl, intLow_of_no_enable rfl, rfl, rfl, rfl, rfl, rfl⟩

end Sys2Proof.Machine

end
